-- ==== Sys2Proof/Word.lean ====
section
/-! DEFINITION. The word types of the JT-24: ring bytes, junction time, and the numbered objects of the part. -/

namespace Sys2Proof

/-- One byte of a ring frame (R178). -/
abbrev Byte := BitVec 8

/-- Junction time: an unsigned 32-bit count of 0.1 s units since power-on (R1). -/
abbrev Time := BitVec 32

/-- Signal groups G1 to G24, held as 0 to 23: `g.val + 1` is the group's number. -/
abbrev Group := Fin 24

/-- Stages S1 to S16, held as 0 to 15. -/
abbrev Stage := Fin 16

/-- Plans P1 to P4, held as 0 to 3. -/
abbrev Plan := Fin 4

/-- Loops L1 to L32, held as 0 to 31. -/
abbrev Loop := Fin 32

/-- Detector assignment entries 1 to 64, held as 0 to 63. -/
abbrev Assign := Fin 64

/-- Button table and route table entries 1 to 32, held as 0 to 31. -/
abbrev Entry := Fin 32

/-- Tram record slots 0 to 7. -/
abbrev TramSlot := Fin 8

/-- Slots of a lamp module and channels of a loop card, 0 to 3. -/
abbrev Slot := Fin 4

/-- The byte that holds `n` (its low eight bits). -/
abbrev b8 (n : Nat) : Byte := BitVec.ofNat 8 n

end Sys2Proof
end

