-- ==== Sys2Proof/Syntax.lean ====
section
/-! DEFINITION. The commands of the JT-24: one constructor per row of spec/opcode_table.json. A command that is a frame
carries the frame's header and the payload bytes that the row does not fix; a command that is a moment reached (a
timer's expiry, a port grant) carries the object whose moment it is. -/

namespace Sys2Proof

/-- The two ring ports: the head port faces the strategy computer, the field port the field modules. -/
inductive Port where
  | head
  | field
deriving DecidableEq, Repr

/-- The two ambient light sensors (R175). -/
inductive Sensor where
  | a
  | b
deriving DecidableEq, Repr

/-- Positions 2, 3 and 5 of a frame (R178): destination, source, flags. -/
structure Header where
  dst : Byte
  src : Byte
  flags : Byte
deriving DecidableEq, Repr

/-- A frame without its preamble, payload length byte and CRC, which its other fields determine (R178). -/
structure Frame where
  dst : Byte
  src : Byte
  kind : Byte
  flags : Byte
  payload : List Byte
deriving DecidableEq, Repr

/-- The commands, one constructor per row of spec/opcode_table.json. `h` is a frame's header; `rest` the payload after
the bytes the row fixes (a command code, a table code, a panel key); `pl` a whole payload. -/
inductive Instr where
  | powerOn (strap : BitVec 3)
  | flashOn (h : Header) (rest : List Byte)
  | dark (h : Header) (rest : List Byte)
  | start (h : Header) (rest : List Byte)
  | stop (h : Header) (rest : List Byte)
  | restart (h : Header) (rest : List Byte)
  | clearFault (h : Header) (rest : List Byte)
  | take (h : Header) (rest : List Byte)
  | release (h : Header) (rest : List Byte)
  | goStage (h : Header) (rest : List Byte)
  | hold (h : Header) (rest : List Byte)
  | planSelect (h : Header) (rest : List Byte)
  | softDemand (h : Header) (rest : List Byte)
  | priorityEnable (h : Header) (rest : List Byte)
  | cancelTram (h : Header) (rest : List Byte)
  | keepaliveArm (h : Header) (pl : List Byte)
  | keepaliveRefresh (h : Header) (pl : List Byte)
  | tableWriteGroup (h : Header) (rest : List Byte)
  | tableWriteConflict (h : Header) (rest : List Byte)
  | tableWriteIntergreen (h : Header) (rest : List Byte)
  | tableWriteStage (h : Header) (rest : List Byte)
  | tableWritePermitted (h : Header) (rest : List Byte)
  | tableWritePlan (h : Header) (rest : List Byte)
  | tableWriteLoop (h : Header) (rest : List Byte)
  | tableWriteAssignment (h : Header) (rest : List Byte)
  | tableWriteButton (h : Header) (rest : List Byte)
  | tableWriteRoute (h : Header) (rest : List Byte)
  | tableWriteSettings (h : Header) (rest : List Byte)
  | tableRead (h : Header) (pl : List Byte)
  | queryStatus (h : Header) (rest : List Byte)
  | queryCounts (h : Header) (rest : List Byte)
  | queryFaultRecord (h : Header) (rest : List Byte)
  | queryTramTable (h : Header) (rest : List Byte)
  | badKindFrame (h : Header) (kind : Byte) (pl : List Byte)
  | loopCounts (h : Header) (pl : List Byte)
  | telegramCheckIn (h : Header) (pl : List Byte)
  | telegramDoorClosed (h : Header) (pl : List Byte)
  | telegramCheckOut (h : Header) (pl : List Byte)
  | telegramCancel (h : Header) (pl : List Byte)
  | lampStatus (h : Header) (pl : List Byte)
  | flashKey (h : Header) (rest : List Byte)
  | manualOn (h : Header) (rest : List Byte)
  | manualOff (h : Header) (rest : List Byte)
  | stepKey (h : Header) (rest : List Byte)
  | pushButton (h : Header) (pl : List Byte)
  | sensorReading (h : Header) (pl : List Byte)
  | foreignAspect (p : Port) (h : Header) (pl : List Byte)
  | forwardFrame (p : Port) (h : Header) (kind : Byte) (pl : List Byte)
  | crcErrorFrame (p : Port) (bytes : List Byte)
  | linkTimeout (p : Port)
  | forwardAgeDiscard (p : Port)
  | headPortGrant
  | fieldPortGrant
  | startFlashEnd
  | startupAllRedEnd
  | shutdownAllRedEnd
  | keepaliveWindowExpiry
  | keepaliveArmExpiry
  | groupEnterStarting (g : Group)
  | groupEnterGreen (g : Group)
  | minGreenMet (g : Group)
  | clearingEnd (g : Group)
  | minEnd
  | maxOut
  | extensionHoldEnd
  | truncationPointReached
  | gapTimerExpiry (g : Group)
  | demandDelayExpiry (a : Assign)
  | cardSilenceExpiry (addr : Byte)
  | tuneEchoExpiry (l : Loop)
  | tuneRetryExpiry (l : Loop)
  | stopLimitExpiry (t : TramSlot)
  | windowEndExpiry (t : TramSlot)
  | guardEndExpiry (t : TramSlot)
  | lockoutExpiry
  | refreshTimerExpiry (addr : Byte)
  | moduleSilenceExpiry (addr : Byte)
  | confirmTimeout (g : Group)
  | sensorFreshnessExpiry (x : Sensor)
  | qualificationTimerExpiry
  | settlingWindowEnd
deriving DecidableEq, Repr

end Sys2Proof
end

