-- ==== Sys2Proof/Decode.lean ====
section
/-! DEFINITION. Frames as bytes on the ring: the CRC, the layout of R178, the checks of R180, and which command of the
table a checked frame is (R181, R186). The table gives no row any bits, so `decodeTableWord` spells no command. -/

namespace Sys2Proof

/-- The command a table word spells: no row of spec/opcode_table.json gives bits, so none. -/
def decodeTableWord (_nbits _w : Nat) : Option Instr := none

/-! ### Kind codes (R178) -/

def kindLoopCounts : Byte := 0x10#8
def kindTramTelegram : Byte := 0x11#8
def kindLampStatus : Byte := 0x12#8
def kindPanelKey : Byte := 0x13#8
def kindPushButton : Byte := 0x14#8
def kindSensorReading : Byte := 0x15#8
def kindAspectSet : Byte := 0x20#8
def kindLoopTune : Byte := 0x21#8
def kindButtonLamp : Byte := 0x22#8
def kindJunctionCmd : Byte := 0x30#8
def kindControlCmd : Byte := 0x31#8
def kindKeepaliveArm : Byte := 0x32#8
def kindKeepaliveRefresh : Byte := 0x33#8
def kindTableWrite : Byte := 0x34#8
def kindTableRead : Byte := 0x35#8
def kindQuery : Byte := 0x36#8
def kindReply : Byte := 0x40#8
def kindReport : Byte := 0x41#8

/-- The six kinds that field modules send, with the payload length of each (R178). -/
def fieldKindLength (k : Byte) : Option Nat :=
  if k = kindLoopCounts then some 16
  else if k = kindTramTelegram then some 9
  else if k = kindLampStatus then some 16
  else if k = kindPanelKey then some 1
  else if k = kindPushButton then some 1
  else if k = kindSensorReading then some 2
  else none

/-- Number of entry bytes of each table code (R188). -/
def entryLength : Nat → Option Nat
  | 0 => some 9 | 1 => some 1 | 2 => some 1 | 3 => some 7 | 4 => some 1 | 5 => some 81
  | 6 => some 20 | 7 => some 4 | 8 => some 3 | 9 => some 20 | 10 => some 16 | _ => none

/-! ### The CRC (R178: polynomial 0x1021, initial 0xFFFF, most significant bit first, no final inversion) -/

/-- `n` shifts of the CRC register. -/
def crcShift : Nat → BitVec 16 → BitVec 16
  | 0, c => c
  | n + 1, c => crcShift n (if c.getLsbD 15 then (c <<< 1) ^^^ 0x1021#16 else c <<< 1)

/-- The CRC register after the bytes. -/
def crcFrom : BitVec 16 → List Byte → BitVec 16
  | c, [] => c
  | c, b :: bs => crcFrom (crcShift 8 (c ^^^ ((b.setWidth 16) <<< 8))) bs

/-- The CRC-16 of the bytes at positions 2 to 6 + n (R178). -/
def crc16 (bs : List Byte) : BitVec 16 := crcFrom 0xFFFF#16 bs

/-- The two CRC bytes, high byte first (R178). -/
def crcBytes (bs : List Byte) : List Byte := [((crc16 bs) >>> 8).setWidth 8, (crc16 bs).setWidth 8]

/-! ### Frames as bytes -/

/-- Positions 2 to 6 + n of a frame (R178). -/
def frameBody (f : Frame) : List Byte :=
  f.dst :: f.src :: f.kind :: f.flags :: b8 f.payload.length :: f.payload

/-- The bytes of a frame on the ring (R178). -/
def encodeFrame (f : Frame) : List Byte :=
  0xC3#8 :: 0x3C#8 :: (frameBody f ++ crcBytes (frameBody f))

/-- Destinations a frame may carry: 1 to 126, and 127 for broadcast (R178, R180). -/
def dstOk (d : Byte) : Bool := decide (1 ≤ d.toNat) && decide (d.toNat ≤ 127)

/-- The header and payload of a frame that passes the destination and length checks of R180. -/
def frameOk (f : Frame) : Bool := dstOk f.dst && decide (f.payload.length ≤ 240)

/-- What a port gathers: nothing without a preamble; a frame that fails the checks of R180; or a valid frame. -/
inductive Gathered where
  | nothing
  | bad
  | valid (f : Frame)
deriving DecidableEq, Repr

/-- The bytes from behind the first preamble on: bytes before a preamble are skipped (R180). -/
def afterPreamble : List Byte → Option (List Byte)
  | 0xC3#8 :: 0x3C#8 :: rest => some rest
  | _ :: rest => afterPreamble rest
  | [] => none

/-- The checks of R180 on the bytes behind the preamble: CRC, payload length, destination. -/
def checkBody : List Byte → Gathered
  | dst :: src :: kind :: flags :: len :: rest =>
    let pl := rest.take len.toNat
    let f : Frame := ⟨dst, src, kind, flags, pl⟩
    if rest.length = len.toNat + 2 ∧ frameOk f = true ∧ rest.drop len.toNat = crcBytes (dst :: src :: kind :: flags :: len :: pl)
    then .valid f else .bad
  | _ => .bad

/-- Gathering one frame from a port's bytes (R180). -/
def gather (bs : List Byte) : Gathered :=
  match afterPreamble bs with
  | none => .nothing
  | some rest => checkBody rest

/-- A frame's header. -/
def Frame.header (f : Frame) : Header := ⟨f.dst, f.src, f.flags⟩

/-- The frame with this header, kind and payload. -/
def Header.frame (h : Header) (kind : Byte) (pl : List Byte) : Frame := ⟨h.dst, h.src, kind, h.flags, pl⟩

/-! ### Which command a valid frame is (R181, R186, R187) -/

/-- The command of a frame handed to the Command Unit. -/
def commandOf (f : Frame) : Instr :=
  let h := f.header
  let bad := Instr.badKindFrame h f.kind f.payload
  if f.kind = kindKeepaliveArm then .keepaliveArm h f.payload
  else if f.kind = kindKeepaliveRefresh then .keepaliveRefresh h f.payload
  else if f.kind = kindTableRead then .tableRead h f.payload
  else match f.payload with
  | [] => bad
  | c :: rest =>
    if f.kind = kindJunctionCmd then
      match c.toNat with
      | 0 => .flashOn h rest | 1 => .dark h rest | 2 => .start h rest
      | 3 => .stop h rest | 4 => .restart h rest | 5 => .clearFault h rest | _ => bad
    else if f.kind = kindControlCmd then
      match c.toNat with
      | 0 => .take h rest | 1 => .release h rest | 2 => .goStage h rest | 3 => .hold h rest
      | 4 => .planSelect h rest | 5 => .softDemand h rest | 6 => .priorityEnable h rest | 7 => .cancelTram h rest
      | _ => bad
    else if f.kind = kindTableWrite then
      match c.toNat with
      | 0 => .tableWriteGroup h rest | 1 => .tableWriteConflict h rest | 2 => .tableWriteIntergreen h rest
      | 3 => .tableWriteStage h rest | 4 => .tableWritePermitted h rest | 5 => .tableWritePlan h rest
      | 6 => .tableWriteLoop h rest | 7 => .tableWriteAssignment h rest | 8 => .tableWriteButton h rest
      | 9 => .tableWriteRoute h rest | 10 => .tableWriteSettings h rest | _ => bad
    else if f.kind = kindQuery then
      match c.toNat with
      | 0 => .queryStatus h rest | 1 => .queryCounts h rest | 2 => .queryFaultRecord h rest
      | 3 => .queryTramTable h rest | _ => bad
    else bad

/-- The command of a frame of a field kind with the right length, arriving at the field port. -/
def fieldCommandOf (f : Frame) : Instr :=
  let h := f.header
  let fwd := Instr.forwardFrame .field h f.kind f.payload
  if fieldKindLength f.kind = some f.payload.length then
    if f.kind = kindLoopCounts then .loopCounts h f.payload
    else if f.kind = kindTramTelegram then
      match (f.payload.getD 1 0#8).toNat with
      | 1 => .telegramDoorClosed h f.payload
      | 2 => .telegramCheckOut h f.payload
      | 3 => .telegramCancel h f.payload
      | _ => .telegramCheckIn h f.payload
    else if f.kind = kindLampStatus then .lampStatus h f.payload
    else if f.kind = kindPanelKey then
      match (f.payload.getD 0 0#8).toNat with
      | 0 => .flashKey h [] | 1 => .manualOn h [] | 2 => .manualOff h [] | 3 => .stepKey h [] | _ => fwd
    else if f.kind = kindPushButton then .pushButton h f.payload
    else .sensorReading h f.payload
  else fwd

/-- The command that a valid frame is, arriving at port `p` of the part whose ring address is `own` (R181). -/
def frameCommand (own : Byte) (p : Port) (f : Frame) : Instr :=
  if f.kind = kindAspectSet then .foreignAspect p f.header f.payload
  else match p with
  | .field => fieldCommandOf f
  | .head =>
    if (fieldKindLength f.kind).isSome then .forwardFrame .head f.header f.kind f.payload
    else if f.dst = own ∨ f.dst = 127#8 then commandOf f
    else .forwardFrame .head f.header f.kind f.payload

/-- The command that the bytes gathered at a port are: none without a preamble. -/
def decodeRing (own : Byte) (p : Port) (bs : List Byte) : Option Instr :=
  match gather bs with
  | .nothing => none
  | .bad => some (.crcErrorFrame p bs)
  | .valid f => some (frameCommand own p f)

/-- The port and frame of a command that is a valid frame. -/
def frameOf : Instr → Option (Port × Frame)
  | .flashOn h r => some (.head, h.frame kindJunctionCmd (b8 0 :: r))
  | .dark h r => some (.head, h.frame kindJunctionCmd (b8 1 :: r))
  | .start h r => some (.head, h.frame kindJunctionCmd (b8 2 :: r))
  | .stop h r => some (.head, h.frame kindJunctionCmd (b8 3 :: r))
  | .restart h r => some (.head, h.frame kindJunctionCmd (b8 4 :: r))
  | .clearFault h r => some (.head, h.frame kindJunctionCmd (b8 5 :: r))
  | .take h r => some (.head, h.frame kindControlCmd (b8 0 :: r))
  | .release h r => some (.head, h.frame kindControlCmd (b8 1 :: r))
  | .goStage h r => some (.head, h.frame kindControlCmd (b8 2 :: r))
  | .hold h r => some (.head, h.frame kindControlCmd (b8 3 :: r))
  | .planSelect h r => some (.head, h.frame kindControlCmd (b8 4 :: r))
  | .softDemand h r => some (.head, h.frame kindControlCmd (b8 5 :: r))
  | .priorityEnable h r => some (.head, h.frame kindControlCmd (b8 6 :: r))
  | .cancelTram h r => some (.head, h.frame kindControlCmd (b8 7 :: r))
  | .keepaliveArm h pl => some (.head, h.frame kindKeepaliveArm pl)
  | .keepaliveRefresh h pl => some (.head, h.frame kindKeepaliveRefresh pl)
  | .tableWriteGroup h r => some (.head, h.frame kindTableWrite (b8 0 :: r))
  | .tableWriteConflict h r => some (.head, h.frame kindTableWrite (b8 1 :: r))
  | .tableWriteIntergreen h r => some (.head, h.frame kindTableWrite (b8 2 :: r))
  | .tableWriteStage h r => some (.head, h.frame kindTableWrite (b8 3 :: r))
  | .tableWritePermitted h r => some (.head, h.frame kindTableWrite (b8 4 :: r))
  | .tableWritePlan h r => some (.head, h.frame kindTableWrite (b8 5 :: r))
  | .tableWriteLoop h r => some (.head, h.frame kindTableWrite (b8 6 :: r))
  | .tableWriteAssignment h r => some (.head, h.frame kindTableWrite (b8 7 :: r))
  | .tableWriteButton h r => some (.head, h.frame kindTableWrite (b8 8 :: r))
  | .tableWriteRoute h r => some (.head, h.frame kindTableWrite (b8 9 :: r))
  | .tableWriteSettings h r => some (.head, h.frame kindTableWrite (b8 10 :: r))
  | .tableRead h pl => some (.head, h.frame kindTableRead pl)
  | .queryStatus h r => some (.head, h.frame kindQuery (b8 0 :: r))
  | .queryCounts h r => some (.head, h.frame kindQuery (b8 1 :: r))
  | .queryFaultRecord h r => some (.head, h.frame kindQuery (b8 2 :: r))
  | .queryTramTable h r => some (.head, h.frame kindQuery (b8 3 :: r))
  | .badKindFrame h k pl => some (.head, h.frame k pl)
  | .loopCounts h pl => some (.field, h.frame kindLoopCounts pl)
  | .telegramCheckIn h pl => some (.field, h.frame kindTramTelegram pl)
  | .telegramDoorClosed h pl => some (.field, h.frame kindTramTelegram pl)
  | .telegramCheckOut h pl => some (.field, h.frame kindTramTelegram pl)
  | .telegramCancel h pl => some (.field, h.frame kindTramTelegram pl)
  | .lampStatus h pl => some (.field, h.frame kindLampStatus pl)
  | .flashKey h r => some (.field, h.frame kindPanelKey (b8 0 :: r))
  | .manualOn h r => some (.field, h.frame kindPanelKey (b8 1 :: r))
  | .manualOff h r => some (.field, h.frame kindPanelKey (b8 2 :: r))
  | .stepKey h r => some (.field, h.frame kindPanelKey (b8 3 :: r))
  | .pushButton h pl => some (.field, h.frame kindPushButton pl)
  | .sensorReading h pl => some (.field, h.frame kindSensorReading pl)
  | .foreignAspect p h pl => some (p, h.frame kindAspectSet pl)
  | .forwardFrame p h k pl => some (p, h.frame k pl)
  | .powerOn _ | .crcErrorFrame _ _ | .linkTimeout _ | .forwardAgeDiscard _ | .headPortGrant | .fieldPortGrant
  | .startFlashEnd | .startupAllRedEnd | .shutdownAllRedEnd | .keepaliveWindowExpiry | .keepaliveArmExpiry
  | .groupEnterStarting _ | .groupEnterGreen _ | .minGreenMet _ | .clearingEnd _ | .minEnd | .maxOut
  | .extensionHoldEnd | .truncationPointReached | .gapTimerExpiry _ | .demandDelayExpiry _ | .cardSilenceExpiry _
  | .tuneEchoExpiry _ | .tuneRetryExpiry _ | .stopLimitExpiry _ | .windowEndExpiry _ | .guardEndExpiry _
  | .lockoutExpiry | .refreshTimerExpiry _ | .moduleSilenceExpiry _ | .confirmTimeout _ | .sensorFreshnessExpiry _
  | .qualificationTimerExpiry | .settlingWindowEnd => none

end Sys2Proof
end

