-- ==== Sys2Proof/Config.lean ====
section
/-! DEFINITION. What the part fixes (capacities and fixed times of the rules) and the FREE VALUES: the values the
manual does not state, each an `opaque` constant without a body, so that nothing can be proved of what it is. -/

namespace Sys2Proof.Config

/-- Head-bound forward queue capacity (R182). -/
def headQueueCap : Nat := 16
/-- Field-bound forward queue capacity (R182). -/
def fieldQueueCap : Nat := 8
/-- Reply slots (R185). -/
def replySlots : Nat := 4
/-- Aspect class capacity (R184). -/
def aspectCap : Nat := 48
/-- LOOP_TUNE and BUTTON_LAMP class capacity (R184). -/
def auxCap : Nat := 32
/-- Event queue capacity (R193). -/
def eventCap : Nat := 64
/-- Most events of one REPORT (R194). -/
def reportCap : Nat := 8
/-- Where the read-clear counts saturate (R101, R159). -/
def countMax : Nat := 65535
/-- The longest timed span of the part (R1): no moment that the part waits for lies further ahead of junction time. -/
def maxSpan : Nat := 36000
/-- Link, card silence, module silence, echo, confirmation and forward-age time: 10 (1.0 s). -/
def second : Nat := 10
/-- Refresh interval of a lamp module (R164). -/
def refreshTime : Nat := 2
/-- Keepalive arm time (R56). -/
def armTime : Nat := 20
/-- Retry time after TUNE_FAIL (R106). -/
def retryTime : Nat := 600
/-- STOP_LIMIT of an AT_STOP record (R135). -/
def stopLimit : Nat := 6000
/-- Freshness of a sensor reading (R175). -/
def freshTime : Nat := 100
/-- Qualification time of a brightness change (R176). -/
def qualifyTime : Nat := 600
/-- Settling window after a brightness change (R173). -/
def settleTime : Nat := 20
/-- Valid samples in SETTLING before CLEAR (R99). -/
def settleSamples : Nat := 32
/-- Shift of negative recovery and of SETTLING (R95). -/
def fastShift : Nat := 2
/-- DESIGN CHOICE (log entry 6): the most stage starts that one command can bring about at one moment. -/
def stageFuel : Nat := 32

/-- FREE VALUE (log entry 10). What a HOLD whose value byte is neither on nor off is taken as: `some true` on,
`some false` off, `none` refused with BAD_ENTRY. R77 states the two values only. -/
opaque holdOtherValue : Byte → Option Bool

/-- FREE VALUE (log entry 11). Whether an entry is refused with BAD_ENTRY because bytes that R178 and R188 say are
"sent as 0" (an absent optional field's bytes, unused places of a list, the entry of an empty marker) are not 0. -/
opaque padRefused : List Byte → Bool

/-- FREE VALUE (log entry 12). The intergreen taken for a conflicting pair whose intergreen entry is empty: the
consistency check refuses such a table (R26), and no rule states a value. -/
opaque emptyIntergreen : Group → Group → Nat

/-- FREE VALUE (log entry 13). The byte that codes the lost flag in a REPORT (R194 names the flag and no code). -/
opaque lostFlagByte : Bool → Byte

end Sys2Proof.Config
end

