-- ==== Sys2Proof/Machine/State.lean ====
section
/-! DEFINITION. The state of the JT-24 as plain data: the tables and settings, every block's state as the "Values
after reset" tables of the chapters list it, junction time, the strap, and the queue of waiting commands. -/

namespace Sys2Proof.Machine

/-! ### Tables (chapters 1, 2, 4, 5, 6, 7, 10) -/

/-- The type field of a group table entry. -/
inductive GroupType where
  | unused | vehicle | pedestrian | tram
deriving DecidableEq, Repr

/-- The lamp mapping of a group: module ring address and slot (R2). -/
structure Mapping where
  addr : Byte
  slot : Slot
deriving DecidableEq, Repr

/-- A loaded group table entry (R2). -/
structure GroupEntry where
  type : GroupType
  minGreen : Nat
  ra : Nat
  clearing : Nat
  mapping : Option Mapping
deriving DecidableEq, Repr

/-- A loaded stage table entry (R20); bit g of `green` is set when group g is in the green set. -/
structure StageEntry where
  green : BitVec 24
  minTime : Nat
  skippable : Bool
  priorityOnly : Bool
deriving DecidableEq, Repr

/-- A loaded plan entry (R62). -/
structure PlanEntry where
  sequence : List Stage
  maxGreen : Vector Nat 16
  gapTime : Vector Nat 24
  startStage : Stage
  startFlash : Nat
  allRed : Nat
  extLimit : Nat
  lockout : Nat
deriving DecidableEq, Repr

/-- How a loop that is not reporting is treated (R114). -/
inductive FaultMode where
  | demand | ignore
deriving DecidableEq, Repr

/-- A loaded loop table entry (R89). -/
structure LoopEntry where
  card : Byte
  channel : Slot
  onThreshold : Nat
  offThreshold : Nat
  debounceOn : Nat
  debounceOff : Nat
  trackShift : Nat
  maxPresence : Nat
  faultMode : FaultMode
  recovery : Nat
  cmin : Nat
  cmax : Nat
  forwardRaw : Bool
deriving DecidableEq, Repr

/-- The function of a detector assignment entry (R113). -/
inductive DetFunction where
  | demandLocking | demandNonlocking | extend | lockingAndExtend
deriving DecidableEq, Repr

/-- A loaded detector assignment entry (R113). -/
structure AssignEntry where
  loop : Loop
  group : Group
  function : DetFunction
  delay : Nat
deriving DecidableEq, Repr

/-- A loaded button table entry (R123). -/
structure ButtonEntry where
  addr : Byte
  index : Fin 8
  group : Group
deriving DecidableEq, Repr

/-- A loaded route table entry (R132). -/
structure RouteEntry where
  code : Byte
  checkIn : Byte
  door : Option Byte
  checkOut : Byte
  group : Group
  priorityStage : Option Stage
  travel : Nat
  spread : Nat
  baseLevel : Nat
  late : Nat
  early : Nat
  maxExt : Nat
  guardTime : Nat
deriving DecidableEq, Repr

/-- The capture mode of the fault record (R191, R197). -/
inductive Capture where
  | allFaults | flashFaults
deriving DecidableEq, Repr

/-- The settings (R191), with their power-on defaults. Bit k of `mask` is the event kind coded k; LOOP_STATE is 3. -/
structure Settings where
  keepaliveWindow : Nat := 5
  allowance : Nat := 3
  mask : BitVec 21 := 0x1FFFF7#21
  capture : Capture := .flashFaults
  sensorA : Option Byte := none
  sensorB : Option Byte := none
  dimOn : Option Nat := none
  dimOff : Option Nat := none
deriving DecidableEq, Repr

/-- The Table Store: each entry loaded or empty, and the settings. -/
structure Tables where
  groups : Vector (Option GroupEntry) 24 := Vector.replicate 24 none
  conflict : Vector (Vector (Option Bool) 24) 24 := Vector.replicate 24 (Vector.replicate 24 none)
  intergreen : Vector (Vector (Option Nat) 24) 24 := Vector.replicate 24 (Vector.replicate 24 none)
  stages : Vector (Option StageEntry) 16 := Vector.replicate 16 none
  permitted : Vector (Vector (Option Bool) 16) 16 := Vector.replicate 16 (Vector.replicate 16 none)
  plans : Vector (Option PlanEntry) 4 := Vector.replicate 4 none
  loops : Vector (Option LoopEntry) 32 := Vector.replicate 32 none
  assigns : Vector (Option AssignEntry) 64 := Vector.replicate 64 none
  buttons : Vector (Option ButtonEntry) 32 := Vector.replicate 32 none
  routes : Vector (Option RouteEntry) 32 := Vector.replicate 32 none
  settings : Settings := {}
deriving DecidableEq, Repr

/-! ### Group Sequencer (chapter 1) -/

/-- The six group states (R4). -/
inductive GroupState where
  | dark | flashing | rest | starting | green | clearing
deriving DecidableEq, Repr

/-- A group of the Group Sequencer (R4 to R16). The three timers hold their due moments. -/
structure GroupRec where
  state : GroupState := .dark
  pendingGreen : Option Time := none
  greenStart : Option Time := none
  greenEnd : Option Time := none
  minMet : Bool := false
  startingDue : Option Time := none
  minGreenDue : Option Time := none
  clearingDue : Option Time := none
deriving DecidableEq, Repr

/-! ### Aspects and the Conflict Monitor (chapters 1, 2, 9) -/

/-- The aspects of R178's code table. -/
inductive Aspect where
  | dark | red | redAmber | green | amber | flashAmber | dontWalk | walk | flashWalk | stop | prepare | proceed | clear
deriving DecidableEq, Repr

/-- The Monitor's aspect classes (R31). -/
inductive AspectClass where
  | starting | green | clearing | rest | off
deriving DecidableEq, Repr

/-- The Monitor's record of one group (R31). -/
structure MonitorRec where
  passed : Option AspectClass := none
  rightOfWay : Bool := false
  clearingSeen : Option Time := none
  clearingEnd : Option Time := none
  awaiting : Bool := false
  confirmed : Option Time := none
deriving DecidableEq, Repr

/-- The junction's brightness (R175). -/
inductive Brightness where
  | bright | dim
deriving DecidableEq, Repr

/-! ### Lamp Interface (chapter 9) -/

/-- A refresh timer whose due moment a change-built frame has reached first (R168): the moment, and how many frames have
been handed for the module at it (MODEL's own field of `ModuleRec`: log entry 38). -/
structure RefreshOwed where
  at' : Time
  frames : Nat
deriving DecidableEq, Repr

/-- A module record (R164), with the refresh that is still to be given at this moment. -/
structure ModuleRec where
  addr : Byte
  sentAspects : Option (Vector Aspect 4) := none
  sentBrightness : Option Brightness := none
  refreshDue : Option Time := none
  refreshOwed : Option RefreshOwed := none
  silenceDue : Option Time := none
  silent : Bool := false
  noted : Vector Bool 4 := Vector.replicate 4 false
deriving DecidableEq, Repr

/-- A confirmation record: the green-end time and the confirmation timer's due moment (R164, R170). -/
structure ConfirmRec where
  greenEnd : Time
  due : Time
deriving DecidableEq, Repr

/-- A member of the failed-output set: module address, slot, output (R173). -/
structure FailedOutput where
  addr : Byte
  slot : Slot
  output : Fin 3
deriving DecidableEq, Repr

/-- A sensor's last reading and its freshness timer (R175). -/
structure SensorRec where
  value : Option Nat := none
  stamp : Option Time := none
  freshDue : Option Time := none
deriving DecidableEq, Repr

/-- The qualification run: the stamp at which it began and its timer (R176). -/
structure QualifyRun where
  began : Time
  due : Time
deriving DecidableEq, Repr

/-- The Lamp Interface. `modules` stand in ascending address; `settlingDue` is the open settling window's end. -/
structure LampUnit where
  modules : List ModuleRec := []
  confirms : Vector (Option ConfirmRec) 24 := Vector.replicate 24 none
  failed : List FailedOutput := []
  brightness : Brightness := .bright
  settlingDue : Option Time := none
  sensorA : SensorRec := {}
  sensorB : SensorRec := {}
  selected : Option Sensor := none
  run : Option QualifyRun := none
deriving DecidableEq, Repr

/-! ### Mode Controller (chapter 3) -/

/-- The junction modes (R38). -/
inductive Mode where
  | dark | flash | startup | running | shutdown
deriving DecidableEq, Repr

/-- The sub-phases of STARTUP and SHUTDOWN (R38); `allRed` stands for the one of both. -/
inductive SubPhase where
  | none | startFlash | allRed | firstStart | finishing | clearingAll
deriving DecidableEq, Repr

/-- The control source (R51). -/
inductive Source where
  | none | autonomous | directed | manual
deriving DecidableEq, Repr

/-- The keepalive state (R55). -/
inductive KeepState where
  | inactive | active | armed
deriving DecidableEq, Repr

/-- The keepalive: state, timers, and while ARMED the state it was armed from (R55). -/
structure Keepalive where
  state : KeepState := .inactive
  windowDue : Option Time := none
  armDue : Option Time := none
  remembered : Option KeepState := none
deriving DecidableEq, Repr

/-- The start values copied at START (R41). -/
structure StartValues where
  stage : Stage
  flashTime : Nat
  allRed : Nat
deriving DecidableEq, Repr

/-- How the part last came to its initial state (R61). -/
inductive RestartCause where
  | powerOn | restartFrame
deriving DecidableEq, Repr

/-- The Mode Controller (R61). `phaseDue` is the due moment of the timer of START_FLASH or ALL_RED (R42, R43, R46). -/
structure ModeUnit where
  mode : Mode := .dark
  sub : SubPhase := .none
  startValues : Option StartValues := none
  phaseDue : Option Time := none
  source : Source := .none
  keep : Keepalive := {}
  latch : Bool := false
  restartCause : RestartCause := .powerOn
  pendingStep : Bool := false
  ownerViolation : Bool := false
deriving DecidableEq, Repr

/-- The fault kinds of a fault notice (chapter 3). -/
inductive FaultKind where
  | conflictCommand | intergreenShort | confirmTimeout | unexpectedCurrent | redOut | moduleSilent
deriving DecidableEq, Repr

/-- A fault notice: kind, groups, module address, junction time (chapter 3). -/
structure FaultNotice where
  kind : FaultKind
  group1 : Option Group := none
  group2 : Option Group := none
  addr : Option Byte := none
  time : Time
deriving DecidableEq, Repr

/-! ### Stage Engine (chapter 4) -/

/-- The phases of the Stage Engine (R66). -/
inductive Phase where
  | idle | stageMin | stageRun | interstage
deriving DecidableEq, Repr

/-- The cause by which a stage ended (R67). -/
inductive EndCause where
  | gap | max | truncate | goStage | step | first
deriving DecidableEq, Repr

/-- The plan values taken at a stage start (R65). -/
structure Taken where
  sequence : List Stage
  maxGreen : Vector Nat 16
  gapTime : Vector Nat 24
  allRed : Nat
  extLimit : Nat
  lockout : Nat
deriving DecidableEq, Repr

/-- How gap-out came to the current stage: at which moment, and, once it has been read where it can end the stage, which
groups had demand then and have had it since, in ascending order (MODEL's own field of `StageRec`: log entry 46). -/
structure GapReading where
  since : Time
  standing : Option (List Group)
deriving DecidableEq, Repr

/-- The stage record: current stage, stage start, min-end, the max-out moment M while the max-green timer runs, and the
reading of gap-out while gap-out holds. -/
structure StageRec where
  stage : Stage
  start : Time
  minEnd : Time
  maxOut : Option Time := none
  gap : Option GapReading := none
deriving DecidableEq, Repr

/-- A losing group of an interstage (R79, R80, R82). -/
structure Losing where
  group : Group
  clearingEnd : Time
  confirmed : Option Time := none
  rest : Bool := false
deriving DecidableEq, Repr

/-- A gaining group of an interstage with its constraining groups (R79, R81, R82). -/
structure Gaining where
  group : Group
  constraining : List Group
  greenAt : Option Time := none
  green : Bool := false
deriving DecidableEq, Repr

/-- The interstage record (chapter 4), with the end cause that the STAGE_START of `toStage` will carry. -/
structure Interstage where
  fromStage : Option Stage
  toStage : Stage
  t0 : Time
  losing : List Losing
  gaining : List Gaining
  continuing : List Group
  cause : EndCause
deriving DecidableEq, Repr

/-- A green-end record of the Stage Engine (R80). -/
inductive GreenEnd where
  | absent | awaiting | confirmed (t : Time)
deriving DecidableEq, Repr

/-- The Stage Engine (R88). -/
structure StageUnit where
  phase : Phase := .idle
  activePlan : Plan := 0
  taken : Option Taken := none
  position : Nat := 0
  current : Option StageRec := none
  pendingGo : Option Stage := none
  hold : Bool := false
  inter : Option Interstage := none
  greenEnds : Vector GreenEnd 24 := Vector.replicate 24 .absent
deriving DecidableEq, Repr

/-! ### Loop Unit (chapter 5) -/

/-- The loop states. -/
inductive LoopState where
  | unused | waitingTune | tuning | settling | clear | occupied | fault
deriving DecidableEq, Repr

/-- The fault causes of a loop. -/
inductive LoopCause where
  | noOsc | outOfWindow | rise | cardSilent | tuneFail
deriving DecidableEq, Repr

/-- The step a sweep has reached (R104, R105). -/
inductive SweepStep where
  | awaitingEcho | discarding (n : Nat)
deriving DecidableEq, Repr

/-- A sweep record: the setting tried, the step, the echo timer (R103 to R105). -/
structure Sweep where
  tried : Option Nat := none
  step : SweepStep := .awaitingEcho
  echoDue : Option Time := none
deriving DecidableEq, Repr

/-- A loop record; `bf` is the baseline times 256, and `writtenAt` the moment of the write that began the present tuning
(R90; MODEL's own field: log entry 39). -/
structure LoopRec where
  state : LoopState := .unused
  cause : Option LoopCause := none
  setting : Option Nat := none
  bf : Option Nat := none
  onCount : Nat := 0
  offCount : Nat := 0
  invalidRun : Nat := 0
  settlingCount : Nat := 0
  recoveryRun : Nat := 0
  occupiedAt : Option Time := none
  retryDue : Option Time := none
  sweep : Option Sweep := none
  writtenAt : Option Time := none
  vehicles : Nat := 0
deriving DecidableEq, Repr

/-- A card record; the head of `wait` is the loop being swept. -/
structure CardRec where
  addr : Byte
  wait : List Loop := []
  silenceDue : Option Time := none
  silent : Bool := false
  forward : Bool := false
deriving DecidableEq, Repr

/-- The Loop Unit; `cards` stand in ascending address. -/
structure LoopUnit where
  recs : Vector LoopRec 32 := Vector.replicate 32 {}
  cards : List CardRec := []
deriving DecidableEq, Repr

/-! ### Demand Unit (chapter 6) -/

/-- A group's gap timer (R120). -/
inductive GapTimer where
  | expired | running (due : Time) | held
deriving DecidableEq, Repr

/-- A group's demand record: its latched sources, non-locking count, gap timer and gap time. Its push-button indicator
is lit exactly while BUTTON is latched (R125) and is read from `button`. -/
structure DemandRec where
  loop : Bool := false
  button : Bool := false
  soft : Bool := false
  nonLocking : Nat := 0
  gap : GapTimer := .expired
  gapTime : Nat := 30
deriving DecidableEq, Repr

/-- An assignment record. -/
structure AssignRec where
  delayDue : Option Time := none
  giving : Bool := false
  holding : Bool := false
deriving DecidableEq, Repr

/-- The Demand Unit (R128). -/
structure DemandUnit where
  active : Bool := false
  groups : Vector DemandRec 24 := Vector.replicate 24 {}
  assigns : Vector AssignRec 64 := Vector.replicate 64 {}
deriving DecidableEq, Repr

/-! ### Tram Unit (chapter 7) -/

/-- The states of a tram record. -/
inductive TramState where
  | atStop | approaching | overdue
deriving DecidableEq, Repr

/-- The kinds of a record timer (R139). -/
inductive TramTimer where
  | stopLimit | windowEnd | guardEnd
deriving DecidableEq, Repr

/-- A tram record. -/
structure TramRec where
  line : Nat
  run : Nat
  route : Byte
  group : Group
  priorityStage : Option Stage
  maxExt : Nat
  guardTime : Nat
  state : TramState
  level : Nat
  lateness : Int
  checkIn : Time
  doorClosed : Option Time
  e1 : Option Time
  e2 : Option Time
  greenGiven : Bool
  timer : TramTimer
  timerDue : Time
deriving DecidableEq, Repr

/-! ### Priority Unit (chapter 8) -/

/-- The extension hold offer: H, and the slot and level of the record that sets it (R154). -/
structure HoldOffer where
  holdTo : Time
  slot : TramSlot
  level : Nat
deriving DecidableEq, Repr

/-- The truncation offer: P, target stage, head slot and its level (R153). -/
structure TruncOffer where
  point : Time
  target : Stage
  slot : TramSlot
  level : Nat
deriving DecidableEq, Repr

/-- The Priority Unit (R162). Its stage view is the Stage Engine's stage record in STAGE_MIN and STAGE_RUN, and its
taken limit and lockout length are the Stage Engine's taken values (R149): they are stored there once. -/
structure PriorityUnit where
  queue : List TramSlot := []
  enable : Bool := true
  lockoutDue : Option Time := none
  holdOffer : Option HoldOffer := none
  truncOffer : Option TruncOffer := none
  extensionNoted : Bool := false
  served : Vector Nat 3 := Vector.replicate 3 0
deriving DecidableEq, Repr

/-! ### Report Unit (chapter 11) -/

/-- The 21 event kinds, in the order of the event mask (R191). -/
inductive EventKind where
  | modeChange | sourceChange | stageStart | loopState | loopFault | loopRecover | presenceLimit | tuneDone
  | tramCheckin | tramRefused | tramCheckout | tramLost | priorityAction | lampFail | fault | keepaliveLapse
  | foreignAspect | commandRefused | linkChange | forwardOverflow | dimChange
deriving DecidableEq, Repr

/-- An event: kind, stamp, subject byte and detail bytes (R193, R194). -/
structure Event where
  kind : EventKind
  stamp : Time
  subject : Byte
  detail : List Byte
deriving DecidableEq, Repr

/-- The kind field of the fault record. -/
inductive RecordKind where
  | fault (k : FaultKind) | lampFail | loopFault (c : LoopCause)
deriving DecidableEq, Repr

/-- The fault record when filled (R197). -/
structure FaultRec where
  kind : RecordKind
  group1 : Option Group
  group2 : Option Group
  loop : Option Loop
  stage : Option Stage
  time : Time
  addr : Option Byte
deriving DecidableEq, Repr

/-- The Report Unit (R198); bit k of `summary` is the event kind coded k, and MODE_CHANGE is 0. -/
structure ReportUnit where
  queue : List Event := []
  lost : Bool := false
  summary : BitVec 21 := 1#21
  record : Option FaultRec := none
deriving DecidableEq, Repr

/-! ### Ring Interface (chapter 10) -/

/-- A frame waiting in a forward queue with its arrival stamp (R182). -/
structure QueuedFrame where
  frame : Frame
  stamp : Time
deriving DecidableEq, Repr

/-- A port: link state and timer, the forward queue toward the port with its overflow flag, and the frame last
handed to the port. -/
structure PortRec where
  up : Bool := false
  linkDue : Option Time := none
  queue : List QueuedFrame := []
  overflow : Bool := false
  sent : Option Frame := none
deriving DecidableEq, Repr

/-- The Ring Interface (R192). -/
structure RingUnit where
  head : PortRec := {}
  field : PortRec := {}
  replies : List Frame := []
  aspects : List Frame := []
  aux : List Frame := []
  crcFlag : Bool := false
deriving DecidableEq, Repr

/-! ### The whole part -/

/-- What every block reads and no block's runtime action changes: junction time, strap, Table Store. -/
structure Env where
  now : Time := 0#32
  strap : BitVec 3 := 0#3
  tab : Tables := {}
deriving DecidableEq, Repr

/-- The runtime state of the blocks. `notices` are the fault notices handed to the Mode Controller and not yet taken
by it within the command that found them (MODEL's own field: log entry 5). -/
structure Rt where
  ring : RingUnit := {}
  mode : ModeUnit := {}
  groups : Vector GroupRec 24 := Vector.replicate 24 {}
  monitor : Vector MonitorRec 24 := Vector.replicate 24 {}
  lamp : LampUnit := {}
  stage : StageUnit := {}
  loops : LoopUnit := {}
  demand : DemandUnit := {}
  trams : Vector (Option TramRec) 8 := Vector.replicate 8 none
  priority : PriorityUnit := {}
  report : ReportUnit := {}
  notices : List FaultNotice := []
deriving DecidableEq, Repr

/-- The part: environment and blocks. -/
structure Part where
  env : Env := {}
  rt : Rt := {}
deriving DecidableEq, Repr

/-- The machine: the part and the queue of commands that are waiting, first in, first out. -/
structure State where
  pending : List Instr := []
  part : Part := {}
deriving DecidableEq, Repr

/-- Why the machine would stop with a fault: no rule of the manual stops the part, so there is no constructor. A fault
of the junction is a state of the part (FLASH with the latch set, R47), not a stop of the machine. Safe. -/
inductive Fault where
deriving DecidableEq, Repr

/-- Why a command has no meaning. -/
inductive Refusal where
  /-- Raised by an arm of `exec` whose command has no meaning yet; no arm raises it. Safe. -/
  | notModelled (mnemonic : String)
deriving DecidableEq, Repr

/-- The machine right after power-on (R61 and the "Values after reset" tables), with the strap at 0 (log entry 1) and
no command waiting. -/
def State.reset : State := {}

/-! ### Block updates -/

/-- Update the Ring Interface. -/
def Rt.withRing (r : Rt) (f : RingUnit → RingUnit) : Rt := { r with ring := f r.ring }
/-- Update the Mode Controller. -/
def Rt.withMode (r : Rt) (f : ModeUnit → ModeUnit) : Rt := { r with mode := f r.mode }
/-- Update the Group Sequencer. -/
def Rt.withGroups (r : Rt) (f : Vector GroupRec 24 → Vector GroupRec 24) : Rt := { r with groups := f r.groups }
/-- Update the Conflict Monitor. -/
def Rt.withMonitor (r : Rt) (f : Vector MonitorRec 24 → Vector MonitorRec 24) : Rt := { r with monitor := f r.monitor }
/-- Update the Lamp Interface. -/
def Rt.withLamp (r : Rt) (f : LampUnit → LampUnit) : Rt := { r with lamp := f r.lamp }
/-- Update the Stage Engine. -/
def Rt.withStage (r : Rt) (f : StageUnit → StageUnit) : Rt := { r with stage := f r.stage }
/-- Update the Loop Unit. -/
def Rt.withLoops (r : Rt) (f : LoopUnit → LoopUnit) : Rt := { r with loops := f r.loops }
/-- Update the Demand Unit. -/
def Rt.withDemand (r : Rt) (f : DemandUnit → DemandUnit) : Rt := { r with demand := f r.demand }
/-- Update the tram table. -/
def Rt.withTrams (r : Rt) (f : Vector (Option TramRec) 8 → Vector (Option TramRec) 8) : Rt := { r with trams := f r.trams }
/-- Update the Priority Unit. -/
def Rt.withPriority (r : Rt) (f : PriorityUnit → PriorityUnit) : Rt := { r with priority := f r.priority }
/-- Update the Report Unit. -/
def Rt.withReport (r : Rt) (f : ReportUnit → ReportUnit) : Rt := { r with report := f r.report }
/-- Update the fault notices in flight. -/
def Rt.withNotices (r : Rt) (f : List FaultNotice → List FaultNotice) : Rt := { r with notices := f r.notices }

end Sys2Proof.Machine
end

