-- ==== Sys2Proof/Machine/Ops.lean ====
section
/-! DEFINITION. The named operations every block uses: junction-time arithmetic, table lookups, element update, the
codes of named lists (R178), and the number bytes of payloads. -/

namespace Sys2Proof.Machine

/-! ### Junction time (R1): durations are differences of stamps, so every comparison is of a difference -/

/-- The time by which `t` lies before the furthest moment that can be awaited at `now` (R1: no timed span exceeds 36,000;
log entry 2). -/
def back (now t : Time) : Nat := (now + BitVec.ofNat 32 Config.maxSpan - t).toNat

/-- The moment `t` has been reached at `now`: it is none of the 36,000 counts ahead of junction time (R1, log entry 2). -/
def reached (now t : Time) : Bool := decide (Config.maxSpan ≤ back now t)

/-- The duration `d` has run at `now` since the stamp `c`: the difference of the two stamps is not below it (R1). -/
def elapsed (now c : Time) (d : Nat) : Bool := decide (d ≤ (now - c).toNat)

/-- The moment `d` after `t`. -/
def after (t : Time) (d : Nat) : Time := t + BitVec.ofNat 32 d

/-- The moment `d` before `t`. -/
def before (t : Time) (d : Nat) : Time := t - BitVec.ofNat 32 d

/-- The later of two moments, as they stand at `now`. -/
def laterOf (now a b : Time) : Time := if back now a ≤ back now b then a else b

/-- The earlier of two moments, as they stand at `now`. -/
def earlierOf (now a b : Time) : Time := if back now a ≤ back now b then b else a

/-- A timer that is running and whose due moment has been reached. -/
def isDue (now : Time) (d : Option Time) : Bool :=
  match d with
  | some t => reached now t
  | none => false

/-! ### Collections -/

/-- Change element `i` of a vector. -/
def upd {α : Type} {n : Nat} (v : Vector α n) (i : Fin n) (f : α → α) : Vector α n := v.set i.val (f (v.get i)) i.isLt

/-- G1 to G24 in ascending order. -/
def allGroups : List Group := List.finRange 24
/-- S1 to S16 in ascending order. -/
def allStages : List Stage := List.finRange 16
/-- L1 to L32 in ascending order. -/
def allLoops : List Loop := List.finRange 32
/-- Assignment entries in ascending order. -/
def allAssigns : List Assign := List.finRange 64
/-- Button and route entries in ascending order. -/
def allEntries : List Entry := List.finRange 32
/-- Tram slots in ascending order. -/
def allTramSlots : List TramSlot := List.finRange 8
/-- Slots of a lamp module, channels of a loop card, in ascending order. -/
def allSlots : List Slot := List.finRange 4

/-- Add an address to a strictly ascending list of addresses. -/
def insertAddr (a : Byte) : List Byte → List Byte
  | [] => [a]
  | b :: bs => if a.toNat < b.toNat then a :: b :: bs else if a = b then b :: bs else b :: insertAddr a bs

/-! ### Tables -/

/-- The part's ring address: 0x20 plus the strap value (R192). -/
def Env.own (e : Env) : Byte := 0x20#8 + e.strap.setWidth 8

/-- The type of a group; an empty entry counts as UNUSED (R3). -/
def Tables.gtype (t : Tables) (g : Group) : GroupType :=
  match t.groups.get g with
  | some x => x.type
  | none => .unused

/-- A group is defined (R3). -/
def Tables.isDefined (t : Tables) (g : Group) : Bool := t.gtype g != .unused

/-- The lamp mapping of a defined group (R3). -/
def Tables.mapping (t : Tables) (g : Group) : Option Mapping :=
  match t.groups.get g with
  | some x => if x.type = .unused then none else x.mapping
  | none => none

/-- The number of mapped groups (R3). -/
def Tables.mappedCount (t : Tables) : Nat := (allGroups.filter fun g => (t.mapping g).isSome).length

/-- Min green of a group's entry (0 for an empty entry). -/
def Tables.minGreen (t : Tables) (g : Group) : Nat := match t.groups.get g with | some x => x.minGreen | none => 0
/-- Starting time RA of a group's entry. -/
def Tables.ra (t : Tables) (g : Group) : Nat := match t.groups.get g with | some x => x.ra | none => 0
/-- Clearing time of a group's entry. -/
def Tables.clearing (t : Tables) (g : Group) : Nat := match t.groups.get g with | some x => x.clearing | none => 0

/-- The defined group that holds a module's slot: the lowest-numbered one mapped there (R164). -/
def Tables.holder (t : Tables) (addr : Byte) (slot : Slot) : Option Group :=
  allGroups.find? fun g => t.mapping g == some ⟨addr, slot⟩

/-- The slot a group holds, if it holds one (R164). -/
def Tables.slotOf (t : Tables) (g : Group) : Option Mapping :=
  match t.mapping g with
  | some m => if t.holder m.addr m.slot = some g then some m else none
  | none => none

/-- The mapped modules in ascending address (R164). -/
def Tables.mappedModules (t : Tables) : List Byte :=
  allGroups.foldl (fun acc g => match t.mapping g with | some m => insertAddr m.addr acc | none => acc) []

/-- The pair (i, j) is marked conflicting (R18). -/
def Tables.conflicts (t : Tables) (i j : Group) : Bool := (t.conflict.get i).get j == some true

/-- IG[i][j] (R19), a free value where the entry is empty (log entry 12). -/
def Tables.ig (t : Tables) (i j : Group) : Nat :=
  match (t.intergreen.get i).get j with
  | some n => n
  | none => Config.emptyIntergreen i j

/-- The transition from s to s' is permitted (R21). -/
def Tables.permits (t : Tables) (s s' : Stage) : Bool := (t.permitted.get s).get s' == some true

/-- The green set of a stage in ascending order; none for an empty entry. -/
def Tables.greenSet (t : Tables) (s : Stage) : List Group :=
  match t.stages.get s with
  | some x => allGroups.filter fun g => x.green.getLsbD g.val
  | none => []

/-- A group is in a stage's green set. -/
def Tables.inStage (t : Tables) (s : Stage) (g : Group) : Bool :=
  match t.stages.get s with
  | some x => x.green.getLsbD g.val
  | none => false

/-- The loaded assignment entries, ascending, that satisfy a test. -/
def Tables.assignsWhere (t : Tables) (q : AssignEntry → Bool) : List (Assign × AssignEntry) :=
  allAssigns.filterMap fun a =>
    match t.assigns.get a with
    | some x => if q x then some (a, x) else none
    | none => none

/-- The loops of a card, ascending (R90). -/
def Tables.cardLoops (t : Tables) (addr : Byte) : List Loop :=
  allLoops.filter fun l => match t.loops.get l with | some x => x.card == addr | none => false

/-- The distinct card addresses of the loaded loop entries, ascending. -/
def Tables.cardAddrs (t : Tables) : List Byte :=
  allLoops.foldl (fun acc l => match t.loops.get l with | some x => insertAddr x.card acc | none => acc) []

/-- The forward flag of a card: forward raw of its lowest-numbered loaded entry (R90). -/
def Tables.cardForward (t : Tables) (addr : Byte) : Bool :=
  match (t.cardLoops addr).head? with
  | some l => (match t.loops.get l with | some x => x.forwardRaw | none => false)
  | none => false

/-- An assignment function gives demand. -/
def DetFunction.givesDemand : DetFunction → Bool
  | .extend => false
  | _ => true

/-- An assignment function extends green. -/
def DetFunction.extends : DetFunction → Bool
  | .extend | .lockingAndExtend => true
  | _ => false

/-! ### Bytes of numbers (R178: the fewest whole bytes, most significant first) -/

/-- A one-byte number. -/
def enc1 (n : Nat) : List Byte := [b8 n]
/-- A two-byte number. -/
def enc2 (n : Nat) : List Byte := [b8 (n / 256), b8 n]
/-- A three-byte number. -/
def enc3 (n : Nat) : List Byte := [b8 (n / 65536), b8 (n / 256), b8 n]
/-- A four-byte junction time. -/
def encTime (t : Time) : List Byte := [(t >>> 24).setWidth 8, (t >>> 16).setWidth 8, (t >>> 8).setWidth 8, t.setWidth 8]
/-- The number that bytes hold, most significant first. -/
def num (bs : List Byte) : Nat := bs.foldl (fun n b => n * 256 + b.toNat) 0
/-- `n` zero bytes. -/
def zeros (n : Nat) : List Byte := List.replicate n 0#8
/-- An optional field of `n` bytes: presence byte, then the field or zeros (R178). -/
def encOpt (n : Nat) (x : Option (List Byte)) : List Byte :=
  match x with
  | some bs => 1#8 :: bs
  | none => 0#8 :: zeros n
/-- A two-valued named list: the value listed first is coded 0 (R178). -/
def encFirst (isFirst : Bool) : List Byte := [if isFirst then 0#8 else 1#8]
/-- The number byte of a group, G1 to G24. -/
def groupByte (g : Group) : Byte := b8 (g.val + 1)
/-- The number byte of a stage. -/
def stageByte (s : Stage) : Byte := b8 (s.val + 1)
/-- The number byte of a loop. -/
def loopByte (l : Loop) : Byte := b8 (l.val + 1)

/-! ### Codes of the named lists (R178: in the order in which each list is written where it is defined) -/

/-- Modes (R38). -/
def Mode.code : Mode → Nat
  | .dark => 0 | .flash => 1 | .startup => 2 | .running => 3 | .shutdown => 4
/-- Sub-phases (R38). -/
def SubPhase.code : SubPhase → Nat
  | .none => 0 | .startFlash => 1 | .allRed => 2 | .firstStart => 3 | .finishing => 4 | .clearingAll => 5
/-- Control sources (R51). -/
def Source.code : Source → Nat
  | .none => 0 | .autonomous => 1 | .directed => 2 | .manual => 3
/-- Keepalive states (R55). -/
def KeepState.code : KeepState → Nat
  | .inactive => 0 | .active => 1 | .armed => 2
/-- Stage Engine phases. -/
def Phase.code : Phase → Nat
  | .idle => 0 | .stageMin => 1 | .stageRun => 2 | .interstage => 3
/-- End causes (R67). -/
def EndCause.code : EndCause → Nat
  | .gap => 0 | .max => 1 | .truncate => 2 | .goStage => 3 | .step => 4 | .first => 5
/-- Loop states. -/
def LoopState.code : LoopState → Nat
  | .unused => 0 | .waitingTune => 1 | .tuning => 2 | .settling => 3 | .clear => 4 | .occupied => 5 | .fault => 6
/-- Loop fault causes. -/
def LoopCause.code : LoopCause → Nat
  | .noOsc => 0 | .outOfWindow => 1 | .rise => 2 | .cardSilent => 3 | .tuneFail => 4
/-- Tram record states. -/
def TramState.code : TramState → Nat
  | .atStop => 0 | .approaching => 1 | .overdue => 2
/-- Record timer kinds. -/
def TramTimer.code : TramTimer → Nat
  | .stopLimit => 0 | .windowEnd => 1 | .guardEnd => 2
/-- Fault kinds. -/
def FaultKind.code : FaultKind → Nat
  | .conflictCommand => 0 | .intergreenShort => 1 | .confirmTimeout => 2 | .unexpectedCurrent => 3 | .redOut => 4
  | .moduleSilent => 5
/-- Aspects (R178's table). -/
def Aspect.code : Aspect → Nat
  | .dark => 0 | .red => 1 | .redAmber => 2 | .green => 3 | .amber => 4 | .flashAmber => 5 | .dontWalk => 6
  | .walk => 7 | .flashWalk => 8 | .stop => 9 | .prepare => 10 | .proceed => 11 | .clear => 12
/-- Brightness. -/
def Brightness.code : Brightness → Nat
  | .bright => 0 | .dim => 1
/-- Group types. -/
def GroupType.code : GroupType → Nat
  | .unused => 0 | .vehicle => 1 | .pedestrian => 2 | .tram => 3
/-- Assignment functions. -/
def DetFunction.code : DetFunction → Nat
  | .demandLocking => 0 | .demandNonlocking => 1 | .extend => 2 | .lockingAndExtend => 3
/-- Event kinds, in the order of the event mask (R191). -/
def EventKind.code : EventKind → Nat
  | .modeChange => 0 | .sourceChange => 1 | .stageStart => 2 | .loopState => 3 | .loopFault => 4 | .loopRecover => 5
  | .presenceLimit => 6 | .tuneDone => 7 | .tramCheckin => 8 | .tramRefused => 9 | .tramCheckout => 10 | .tramLost => 11
  | .priorityAction => 12 | .lampFail => 13 | .fault => 14 | .keepaliveLapse => 15 | .foreignAspect => 16
  | .commandRefused => 17 | .linkChange => 18 | .forwardOverflow => 19 | .dimChange => 20
/-- Ports (R194). -/
def portCode : Port → Nat
  | .head => 0 | .field => 1
/-- Sensors (R194). -/
def sensorCode : Sensor → Nat
  | .a => 0 | .b => 1

/-- The result codes (R187). -/
inductive ResultCode where
  | ok | wrongMode | wrongSource | noKeepalive | fenced | badTable | badIndex | badEntry | checkFailed | faultLatched
  | notPermitted | notLoaded | badKind | badLength
deriving DecidableEq, Repr

/-- Codes 0 to 13 of the results (R187). -/
def ResultCode.code : ResultCode → Nat
  | .ok => 0 | .wrongMode => 1 | .wrongSource => 2 | .noKeepalive => 3 | .fenced => 4 | .badTable => 5 | .badIndex => 6
  | .badEntry => 7 | .checkFailed => 8 | .faultLatched => 9 | .notPermitted => 10 | .notLoaded => 11 | .badKind => 12
  | .badLength => 13

/-- The code that stands for NO_REPLY_SLOT in a COMMAND_REFUSED event (R194). -/
def noReplySlotCode : Nat := 14

/-- What an owner answers: the result code and the data of the result (R187). -/
structure Result where
  code : ResultCode
  data : List Byte := []
deriving DecidableEq, Repr

/-- An accepted command without data. -/
def Result.accepted : Result := ⟨.ok, []⟩

/-- A group is in GREEN. -/
def Rt.isGreen (r : Rt) (g : Group) : Bool := (r.groups.get g).state == .green

/-- The answer of a command: the next state with the part changed; the queue is as it was. -/
def State.onPart (s : State) (f : Part → Part) : Host.Outcome State Fault Refusal := .next { s with part := f s.part }

/-- A change of the blocks alone. -/
def Part.onRt (p : Part) (f : Env → Rt → Rt) : Part := { p with rt := f p.env p.rt }

end Sys2Proof.Machine
end

