-- ==== Sys2Proof/Machine/Flags.lean ====
section
/-! DEFINITION. Flags, events and the record of them: the sticky summary and the event queue with its lost flag
(R193), the fault record (R197), the owner-violation flag (R54), the CRC flag (R180) and the overflow flags of the
forward queues and transmit classes (R182, R184). -/

namespace Sys2Proof.Machine

/-- The Report Unit takes an event (R193): summary always; queue when enabled and room; lost flag when enabled and
full. -/
def ReportUnit.take (q : ReportUnit) (mask : BitVec 21) (ev : Event) : ReportUnit :=
  let q := { q with summary := q.summary ||| (1#21 <<< ev.kind.code) }
  if mask.getLsbD ev.kind.code then
    if q.queue.length < Config.eventCap then { q with queue := q.queue ++ [ev] } else { q with lost := true }
  else q

/-- Post an event (R193): stamped with the junction time, under the event mask as stored. -/
def post (e : Env) (kind : EventKind) (subject : Byte) (detail : List Byte) (r : Rt) : Rt :=
  r.withReport fun q => q.take e.tab.settings.mask ⟨kind, e.now, subject, detail⟩

/-- A subject of none (R194). -/
def noSubject : Byte := 255#8

/-- Fill the fault record if it is empty (R197); a fault that is no FAULT event qualifies under ALL_FAULTS only. -/
def fillRecord (e : Env) (kind : RecordKind) (g1 g2 : Option Group) (loop : Option Loop) (addr : Option Byte) (r : Rt) : Rt :=
  let qualifies : Bool := match kind with
    | .fault _ => true
    | _ => e.tab.settings.capture == Capture.allFaults
  r.withReport fun q =>
    match q.record with
    | some _ => q
    | none =>
      if qualifies then
        { q with record := some ⟨kind, g1, g2, loop, r.stage.current.map StageRec.stage, e.now, addr⟩ }
      else q

/-- Post LOOP_FAULT (R93, R106, R108) and offer it to the fault record. -/
def postLoopFault (e : Env) (l : Loop) (c : LoopCause) (r : Rt) : Rt :=
  fillRecord e (.loopFault c) none none (some l) ((e.tab.loops.get l).map LoopEntry.card)
    (post e .loopFault (loopByte l) (enc1 c.code) r)

/-- Post LAMP_FAIL for an output (R173) and offer it to the fault record. -/
def postLampFail (e : Env) (addr : Byte) (slot : Slot) (output : Fin 3) (g : Group) (r : Rt) : Rt :=
  fillRecord e .lampFail (some g) none none (some addr)
    (post e .lampFail addr [0#8, b8 slot.val, b8 output.val, groupByte g] r)

/-- Post LAMP_FAIL with the detail MODULE_SILENT (R174) and offer it to the fault record. -/
def postModuleSilent (e : Env) (addr : Byte) (r : Rt) : Rt :=
  fillRecord e .lampFail none none none (some addr) (post e .lampFail addr [1#8] r)

/-- Post FAULT for a notice (R47, R48) and offer it to the fault record. The subject is the first group, or the module
address when the notice names no group (R194); the second group and the module address, which a notice need not have, are
sent as optional fields (R178, log entry 15). -/
def postFault (e : Env) (n : FaultNotice) (r : Rt) : Rt :=
  let subject := match n.group1 with
    | some g => groupByte g
    | none => n.addr.getD noSubject
  let detail := b8 n.kind.code :: (encOpt 1 (n.group2.map fun g => [groupByte g]) ++ encOpt 1 (n.addr.map fun a => [a]))
  fillRecord e (.fault n.kind) n.group1 n.group2 none n.addr (post e .fault subject detail r)

/-- Set the owner-violation flag (R54, R57). -/
def setOwnerViolation (r : Rt) : Rt := r.withMode fun m => { m with ownerViolation := true }

/-- Set the CRC flag (R180). -/
def setCrcFlag (r : Rt) : Rt := r.withRing fun q => { q with crcFlag := true }

/-- A port's record. -/
def RingUnit.port (q : RingUnit) : Port → PortRec
  | .head => q.head
  | .field => q.field

/-- Change a port's record. -/
def RingUnit.setPort (q : RingUnit) (p : Port) (x : PortRec) : RingUnit :=
  match p with
  | .head => { q with head := x }
  | .field => { q with field := x }

/-- Capacity of the forward queue toward a port (R182). -/
def forwardCap : Port → Nat
  | .head => Config.headQueueCap
  | .field => Config.fieldQueueCap

/-- Forward a frame toward port `p` (R182): it joins the tail; at a full queue it is dropped, the overflow flag is
set, and FORWARD_OVERFLOW is posted when the flag was clear. -/
def forwardTo (e : Env) (p : Port) (f : Frame) (r : Rt) : Rt :=
  let x := r.ring.port p
  if x.queue.length < forwardCap p then
    r.withRing fun q => q.setPort p { x with queue := x.queue ++ [⟨f, e.now⟩] }
  else
    let r' := r.withRing fun q => q.setPort p { x with overflow := true }
    if x.overflow then r' else post e .forwardOverflow (b8 (portCode p)) [f.src, f.kind] r'

/-- A class of own frames takes a frame (R184): at a full class the oldest is removed. -/
def classTake (cap : Nat) (q : List Frame) (f : Frame) : List Frame :=
  (if q.length < cap then q else q.tail) ++ [f]

/-- Post FORWARD_OVERFLOW for the frame a full class removes (R184). -/
def postClassOverflow (e : Env) (cls : Nat) (cap : Nat) (q : List Frame) (r : Rt) : Rt :=
  if q.length < cap then r
  else match q.head? with
    | some old => post e .forwardOverflow (b8 cls) [old.src, old.kind] r
    | none => r

/-- Hand a frame to the ASPECT_SET class of the field-port arbiter (R184). -/
def pushAspect (e : Env) (f : Frame) (r : Rt) : Rt :=
  (postClassOverflow e 2 Config.aspectCap r.ring.aspects r).withRing fun q =>
    { q with aspects := classTake Config.aspectCap q.aspects f }

/-- Hand a frame to the LOOP_TUNE and BUTTON_LAMP class of the field-port arbiter (R184). -/
def pushAux (e : Env) (f : Frame) (r : Rt) : Rt :=
  (postClassOverflow e 3 Config.auxCap r.ring.aux r).withRing fun q =>
    { q with aux := classTake Config.auxCap q.aux f }

/-- A frame of the part's own with all its flags 0. R165 says so of ASPECT_SET; of LOOP_TUNE and BUTTON_LAMP (R104, R125)
no rule gives the flags, and 0 is the model's choice (DESIGN CHOICE, log entry 43). -/
def ownFrame (e : Env) (dst kind : Byte) (pl : List Byte) : Frame := ⟨dst, e.own, kind, 0#8, pl⟩

/-- Hand a fault notice to the Mode Controller (taken at the end of the command: log entry 5). -/
def handNotice (n : FaultNotice) (r : Rt) : Rt := r.withNotices (· ++ [n])

end Sys2Proof.Machine
end

