-- ==== Sys2Proof/Machine/Lamp.lean ====
section
/-! DEFINITION. The Lamp Interface and the Conflict Monitor (chapters 2 and 9): aspects, aspect frames, the Monitor's
check and records, module records, lamp status, dimming. -/

namespace Sys2Proof.Machine

/-! ### Aspects -/

/-- The aspect of a group state and type (R4's table; a state the type does not enter shows dark). -/
def aspectOf : GroupType → GroupState → Aspect
  | .unused, _ => .dark
  | _, .dark => .dark
  | .vehicle, .flashing => .flashAmber
  | _, .flashing => .dark
  | .vehicle, .rest => .red
  | .vehicle, .starting => .redAmber
  | .vehicle, .green => .green
  | .vehicle, .clearing => .amber
  | .pedestrian, .rest => .dontWalk
  | .pedestrian, .starting => .dark
  | .pedestrian, .green => .walk
  | .pedestrian, .clearing => .flashWalk
  | .tram, .rest => .stop
  | .tram, .starting => .prepare
  | .tram, .green => .proceed
  | .tram, .clearing => .clear

/-- The Monitor's class of an aspect (chapter 2's table). -/
def Aspect.cls : Aspect → AspectClass
  | .redAmber | .prepare => .starting
  | .green | .walk | .proceed => .green
  | .amber | .flashWalk | .clear => .clearing
  | .red | .dontWalk | .stop => .rest
  | .flashAmber | .dark => .off

/-- The aspect of a group now. -/
def groupAspect (e : Env) (r : Rt) (g : Group) : Aspect := aspectOf (e.tab.gtype g) (r.groups.get g).state

/-- An ASPECT_SET as built: module, four slot aspects, brightness (R165). -/
structure AspectFrame where
  addr : Byte
  aspects : Vector Aspect 4
  bright : Brightness
deriving DecidableEq, Repr

/-- The frame on the ring (R165, R178). -/
def AspectFrame.frame (e : Env) (f : AspectFrame) : Frame :=
  ownFrame e f.addr kindAspectSet (f.aspects.toList.map (fun a => b8 a.code) ++ enc1 f.bright.code)

/-- The aspects of a module's slots as they stand (R165): the holder's aspect, or dark. -/
def slotAspects (e : Env) (r : Rt) (addr : Byte) : Vector Aspect 4 :=
  Vector.ofFn fun s =>
    match e.tab.holder addr s with
    | some g => groupAspect e r g
    | none => .dark

/-! ### The Conflict Monitor (R31 to R36) -/

/-- The class a frame shows for a group: present when the frame carries the slot that the group holds. -/
def shownClass (e : Env) (f : AspectFrame) (g : Group) : Option AspectClass :=
  match e.tab.slotOf g with
  | some m => if m.addr = f.addr then some (f.aspects.get m.slot).cls else none
  | none => none

/-- The frame's slot of `g` is an entering slot (R34). -/
def isEntering (e : Env) (r : Rt) (f : AspectFrame) (g : Group) : Bool :=
  match shownClass e f g with
  | some c => (c == .starting || c == .green) && (r.monitor.get g).passed != some c
  | none => false

/-- The update of a group's monitor record by a passed frame that shows class `c` for it (R32). -/
def monitorUpdate (now : Time) (clearing : Nat) (c : AspectClass) (m : MonitorRec) : MonitorRec :=
  if m.passed = some c then m
  else
    let m' := { m with passed := some c }
    match c with
    | .starting | .green =>
      { m' with rightOfWay := true, clearingSeen := none, clearingEnd := none, confirmed := none, awaiting := false }
    | .clearing =>
      if m.passed = some .green then
        { m' with clearingSeen := some now, clearingEnd := some (after now clearing), awaiting := true }
      else m'
    | .rest =>
      if m.passed = some .green then
        { m' with rightOfWay := false, clearingSeen := some now, clearingEnd := none, awaiting := true }
      else { m' with rightOfWay := false }
    | .off =>
      { m' with rightOfWay := false, clearingSeen := none, clearingEnd := none, confirmed := none, awaiting := false }

/-- Group `i` holds right of way for the test of R34. -/
def holdsWay (e : Env) (r : Rt) (f : AspectFrame) (i : Group) : Bool :=
  let m := r.monitor.get i
  isEntering e r f i ||
    ((e.tab.slotOf i).isSome && m.rightOfWay && shownClass e f i != some .rest && shownClass e f i != some .off &&
      !isDue e.now m.clearingEnd)


/-- The record of group `i` against which a frame's entering slots are tested: a rest aspect that the frame carries for
`i` is taken as passed first (R34; log entry 40). -/
def recordAgainst (e : Env) (r : Rt) (f : AspectFrame) (i : Group) : MonitorRec :=
  if shownClass e f i = some .rest then monitorUpdate e.now (e.tab.clearing i) .rest (r.monitor.get i) else r.monitor.get i

/-- The intergreen test of R35 fails for entering group `j` against `i`. -/
def intergreenShort (e : Env) (r : Rt) (f : AspectFrame) (j i : Group) : Bool :=
  let m := recordAgainst e r f i
  (e.tab.slotOf i).isSome && (m.awaiting ||
    match m.confirmed with
    | some c => !elapsed e.now c (e.tab.ig i j - (if shownClass e f j = some .starting then e.tab.ra j else 0))
    | none => false)

/-- The first failure of a frame for one entering group, over the groups in ascending order (R34, R35). -/
def enteringFailure (e : Env) (r : Rt) (f : AspectFrame) (j : Group) : Option (FaultKind × Group × Group) :=
  allGroups.findSome? fun i =>
    if i ≠ j ∧ e.tab.conflicts j i = true then
      if holdsWay e r f i then some (.conflictCommand, j, i)
      else if intergreenShort e r f j i then some (.intergreenShort, j, i)
      else none
    else none

/-- The Monitor's check of a frame: slots 0 to 3 in order, the first failure (R34, R35). -/
def monitorCheck (e : Env) (r : Rt) (f : AspectFrame) : Option (FaultKind × Group × Group) :=
  allSlots.findSome? fun s =>
    match e.tab.holder f.addr s with
    | some j => if isEntering e r f j then enteringFailure e r f j else none
    | none => none

/-- The Monitor updates its records from a passed frame (R32). -/
def monitorPass (e : Env) (f : AspectFrame) (r : Rt) : Rt :=
  allGroups.foldl (fun r g =>
    match shownClass e f g with
    | some c => r.withMonitor fun v => upd v g (monitorUpdate e.now (e.tab.clearing g) c)
    | none => r) r

/-- The Monitor takes a confirmation (R33). -/
def monitorConfirm (g : Group) (stamp : Time) (r : Rt) : Rt :=
  r.withMonitor fun v => upd v g fun m =>
    if m.awaiting && (match m.clearingSeen with | some t => reached stamp t | none => true) then
      { m with confirmed := some stamp, awaiting := false }
    else m

/-! ### Frames to the modules (R166 to R168) -/

/-- Change the record of a module. -/
def updModule (addr : Byte) (f : ModuleRec → ModuleRec) (r : Rt) : Rt :=
  r.withLamp fun x => { x with modules := x.modules.map fun m => if m.addr = addr then f m else m }

/-- The record of a module. -/
def Rt.moduleRec (r : Rt) (addr : Byte) : Option ModuleRec := r.lamp.modules.find? fun m => m.addr == addr

/-- The refresh owed after a frame handed at `now` (R168): a timer due by then still gives its frame at that moment. -/
def ModuleRec.owed (now : Time) (m : ModuleRec) : Option RefreshOwed :=
  match m.refreshOwed with
  | some o => if o.at' = now then some { o with frames := o.frames + 1 } else if isDue now m.refreshDue then some ⟨now, 1⟩ else none
  | none => if isDue now m.refreshDue then some ⟨now, 1⟩ else none

/-- The module record after a frame for it has passed (R166). -/
def ModuleRec.sent (now : Time) (f : AspectFrame) (m : ModuleRec) : ModuleRec :=
  { m with
    sentAspects := some f.aspects, sentBrightness := some f.bright, refreshOwed := m.owed now
    refreshDue := some (after now Config.refreshTime) }

/-- Hand a built frame to the Conflict Monitor (R36, R166): a frame that passes goes to the aspect class and into the
sent record and restarts the refresh timer; a frame that fails is discarded and gives a fault notice. -/
def handFrame (e : Env) (f : AspectFrame) (r : Rt) : Rt :=
  match monitorCheck e r f with
  | some (k, j, i) => handNotice ⟨k, some j, some i, none, e.now⟩ r
  | none =>
    updModule f.addr (ModuleRec.sent e.now f)
      (pushAspect e (f.frame e) (monitorPass e f r))

/-- Build and hand a frame for a module from the aspects and brightness as they stand (R165). -/
def frameModule (e : Env) (addr : Byte) (r : Rt) : Rt := handFrame e ⟨addr, slotAspects e r addr, r.lamp.brightness⟩ r

/-- A group's new aspect gives a frame for the module whose slot it holds (R166). -/
def groupFrame (e : Env) (g : Group) (r : Rt) : Rt :=
  match e.tab.slotOf g with
  | some m => frameModule e m.addr r
  | none => r

/-- One frame for every mapped module, in ascending address (R167). -/
def frameAll (e : Env) (r : Rt) : Rt := (r.lamp.modules.map ModuleRec.addr).foldl (fun r a => frameModule e a r) r

/-- A frame for the module is still waiting in the arbiter (R168). -/
def frameWaiting (r : Rt) (addr : Byte) : Bool := r.ring.aspects.any fun f => f.dst == addr

/-- A refresh timer that a frame of this same moment has restarted still expires at it (R168). -/
def ModuleRec.owedNow (now : Time) (m : ModuleRec) : Option RefreshOwed :=
  match m.refreshOwed with
  | some o => if o.at' = now then some o else none
  | none => none

/-- A refresh timer expires at `now`: it is due, or was due when a frame of this moment restarted it (R168). -/
def ModuleRec.refreshes (now : Time) (m : ModuleRec) : Bool := isDue now m.refreshDue || (m.owedNow now).isSome

/-- A frame for the module handed before this moment is still waiting (R168): the class is first in, first out, so the
frames of this moment are the last of those that wait. -/
def earlierWaiting (now : Time) (r : Rt) (m : ModuleRec) : Bool :=
  match m.owedNow now with
  | some o => decide (o.frames < (r.ring.aspects.filter fun f => f.dst == m.addr).length)
  | none => frameWaiting r m.addr

/-- The refresh frame of a module: its sent record again, when it has one (R168). -/
def refreshFrame (e : Env) (addr : Byte) (m : ModuleRec) (r : Rt) : Rt :=
  match m.sentAspects, m.sentBrightness with
  | some a, some b => handFrame e ⟨addr, a, b⟩ r
  | _, _ => r

/-- A module's refresh timer expires (R168). -/
def refreshExpiry (e : Env) (addr : Byte) (r : Rt) : Rt :=
  match r.moduleRec addr with
  | none => r
  | some m =>
    if m.refreshes e.now then
      if earlierWaiting e.now r m then
        updModule addr (fun m => { m with refreshOwed := none, refreshDue := some (after e.now Config.refreshTime) }) r
      else refreshFrame e addr m (updModule addr (fun m => { m with refreshOwed := none, refreshDue := none }) r)
    else r

/-! ### Module records (R164, R174, R177) -/

/-- A new module record: the silence timer starts outside DARK (R164). -/
def newModule (e : Env) (mode : Mode) (addr : Byte) : ModuleRec :=
  { addr := addr, silenceDue := if mode = .dark then none else some (after e.now Config.second) }

/-- The module records after a group table write: records of modules still mapped are kept, new ones created, the
failed-output set is limited to mapped slots (R164, R173). Frames for a removed module that already wait in the aspect class
stay there and are sent in their turn (DESIGN CHOICE, log entry 49). -/
def remapModules (e : Env) (r : Rt) : Rt :=
  r.withLamp fun x => { x with
    modules := e.tab.mappedModules.map fun a =>
      (x.modules.find? fun m => m.addr == a).getD (newModule e r.mode.mode a)
    failed := x.failed.filter fun o => (e.tab.holder o.addr o.slot).isSome }

/-- What a module's slots hold: the holder and its aspect, slot by slot (R167). -/
def slotContents (e : Env) (r : Rt) (addr : Byte) : List (Option Group × Aspect) :=
  allSlots.map fun s => (e.tab.holder addr s, match e.tab.holder addr s with | some g => groupAspect e r g | none => .dark)

/-- The unexpected-noted indication of a mapping's slot is made no (R164). -/
def clearNoted (m : Option Mapping) (r : Rt) : Rt :=
  match m with
  | some m => updModule m.addr (fun x => { x with noted := upd x.noted m.slot fun _ => false }) r
  | none => r

/-- Groups without a slot have their monitor record as reset (R31). -/
def monitorUnslotted (e : Env) (r : Rt) : Rt :=
  allGroups.foldl (fun r g =>
    if (e.tab.slotOf g).isSome then r else r.withMonitor fun v => upd v g fun _ => {}) r

/-- The Lamp Interface on the mode notice of DARK (R174). -/
def lampDark (r : Rt) : Rt :=
  r.withLamp fun x => { x with modules := x.modules.map fun m => { m with silenceDue := none, silent := false } }

/-- The Lamp Interface on the mode notice that leaves DARK (R167, R174). -/
def lampLeaveDark (e : Env) (r : Rt) : Rt :=
  frameAll e (r.withLamp fun x =>
    { x with modules := x.modules.map fun m => { m with silenceDue := some (after e.now Config.second) } })

/-- On the mode notice of STARTUP every silent module gives MODULE_SILENT (R174), by ascending address (DESIGN CHOICE, log
entry 42). -/
def lampStartup (e : Env) (r : Rt) : Rt :=
  r.lamp.modules.foldl (fun r m =>
    if m.silent then handNotice ⟨.moduleSilent, none, none, some m.addr, e.now⟩ r else r) r

/-- The Lamp Interface at RESTART, before its frames (R177 steps 1 to 4); `mode` is the mode RESTART brings. -/
def lampRestart (e : Env) (mode : Mode) (r : Rt) : Rt :=
  r.withLamp fun x => { x with
    failed := [], confirms := Vector.replicate 24 none, run := none, settlingDue := none, sensorA := {}, sensorB := {},
    selected := none, modules := e.tab.mappedModules.map (newModule e mode) }

/-- A module's silence timer expires (R174). -/
def silenceExpiry (e : Env) (addr : Byte) (r : Rt) : Rt :=
  match r.moduleRec addr with
  | none => r
  | some m =>
    if isDue e.now m.silenceDue then
      let r' := updModule addr (fun m => { m with silenceDue := none, silent := true }) r
      match r.mode.mode with
      | .dark => r'
      | .flash => postModuleSilent e addr r'
      | .startup | .running | .shutdown => handNotice ⟨.moduleSilent, none, none, some addr, e.now⟩ r'
    else r

/-! ### Lamp status (R169 to R173) -/

/-- The echo code of a slot in a LAMP_STATUS payload (R178). -/
def slotEcho (pl : List Byte) (s : Slot) : Byte := pl.getD (4 * s.val) 0#8

/-- The state code of an output of a slot in a LAMP_STATUS payload (R178). -/
def slotOutput (pl : List Byte) (s : Slot) (o : Fin 3) : Byte := pl.getD (4 * s.val + 1 + o.val) 0#8

/-- The aspect echoed confirms the green end of a group of type `t` (R14). -/
def confirmsGreenEnd (t : GroupType) (clearing : Nat) (echo : Byte) : Bool :=
  echo == b8 (aspectOf t .rest).code || (clearing != 0 && echo == b8 (aspectOf t .clearing).code)

/-- A status's arrival at its module record: silence timer and silent indication (R169 step 1). -/
def statusSeen (e : Env) (addr : Byte) (r : Rt) : Rt :=
  updModule addr (fun m => { m with
    silenceDue := if r.mode.mode = .dark then m.silenceDue else some (after e.now Config.second), silent := false }) r

/-- The go lamp's report under UNEXPECTED_CURRENT (R172); `state` is the group's state at the status's arrival. -/
def goLampReport (e : Env) (addr : Byte) (s : Slot) (g : Group) (state : GroupState) (code : Byte) (r : Rt) : Rt :=
  let noted := match r.moduleRec addr with | some m => m.noted.get s | none => false
  let setNoted (b : Bool) (r : Rt) : Rt := updModule addr (fun m => { m with noted := upd m.noted s fun _ => b }) r
  if code = 3#8 then
    if state ≠ .green ∧ state ≠ .starting ∧ noted = false then
      handNotice ⟨.unexpectedCurrent, some g, none, some addr, e.now⟩ (setNoted true r)
    else r
  else if code.toNat < 3 then setNoted false r
  else r

/-- An output's report against the failed-output set (R173) and RED_OUT (R172). -/
def outputReport (e : Env) (addr : Byte) (s : Slot) (o : Fin 3) (g : Group) (code : Byte) (r : Rt) : Rt :=
  let me : FailedOutput := ⟨addr, s, o⟩
  if code = 2#8 then
    if r.lamp.failed.contains me then r
    else if o = 0 ∧ (e.tab.gtype g = .vehicle ∨ e.tab.gtype g = .tram) then
      handNotice ⟨.redOut, some g, none, some addr, e.now⟩ (r.withLamp fun x => { x with failed := x.failed ++ [me] })
    else if r.lamp.settlingDue.isSome then r
    else postLampFail e addr s o g (r.withLamp fun x => { x with failed := x.failed ++ [me] })
  else if code.toNat < 2 then r.withLamp fun x => { x with failed := x.failed.filter (· != me) }
  else r

/-- The outputs of one slot (R169 step 3): outputs 0, 1, 2 against the failed-output set and RED_OUT, then the go lamp's
UNEXPECTED; the slots are read from 0 to 3 (DESIGN CHOICE, log entry 42: R169 and R197 give the outputs no order). -/
def slotOutputs (e : Env) (addr : Byte) (states : Vector GroupRec 24) (pl : List Byte) (s : Slot) (r : Rt) : Rt :=
  match e.tab.holder addr s with
  | none => r
  | some g =>
    goLampReport e addr s g (states.get g).state (slotOutput pl s 2)
      ([0, 1, 2].foldl (fun r o => outputReport e addr s o g (slotOutput pl s o) r) r)

/-- A group's confirmation timer is due (R170). -/
def confirmDue (e : Env) (r : Rt) (g : Group) : Bool :=
  match r.lamp.confirms.get g with
  | some c => reached e.now c.due
  | none => false

/-- The notice of one confirmation timer, and its record made absent (R171). -/
def confirmNotice (e : Env) (g : Group) (r : Rt) : Rt :=
  handNotice ⟨.confirmTimeout, some g, none, (e.tab.mapping g).map Mapping.addr, e.now⟩
    (r.withLamp fun x => { x with confirms := upd x.confirms g fun _ => none })

/-- A group's confirmation timer expires (R171). Timers due at one moment give one notice each, though the first notice's
flash order makes the later records absent: the later ones expire with the first, in ascending group (log entry 41). -/
def confirmExpiry (e : Env) (g : Group) (r : Rt) : Rt :=
  if confirmDue e r g then
    (g :: allGroups.filter fun k => k != g && confirmDue e r k).foldl (fun r k => confirmNotice e k r) r
  else r

/-! ### Sensors and dimming (R175, R176) -/

/-- The sensor the selection rule gives (R175). -/
def selectSensor (x : LampUnit) : Option Sensor :=
  if x.sensorA.freshDue.isSome then some .a else if x.sensorB.freshDue.isSome then some .b else none

/-- Take the selection anew: a change clears the qualification run (R175). -/
def reselect (x : LampUnit) : LampUnit :=
  if selectSensor x = x.selected then x else { x with selected := selectSensor x, run := none }

/-- A reading of the selected sensor acts on the qualification run (R176). -/
def qualify (e : Env) (value : Nat) (x : LampUnit) : LampUnit :=
  match e.tab.settings.dimOn, e.tab.settings.dimOff with
  | some on, some off =>
    let toward := match x.brightness with
      | .bright => decide (value < on)
      | .dim => decide (off < value)
    if toward then
      (match x.run with
        | some _ => x
        | none => { x with run := some ⟨e.now, after e.now Config.qualifyTime⟩ })
    else { x with run := none }
  | _, _ => x

/-- A reading from a sensor: record, freshness, selection, run (R175, R176). -/
def sensorRead (e : Env) (sensor : Sensor) (value : Nat) (x : LampUnit) : LampUnit :=
  let rec' : SensorRec := ⟨some value, some e.now, some (after e.now Config.freshTime)⟩
  let x := reselect (match sensor with
    | .a => { x with sensorA := rec' }
    | .b => { x with sensorB := rec' })
  if x.selected = some sensor then qualify e value x else x

/-- A sensor's freshness timer expires (R175). -/
def sensorStale (e : Env) (sensor : Sensor) (x : LampUnit) : LampUnit :=
  match sensor with
  | .a => if isDue e.now x.sensorA.freshDue then reselect { x with sensorA := { x.sensorA with freshDue := none } } else x
  | .b => if isDue e.now x.sensorB.freshDue then reselect { x with sensorB := { x.sensorB with freshDue := none } } else x

/-- The dimming consequences of a stored settings write (R175). -/
def settingsStored (old new : Settings) (x : LampUnit) : LampUnit :=
  let x := if old.sensorA = new.sensorA then x else { x with sensorA := {} }
  let x := if old.sensorB = new.sensorB then x else { x with sensorB := {} }
  let x := if old.dimOn = new.dimOn ∧ old.dimOff = new.dimOff then x else { x with run := none }
  reselect x

/-- The qualification timer expires: brightness, settling window, DIM_CHANGE, frames (R176). -/
def qualifyExpiry (e : Env) (r : Rt) : Rt :=
  match r.lamp.run with
  | none => r
  | some q =>
    if reached e.now q.due then
      let b : Brightness := match r.lamp.brightness with | .bright => .dim | .dim => .bright
      let subject := match r.lamp.selected with | some s => b8 (sensorCode s) | none => noSubject
      frameAll e (post e .dimChange subject (enc1 b.code)
        (r.withLamp fun x => { x with run := none, brightness := b, settlingDue := some (after e.now Config.settleTime) }))
    else r

/-- The settling window ends (R173). -/
def settlingEnd (e : Env) (r : Rt) : Rt :=
  if isDue e.now r.lamp.settlingDue then r.withLamp fun x => { x with settlingDue := none } else r

end Sys2Proof.Machine
end

