-- ==== Sys2Proof/Machine/Operands.lean ====
section
/-! DEFINITION. Operand forms: table indexes, markers and entries as payload bytes (R178, R188), read with every range
check of the tables' own rules, and written back as TABLE_READ answers them (R190). -/

namespace Sys2Proof.Machine

/-- A number within a range. -/
def inRange (lo hi n : Nat) : Option Nat := if lo ≤ n ∧ n ≤ hi then some n else none

/-- A group number, G1 to G24. -/
def groupOf (b : Byte) : Option Group :=
  if h : 1 ≤ b.toNat ∧ b.toNat ≤ 24 then some ⟨b.toNat - 1, by omega⟩ else none
/-- A stage number, S1 to S16. -/
def stageOf (b : Byte) : Option Stage :=
  if h : 1 ≤ b.toNat ∧ b.toNat ≤ 16 then some ⟨b.toNat - 1, by omega⟩ else none
/-- A plan number, P1 to P4. -/
def planOf (b : Byte) : Option Plan :=
  if h : 1 ≤ b.toNat ∧ b.toNat ≤ 4 then some ⟨b.toNat - 1, by omega⟩ else none
/-- A loop number, L1 to L32. -/
def loopOf (b : Byte) : Option Loop :=
  if h : 1 ≤ b.toNat ∧ b.toNat ≤ 32 then some ⟨b.toNat - 1, by omega⟩ else none
/-- An assignment entry number, 1 to 64. -/
def assignOf (b : Byte) : Option Assign :=
  if h : 1 ≤ b.toNat ∧ b.toNat ≤ 64 then some ⟨b.toNat - 1, by omega⟩ else none
/-- A button or route entry number, 1 to 32. -/
def entryOf (b : Byte) : Option Entry :=
  if h : 1 ≤ b.toNat ∧ b.toNat ≤ 32 then some ⟨b.toNat - 1, by omega⟩ else none
/-- A tram record slot, 0 to 7. -/
def tramSlotOf (b : Byte) : Option TramSlot := if h : b.toNat < 8 then some ⟨b.toNat, h⟩ else none
/-- A module slot or card channel, 0 to 3. -/
def slotNumber (b : Byte) : Option Slot := if h : b.toNat < 4 then some ⟨b.toNat, h⟩ else none
/-- A button index, 0 to 7. -/
def buttonIndexOf (b : Byte) : Option (Fin 8) := if h : b.toNat < 8 then some ⟨b.toNat, h⟩ else none

/-- A two-valued named list: 0 is the value listed first. -/
def firstOf (b : Byte) : Option Bool := if b = 0#8 then some true else if b = 1#8 then some false else none

/-- The group type of a code. -/
def typeOf (b : Byte) : Option GroupType :=
  match b.toNat with
  | 0 => some .unused | 1 => some .vehicle | 2 => some .pedestrian | 3 => some .tram | _ => none

/-- The assignment function of a code. -/
def functionOf (b : Byte) : Option DetFunction :=
  match b.toNat with
  | 0 => some .demandLocking | 1 => some .demandNonlocking | 2 => some .extend | 3 => some .lockingAndExtend | _ => none

/-- The address of a module, a card or a sensor: 2 to 126 and not the part's own (R2, R89, R175). -/
def addrOf (own b : Byte) : Option Byte := if 2 ≤ b.toNat ∧ b.toNat ≤ 126 ∧ b ≠ own then some b else none

/-- Bytes that are "sent as 0" are 0, or are not refused for not being 0 (free value, log entry 11). -/
def padAccepted (bs : List Byte) : Bool := if bs.all (· == 0#8) then true else !Config.padRefused bs

/-- An optional field: presence byte 0 or 1, then the field's bytes (R178). -/
def optOf {α : Type} (presence : Byte) (bytes : List Byte) (field : Option α) : Option (Option α) :=
  if presence = 0#8 then (if padAccepted bytes then some none else none)
  else if presence = 1#8 then field.map some
  else none

/-! ### Entries -/

/-- Ranges of min green, starting time and clearing time by type (R2). -/
def groupTimesOk (t : GroupType) (minGreen ra clearing : Nat) : Bool :=
  match t with
  | .unused => minGreen == 0 && ra == 0 && clearing == 0
  | .vehicle => decide (30 ≤ minGreen ∧ minGreen ≤ 600 ∧ ra ≤ 30 ∧ 30 ≤ clearing ∧ clearing ≤ 60)
  | .pedestrian => decide (40 ≤ minGreen ∧ minGreen ≤ 600 ∧ ra = 0 ∧ clearing ≤ 300)
  | .tram => decide (20 ≤ minGreen ∧ minGreen ≤ 600 ∧ ra ≤ 30 ∧ 20 ≤ clearing ∧ clearing ≤ 60)

/-- A group table entry (R2). -/
def parseGroup (own : Byte) : List Byte → Option GroupEntry
  | [t, m1, m0, ra, c1, c0, pr, ad, sl] => do
    let type ← typeOf t
    let mapping ← optOf pr [ad, sl] (do some ⟨← addrOf own ad, ← slotNumber sl⟩)
    let x : GroupEntry := ⟨type, num [m1, m0], ra.toNat, num [c1, c0], mapping⟩
    if groupTimesOk type x.minGreen x.ra x.clearing && (type != .unused || mapping.isNone) then some x else none
  | _ => none

/-- A group table entry as bytes. -/
def encGroup (x : GroupEntry) : List Byte :=
  enc1 x.type.code ++ enc2 x.minGreen ++ enc1 x.ra ++ enc2 x.clearing ++
    encOpt 2 (x.mapping.map fun m => [m.addr, b8 m.slot.val])

/-- A conflict or permitted-transition entry: YES or NO (R18, R21). -/
def parseFlag : List Byte → Option Bool
  | [b] => firstOf b
  | _ => none

/-- An intergreen entry: 1 to 250 (R19). -/
def parseIntergreen : List Byte → Option Nat
  | [b] => inRange 1 250 b.toNat
  | _ => none

/-- A stage table entry (R20). -/
def parseStage : List Byte → Option StageEntry
  | [g2, g1, g0, m1, m0, sk, po] => do
    let green := BitVec.ofNat 24 (num [g2, g1, g0])
    let minTime ← inRange 0 600 (num [m1, m0])
    let skippable ← firstOf sk
    let priorityOnly ← firstOf po
    if green = 0#24 then none else some ⟨green, minTime, skippable, priorityOnly⟩
  | _ => none

/-- A stage table entry as bytes. -/
def encStage (x : StageEntry) : List Byte :=
  enc3 x.green.toNat ++ enc2 x.minTime ++ encFirst x.skippable ++ encFirst x.priorityOnly

/-- Every byte of a list read as a stage. -/
def stagesOf : List Byte → Option (List Stage)
  | [] => some []
  | b :: bs => do some ((← stageOf b) :: (← stagesOf bs))

/-- The two-byte numbers of a byte list. -/
def pairs : List Byte → List Nat
  | a :: b :: bs => num [a, b] :: pairs bs
  | _ => []

/-- A list as a vector, 0 beyond its end. -/
def vecOf (n : Nat) (l : List Nat) : Vector Nat n := Vector.ofFn fun i => l.getD i.val 0

/-- A plan entry (R62): sequence, max greens, gap times, start stage, times. -/
def parsePlan (bs : List Byte) : Option PlanEntry :=
  if bs.length = 81 then do
    let count := (bs.getD 0 0#8).toNat
    let places := (bs.drop 1).take 16
    let maxGreens := pairs ((bs.drop 17).take 32)
    let gaps := ((bs.drop 49).take 24).map (·.toNat)
    let _ ← inRange 1 16 count
    let sequence ← stagesOf (places.take count)
    let startStage ← stageOf (bs.getD 73 0#8)
    let startFlash ← inRange 0 300 (num ((bs.drop 74).take 2))
    let allRed ← inRange 20 100 (bs.getD 76 0#8).toNat
    let extLimit ← inRange 0 600 (num ((bs.drop 77).take 2))
    let lockout ← inRange 0 1200 (num ((bs.drop 79).take 2))
    if sequence.Nodup ∧ padAccepted (places.drop count) = true ∧ maxGreens.all (fun n => decide (50 ≤ n ∧ n ≤ 1200)) = true
        ∧ gaps.all (fun n => decide (5 ≤ n ∧ n ≤ 100)) = true
    then some ⟨sequence, vecOf 16 maxGreens, vecOf 24 gaps, startStage, startFlash, allRed, extLimit, lockout⟩
    else none
  else none

/-- A plan entry as bytes. -/
def encPlan (x : PlanEntry) : List Byte :=
  enc1 x.sequence.length ++ x.sequence.map stageByte ++ zeros (16 - x.sequence.length) ++
    x.maxGreen.toList.flatMap enc2 ++ x.gapTime.toList.flatMap enc1 ++ [stageByte x.startStage] ++
    enc2 x.startFlash ++ enc1 x.allRed ++ enc2 x.extLimit ++ enc2 x.lockout

/-- A loop table entry, its own fields (R89). -/
def parseLoop (own : Byte) : List Byte → Option LoopEntry
  | [ca, ch, n1, n0, f1, f0, dn, df, k, p1, p0, fm, rc, a2, a1, a0, z2, z1, z0, fw] => do
    let card ← addrOf own ca
    let channel ← slotNumber ch
    let onT ← inRange 20 20000 (num [n1, n0])
    let offT ← inRange 10 (onT - 1) (num [f1, f0])
    let dOn ← inRange 1 15 dn.toNat
    let dOff ← inRange 1 15 df.toNat
    let shift ← inRange 4 12 k.toNat
    let presence := num [p1, p0]
    let demand ← firstOf fm
    let recovery ← inRange 16 255 rc.toNat
    let cmin := num [a2, a1, a0]
    let cmax := num [z2, z1, z0]
    let fwd ← firstOf fw
    if (presence = 0 ∨ (10 ≤ presence ∧ presence ≤ 3600)) ∧ 1 ≤ cmin ∧ cmin < cmax then
      some ⟨card, channel, onT, offT, dOn, dOff, shift, presence, if demand then .demand else .ignore, recovery, cmin, cmax, fwd⟩
    else none
  | _ => none

/-- A loop table entry as bytes. -/
def encLoop (x : LoopEntry) : List Byte :=
  [x.card, b8 x.channel.val] ++ enc2 x.onThreshold ++ enc2 x.offThreshold ++ enc1 x.debounceOn ++ enc1 x.debounceOff ++
    enc1 x.trackShift ++ enc2 x.maxPresence ++ encFirst (x.faultMode == .demand) ++ enc1 x.recovery ++ enc3 x.cmin ++
    enc3 x.cmax ++ encFirst x.forwardRaw

/-- The checks of a loop entry against the other loaded entries (R89): one loop a channel, at most 8 cards. -/
def loopRelationsOk (t : Tables) (l : Loop) (x : LoopEntry) : Bool :=
  let others := allLoops.filterMap fun k => if k = l then none else t.loops.get k
  others.all (fun y => !(y.card == x.card && y.channel == x.channel)) &&
    decide ((insertAddr x.card (others.foldl (fun acc y => insertAddr y.card acc) [])).length ≤ 8)

/-- A detector assignment entry (R113). -/
def parseAssign : List Byte → Option AssignEntry
  | [l, g, f, d] => do some ⟨← loopOf l, ← groupOf g, ← functionOf f, d.toNat⟩
  | _ => none

/-- A detector assignment entry as bytes. -/
def encAssign (x : AssignEntry) : List Byte := [loopByte x.loop, groupByte x.group, b8 x.function.code, b8 x.delay]

/-- Loop and group are unique among the loaded entries (R113). -/
def assignUnique (t : Tables) (a : Assign) (x : AssignEntry) : Bool :=
  allAssigns.all fun k => k == a ||
    match t.assigns.get k with
    | some y => !(y.loop == x.loop && y.group == x.group)
    | none => true

/-- A button table entry (R123). -/
def parseButton (own : Byte) : List Byte → Option ButtonEntry
  | [a, i, g] => do some ⟨← addrOf own a, ← buttonIndexOf i, ← groupOf g⟩
  | _ => none

/-- A button table entry as bytes. -/
def encButton (x : ButtonEntry) : List Byte := [x.addr, b8 x.index.val, groupByte x.group]

/-- Module address and button index are unique among the loaded entries (R123). -/
def buttonUnique (t : Tables) (n : Entry) (x : ButtonEntry) : Bool :=
  allEntries.all fun k => k == n ||
    match t.buttons.get k with
    | some y => !(y.addr == x.addr && y.index == x.index)
    | none => true

/-- A route table entry (R132). -/
def parseRoute : List Byte → Option RouteEntry
  | [co, ci, dp, dv, ck, g, sp, sv, t1, t0, w, bl, l1, l0, e1, e0, x1, x0, u1, u0] => do
    let code ← if co = 0#8 then none else some co
    let checkIn ← if ci = 0#8 then none else some ci
    let door ← optOf dp [dv] (if dv = 0#8 then none else some dv)
    let checkOut ← if ck = 0#8 then none else some ck
    let group ← groupOf g
    let prio ← optOf sp [sv] (stageOf sv)
    let travel ← inRange 10 1200 (num [t1, t0])
    let spread ← inRange 0 100 w.toNat
    let base ← inRange 0 3 bl.toNat
    let late ← inRange 10 600 (num [l1, l0])
    let early ← inRange 0 600 (num [e1, e0])
    let maxExt ← inRange 0 300 (num [x1, x0])
    let guardT ← inRange 0 300 (num [u1, u0])
    some ⟨code, checkIn, door, checkOut, group, prio, travel, spread, base, late, early, maxExt, guardT⟩
  | _ => none

/-- A route table entry as bytes. -/
def encRoute (x : RouteEntry) : List Byte :=
  [x.code, x.checkIn] ++ encOpt 1 (x.door.map fun d => [d]) ++ [x.checkOut, groupByte x.group] ++
    encOpt 1 (x.priorityStage.map fun s => [stageByte s]) ++ enc2 x.travel ++ enc1 x.spread ++ enc1 x.baseLevel ++
    enc2 x.late ++ enc2 x.early ++ enc2 x.maxExt ++ enc2 x.guardTime

/-- The route code is unique among the loaded entries (R132). -/
def routeUnique (t : Tables) (n : Entry) (x : RouteEntry) : Bool :=
  allEntries.all fun k => k == n ||
    match t.routes.get k with
    | some y => y.code != x.code
    | none => true

/-- The relations of the settings (R175): both thresholds or neither, dim-on below dim-off, two distinct sensors. -/
def settingsOk (x : Settings) : Bool :=
  (match x.dimOn, x.dimOff with
    | none, none => true
    | some a, some b => decide (a < b)
    | _, _ => false) &&
  (match x.sensorA, x.sensorB with
    | some a, some b => a != b
    | _, _ => true)

/-- The settings (R191). -/
def parseSettings (own : Byte) : List Byte → Option Settings
  | [kw, al, k2, k1, k0, cp, pa, sa, pb, sb, pn, n1, n0, pf, f1, f0] => do
    let window ← inRange 1 60 kw.toNat
    let allowance ← inRange 0 10 al.toNat
    let mask ← inRange 0 2097151 (num [k2, k1, k0])
    let all ← firstOf cp
    let a ← optOf pa [sa] (addrOf own sa)
    let b ← optOf pb [sb] (addrOf own sb)
    let dimOn ← optOf pn [n1, n0] (some (num [n1, n0]))
    let dimOff ← optOf pf [f1, f0] (some (num [f1, f0]))
    let x : Settings := ⟨window, allowance, BitVec.ofNat 21 mask, if all then .allFaults else .flashFaults, a, b, dimOn, dimOff⟩
    if settingsOk x then some x else none
  | _ => none

/-- The settings as bytes. -/
def encSettings (x : Settings) : List Byte :=
  enc1 x.keepaliveWindow ++ enc1 x.allowance ++ enc3 x.mask.toNat ++ encFirst (x.capture == .allFaults) ++
    encOpt 1 (x.sensorA.map fun a => [a]) ++ encOpt 1 (x.sensorB.map fun a => [a]) ++
    encOpt 2 (x.dimOn.map enc2) ++ encOpt 2 (x.dimOff.map enc2)

/-! ### Table accesses -/

/-- The bytes of a TABLE_WRITE behind its table code (R188). -/
structure WriteOperand where
  index1 : Byte
  index2 : Byte
  marker : Byte
  entry : List Byte
deriving DecidableEq, Repr

/-- The write operand of the bytes behind a table code, when they have the table's length (R188). -/
def writeOperand (len : Nat) : List Byte → Option WriteOperand
  | i1 :: i2 :: m :: entry => if entry.length = len then some ⟨i1, i2, m, entry⟩ else none
  | _ => none

/-- What a marker and entry ask to be stored (R188, R189 test 3): `some none` empties, `some (some x)` loads, `none` is
BAD_ENTRY. -/
def markedEntry {α : Type} (w : WriteOperand) (parse : List Byte → Option α) : Option (Option α) :=
  if w.marker = 0#8 then (if padAccepted w.entry then some none else none)
  else if w.marker = 1#8 then (parse w.entry).map some
  else none

/-- The index of a table of one dimension: the second byte is 0 (R188, R189). -/
def index1Of {α : Type} (i2 : Byte) (x : Option α) : Option α := if i2 = 0#8 then x else none

/-- The index of a table of two dimensions. -/
def index2Of {α : Type} (x y : Option α) : Option (α × α) := do some (← x, ← y)

/-- An entry as TABLE_READ answers it: the marker and the entry's bytes, or zeros (R190). -/
def encEntry {α : Type} (len : Nat) (x : Option α) (enc : α → List Byte) : List Byte :=
  match x with
  | some y => 1#8 :: enc y
  | none => 0#8 :: zeros len

end Sys2Proof.Machine
end

