-- ==== Sys2Proof/Machine/Demand.lean ====
section
/-! DEFINITION. The Demand Unit (chapter 6): how a loop is seen, latched and non-locking demand, gap timers, push
buttons and their indicators, activation and deactivation. -/

namespace Sys2Proof.Machine

/-- How an assignment sees its loop (R114). -/
inductive LoopView where
  | occupied | clear | faultOccupied | absent
deriving DecidableEq, Repr

/-- The condition of a loop (R114). -/
def loopView (e : Env) (r : Rt) (l : Loop) : LoopView :=
  match (r.loops.recs.get l).state with
  | .unused => .absent
  | .occupied => .occupied
  | .clear => .clear
  | .waitingTune | .tuning | .settling | .fault =>
    match e.tab.loops.get l with
    | some x => if x.faultMode = .demand then .faultOccupied else .clear
    | none => .absent

/-- Change a group's demand record. -/
def updDemand (g : Group) (f : DemandRec → DemandRec) (r : Rt) : Rt :=
  r.withDemand fun d => { d with groups := upd d.groups g f }

/-- Change an assignment record. -/
def updAssign (a : Assign) (f : AssignRec → AssignRec) (r : Rt) : Rt :=
  r.withDemand fun d => { d with assigns := upd d.assigns a f }

/-- A group has demand: latched sources not empty, or non-locking count above 0 (chapter 6). -/
def hasDemand (r : Rt) (g : Group) : Bool :=
  let d := r.demand.groups.get g
  d.loop || d.button || d.soft || decide (0 < d.nonLocking)

/-- Latch LOOP for a group (R117). -/
def latchLoop (g : Group) (r : Rt) : Rt := updDemand g (fun d => { d with loop := true }) r

/-- A non-locking entry becomes giving: the count rises by one (R118). -/
def startGiving (a : Assign) (g : Group) (r : Rt) : Rt :=
  if (r.demand.assigns.get a).giving then r
  else updDemand g (fun d => { d with nonLocking := d.nonLocking + 1 }) (updAssign a (fun x => { x with giving := true }) r)

/-- A non-locking entry stops giving: the count falls by one (R118). -/
def stopGiving (a : Assign) (g : Group) (r : Rt) : Rt :=
  if (r.demand.assigns.get a).giving then
    updDemand g (fun d => { d with nonLocking := d.nonLocking - 1 }) (updAssign a (fun x => { x with giving := false }) r)
  else r

/-- Stop an entry's delay timer. -/
def stopDelay (a : Assign) (r : Rt) : Rt := updAssign a (fun x => { x with delayDue := none }) r

/-- What the end of an entry's demand delay brings, with the loop occupied and the group not in GREEN (R117, R118). -/
def delayRun (a : Assign) (x : AssignEntry) (r : Rt) : Rt :=
  match x.function with
  | .demandLocking | .lockingAndExtend => latchLoop x.group (stopDelay a r)
  | .demandNonlocking => startGiving a x.group (stopDelay a r)
  | .extend => stopDelay a r

/-- The delay timer starts from a stamp; a moment already passed acts at once (R117). -/
def startDelay (e : Env) (a : Assign) (x : AssignEntry) (stamp : Time) (r : Rt) : Rt :=
  if reached e.now (after stamp x.delay) then delayRun a x r
  else updAssign a (fun y => { y with delayDue := some (after stamp x.delay) }) r

/-- The demand part of a condition reached at `stamp` (R116, R117, R118). -/
def demandPart (e : Env) (a : Assign) (x : AssignEntry) (v : LoopView) (stamp : Time) (r : Rt) : Rt :=
  if e.tab.isDefined x.group then
    match x.function, v with
    | .extend, _ => r
    | .demandNonlocking, .occupied =>
      if r.isGreen x.group || (r.demand.assigns.get a).giving then r else startDelay e a x stamp r
    | _, .occupied => if r.isGreen x.group then r else startDelay e a x stamp r
    | .demandNonlocking, .faultOccupied => if r.isGreen x.group then stopDelay a r else startGiving a x.group (stopDelay a r)
    | _, .faultOccupied => if r.isGreen x.group then stopDelay a r else latchLoop x.group (stopDelay a r)
    | .demandNonlocking, _ => stopGiving a x.group (stopDelay a r)
    | _, _ => stopDelay a r
  else r

/-- The gap timer is restarted, unless HELD (R120). -/
def restartGap (from' : Time) (g : Group) (r : Rt) : Rt :=
  updDemand g (fun d => if d.gap = .held then d else { d with gap := .running (after from' d.gapTime) }) r

/-- Some extension entry of the group holds its gap timer. -/
def someHolding (e : Env) (r : Rt) (g : Group) : Bool :=
  (e.tab.assignsWhere fun x => x.group == g && x.function.extends).any fun (a, _) => (r.demand.assigns.get a).holding

/-- An extension entry stops holding: with no other entry holding, the timer runs from now (R120). -/
def stopHolding (e : Env) (a : Assign) (g : Group) (r : Rt) : Rt :=
  if (r.demand.assigns.get a).holding then
    let r := updAssign a (fun x => { x with holding := false }) r
    if someHolding e r g then r else updDemand g (fun d => { d with gap := .running (after e.now d.gapTime) }) r
  else r

/-- The extension part of a condition reached at `stamp` (R120). -/
def extendPart (e : Env) (a : Assign) (x : AssignEntry) (v : LoopView) (stamp : Time) (r : Rt) : Rt :=
  if e.tab.isDefined x.group && x.function.extends then
    match v with
    | .occupied => restartGap stamp x.group (stopHolding e a x.group r)
    | .faultOccupied =>
      updDemand x.group (fun d => { d with gap := .held }) (updAssign a (fun y => { y with holding := true }) r)
    | .clear | .absent => stopHolding e a x.group r
  else r

/-- Evaluate an assignment against its loop's present condition as if just reached at `stamp` (R115, R127). -/
def evalAssign (e : Env) (a : Assign) (x : AssignEntry) (stamp : Time) (r : Rt) : Rt :=
  extendPart e a x (loopView e r x.loop) stamp (demandPart e a x (loopView e r x.loop) stamp r)

/-- A state notice for a loop, or a stored write of its entry (R114); nothing while inactive (R127). -/
def demandLoop (e : Env) (l : Loop) (stamp : Time) (r : Rt) : Rt :=
  if r.demand.active then
    (e.tab.assignsWhere fun x => x.loop == l).foldl (fun r (a, x) => evalAssign e a x stamp r) r
  else r

/-- An occupied-sample notice for a loop (R100, R120). -/
def occupiedSample (e : Env) (l : Loop) (r : Rt) : Rt :=
  if r.demand.active then
    (e.tab.assignsWhere fun x => x.loop == l && x.function.extends && e.tab.isDefined x.group).foldl
      (fun r (_, x) => restartGap e.now x.group r) r
  else r

/-- BUTTON_LAMP for one button (R125, R178). -/
def buttonLamp (e : Env) (x : ButtonEntry) (lit : Bool) (r : Rt) : Rt :=
  pushAux e (ownFrame e x.addr kindButtonLamp (b8 x.index.val :: encFirst lit)) r

/-- BUTTON_LAMP for every loaded entry naming a group, in ascending entry number (R125). -/
def groupButtons (e : Env) (g : Group) (lit : Bool) (r : Rt) : Rt :=
  allEntries.foldl (fun r n =>
    match e.tab.buttons.get n with
    | some x => if x.group = g then buttonLamp e x lit r else r
    | none => r) r

/-- A group enters GREEN (R119): sources emptied, non-locking entries stop, delays stop, indicator unlit. -/
def demandGreen (e : Env) (g : Group) (r : Rt) : Rt :=
  let lit := (r.demand.groups.get g).button
  let r := updDemand g (fun d => { d with loop := false, button := false, soft := false, nonLocking := 0 }) r
  let r := (e.tab.assignsWhere fun x => x.group == g).foldl
    (fun r (a, _) => updAssign a (fun y => { y with delayDue := none, giving := false }) r) r
  if lit then groupButtons e g false r else r

/-- A group leaves GREEN (R116): every loaded assignment of the group that gives demand is evaluated. -/
def demandDepart (e : Env) (g : Group) (r : Rt) : Rt :=
  if r.demand.active then
    (e.tab.assignsWhere fun x => x.group == g && x.function.givesDemand).foldl
      (fun r (a, x) => demandPart e a x (loopView e r x.loop) e.now r) r
  else r

/-- The expiry of an assignment's demand delay (R117, R118). -/
def delayExpiry (e : Env) (a : Assign) (r : Rt) : Rt :=
  if isDue e.now (r.demand.assigns.get a).delayDue then
    match e.tab.assigns.get a with
    | some x => if r.isGreen x.group || loopView e r x.loop != .occupied then stopDelay a r else delayRun a x r
    | none => stopDelay a r
  else r

/-- A group's gap timer reaches its due moment (R120). -/
def gapExpiry (e : Env) (g : Group) (r : Rt) : Rt :=
  match (r.demand.groups.get g).gap with
  | .running due => if reached e.now due then updDemand g (fun d => { d with gap := .expired }) r else r
  | _ => r

/-- Withdraw an assignment entry before its write (R115). -/
def withdrawAssign (e : Env) (a : Assign) (r : Rt) : Rt :=
  match e.tab.assigns.get a with
  | some x => stopHolding e a x.group (stopGiving a x.group (stopDelay a r))
  | none => r

/-- The gap times handed to the Demand Unit (R65, R121). -/
def setGapTimes (v : Vector Nat 24) (r : Rt) : Rt :=
  allGroups.foldl (fun r g => updDemand g (fun d => { d with gapTime := v.get g }) r) r

/-- The Demand Unit becomes active on the mode notice of STARTUP (R121, R127). -/
def demandActivate (e : Env) (r : Rt) : Rt :=
  let r := match e.tab.plans.get r.stage.activePlan with
    | some p => setGapTimes p.gapTime r
    | none => r
  let r := r.withDemand fun d => { d with active := true }
  (e.tab.assignsWhere fun _ => true).foldl (fun r (a, x) => evalAssign e a x e.now r) r

/-- The Demand Unit inactive and emptied (R127, R128): lit indicators become unlit with their frames, by ascending group
(DESIGN CHOICE, log entry 42). -/
def demandClear (e : Env) (r : Rt) : Rt :=
  let lit := allGroups.filter fun g => (r.demand.groups.get g).button
  let r := r.withDemand fun d =>
    { active := false, assigns := Vector.replicate 64 {},
      groups := Vector.ofFn fun g => { gapTime := (d.groups.get g).gapTime } }
  lit.foldl (fun r g => groupButtons e g false r) r

/-- The Demand Unit on a mode notice of DARK or FLASH (R127). -/
def demandDeactivate (e : Env) (r : Rt) : Rt := if r.demand.active then demandClear e r else r

/-- A press for a group (R124): `x` is the matching entry. -/
def pressButton (e : Env) (x : ButtonEntry) (r : Rt) : Rt :=
  if r.demand.active && e.tab.gtype x.group == .pedestrian && !r.isGreen x.group then
    if (r.demand.groups.get x.group).button then buttonLamp e x true r
    else groupButtons e x.group true (updDemand x.group (fun d => { d with button := true }) r)
  else r

end Sys2Proof.Machine
end

