-- ==== Sys2Proof/Machine/Search.lean ====
section
/-! DEFINITION. The Stage Engine's readings (R69 to R72): stage demand, the search for a next stage, gap-out and
max-out. -/

namespace Sys2Proof.Machine

/-- The current stage, during a stage or an interstage. -/
def Rt.currentStage (r : Rt) : Option Stage := r.stage.current.map StageRec.stage

/-- The Stage Engine is in STAGE_MIN or STAGE_RUN: the Priority Unit's stage view is present (R149). -/
def Rt.inStagePhase (r : Rt) : Bool := r.stage.phase == .stageMin || r.stage.phase == .stageRun

/-- A stage has demand: a group of its green set not in GREEN has demand (R71). -/
def stageDemand (e : Env) (r : Rt) (s : Stage) : Bool :=
  (e.tab.greenSet s).any fun g => !r.isGreen g && hasDemand r g

/-- The taken sequence. -/
def Rt.sequence (r : Rt) : List Stage :=
  match r.stage.taken with
  | some t => t.sequence
  | none => []

/-- The stages of the taken sequence in search order, the current stage passed over (R71). -/
def searchOrder (r : Rt) : List Stage :=
  (r.sequence.drop r.stage.position ++ r.sequence.take r.stage.position).filter fun s => r.currentStage != some s

/-- The transition from the current stage to `s` is permitted. -/
def permittedFromCurrent (e : Env) (r : Rt) (s : Stage) : Bool :=
  match r.currentStage with
  | some c => e.tab.permits c s
  | none => false

/-- A stage is not priority-only (an empty entry counts as one that is not taken). -/
def ordinaryStage (e : Env) (s : Stage) : Bool :=
  match e.tab.stages.get s with
  | some x => !x.priorityOnly
  | none => false

/-- A stage is skippable. -/
def skippableStage (e : Env) (s : Stage) : Bool :=
  match e.tab.stages.get s with
  | some x => x.skippable
  | none => true

/-- The MANUAL test of R71. -/
def manualTest (e : Env) (r : Rt) (s : Stage) : Bool := ordinaryStage e s && permittedFromCurrent e r s

/-- The AUTONOMOUS test of R71. -/
def autonomousTest (e : Env) (r : Rt) (s : Stage) : Bool :=
  ordinaryStage e s && permittedFromCurrent e r s && (stageDemand e r s || !skippableStage e s)

/-- The next stage under the AUTONOMOUS test (R71). -/
def nextAutonomous (e : Env) (r : Rt) : Option Stage := (searchOrder r).find? (autonomousTest e r)

/-- The next stage under the MANUAL test (R71). -/
def nextManual (e : Env) (r : Rt) : Option Stage := (searchOrder r).find? (manualTest e r)

/-- Condition 2 of R72: another stage of the taken sequence, not priority-only, has demand. -/
def demandElsewhere (e : Env) (r : Rt) : Bool :=
  (searchOrder r).any fun s => ordinaryStage e s && stageDemand e r s

/-- A group is an extension group: it has a loaded extension entry (R70, R121). -/
def extensionGroup (e : Env) (g : Group) : Bool := !(e.tab.assignsWhere fun x => x.group == g && x.function.extends).isEmpty

/-- Gap-out of the current stage (R70): every extension group's gap timer has expired; without an extension group, the
min-end has been taken. -/
def gapOut (e : Env) (r : Rt) : Bool :=
  match r.currentStage with
  | some c =>
    let groups := (e.tab.greenSet c).filter (extensionGroup e)
    if groups.isEmpty then r.stage.phase == .stageRun
    else groups.all fun g => (r.demand.groups.get g).gap == .expired
  | none => false

/-- Max-out: the timer runs and M has been reached (R69). -/
def maxOutHolds (e : Env) (r : Rt) : Bool :=
  match r.stage.current with
  | some c => isDue e.now c.maxOut
  | none => false

/-- An extension hold is in effect: offered, and the current time is before H (R85). -/
def holdInEffect (e : Env) (r : Rt) : Bool :=
  match r.priority.holdOffer with
  | some h => !reached e.now h.holdTo
  | none => false

/-- The stage that a normal end of the current stage leads to: conditions 2 and 3 of R72, with the truncation's target in
place of the search (R86). -/
def wantedStage (e : Env) (r : Rt) : Option Stage :=
  if demandElsewhere e r then
    match r.priority.truncOffer with
    | some t => some t.target
    | none => nextAutonomous e r
  else none

/-- A group's demand record without its demand. -/
def DemandRec.without (x : DemandRec) : DemandRec := { x with loop := false, button := false, soft := false, nonLocking := 0 }

/-- The blocks with the demand of every group outside `l` disregarded. -/
def demandOnly (l : List Group) (r : Rt) : Rt :=
  let only := fun g => if l.contains g then r.demand.groups.get g else (r.demand.groups.get g).without
  r.withDemand fun d => { d with groups := Vector.ofFn only }

/-- Gap-out, where it holds, can end the stage: in STAGE_RUN (R70), under AUTONOMOUS (R72, R74), with no hold in effect
(R85). -/
def gapActs (e : Env) (r : Rt) : Bool :=
  r.stage.phase == .stageRun && r.mode.mode == .running && r.mode.source == .autonomous && !holdInEffect e r

/-- Gap-out counts toward condition 4 of R72: it holds, and where it came at this very moment and has already been read
where it can end the stage, conditions 2 and 3 are met without the demands taken after that reading, which leave the stage
running (R72's last sentence; log entry 46). -/
def gapCounts (e : Env) (r : Rt) : Bool :=
  gapOut e r && match r.stage.current.bind StageRec.gap with
    | some ⟨since, some standing⟩ => since != e.now || (wantedStage e (demandOnly standing r)).isSome
    | _ => true

/-- A defined group outside the current stage's green set has demand (R69). -/
def demandOutside (e : Env) (r : Rt) : Bool :=
  match r.currentStage with
  | some c => allGroups.any fun g => e.tab.isDefined g && !e.tab.inStage c g && hasDemand r g
  | none => false

end Sys2Proof.Machine
end

