-- ==== Sys2Proof/Machine/Priority.lean ====
section
/-! DEFINITION. The Priority Unit (chapter 8): the queue, lead and target, the two offers, actions served, lockout. -/

namespace Sys2Proof.Machine

/-- The tram record of a slot. -/
def Rt.tram (r : Rt) (t : TramSlot) : Option TramRec := r.trams.get t

/-- A record is queued when priority is on: APPROACHING and of level 1 or more (R146). -/
def queueable (x : TramRec) : Bool := x.state == .approaching && decide (1 ≤ x.level)

/-- Moment `a` is earlier than moment `b`, as both stand at `now`: the differences to `now` are compared (R1), so that a
check-in stamp of any age is compared rightly. -/
def earlierThan (now a b : Time) : Bool := decide (back now b < back now a)

/-- The order of the queue (R146): level, E1, check-in stamp, slot number. -/
def queuedBefore (now : Time) (s : TramSlot) (x : TramRec) (s' : TramSlot) (y : TramRec) : Bool :=
  if x.level ≠ y.level then decide (y.level < x.level)
  else
    let ex := x.e1.getD x.checkIn
    let ey := y.e1.getD y.checkIn
    if ex ≠ ey then earlierThan now ex ey
    else if x.checkIn ≠ y.checkIn then earlierThan now x.checkIn y.checkIn
    else decide (s.val < s'.val)

/-- Put a slot at its place in the queue (R147). -/
def insertQueue (now : Time) (trams : Vector (Option TramRec) 8) (s : TramSlot) (x : TramRec) : List TramSlot → List TramSlot
  | [] => [s]
  | q :: qs =>
    match trams.get q with
    | some y => if queuedBefore now s x q y then s :: q :: qs else q :: insertQueue now trams s x qs
    | none => q :: insertQueue now trams s x qs

/-- The queue after a record notice for a slot (R147). -/
def requeue (now : Time) (enable : Bool) (trams : Vector (Option TramRec) 8) (s : TramSlot) (q : List TramSlot) : List TramSlot :=
  let q := q.filter (· ≠ s)
  match trams.get s with
  | some x => if enable && queueable x then insertQueue now trams s x q else q
  | none => q

/-- The queue built anew from the tram table (R148). -/
def rebuildQueue (now : Time) (enable : Bool) (trams : Vector (Option TramRec) 8) : List TramSlot :=
  allTramSlots.foldl (fun q s => requeue now enable trams s q) []

/-- The lead of a tram group in stage `c` (R151). -/
def lead (e : Env) (c : Stage) (g : Group) : Nat :=
  ((e.tab.greenSet c).foldl (fun n i => if e.tab.conflicts i g then max n (e.tab.ig i g) else n) (e.tab.ra g)) +
    e.tab.settings.allowance

/-- The target stage of a tram group from stage `c` (R152). -/
def targetStage (e : Env) (r : Rt) (c : Stage) (g : Group) (prio : Option Stage) : Option Stage :=
  if e.tab.isDefined g then
    match (searchOrder r).find? fun s => e.tab.inStage s g && e.tab.permits c s with
    | some s => some s
    | none =>
      match prio with
      | some s => if e.tab.inStage s g && e.tab.permits c s then some s else none
      | none => none
  else none

/-- The truncation offer (R153), in a stage under AUTONOMOUS. -/
def formTruncation (e : Env) (r : Rt) (c : StageRec) : Option TruncOffer :=
  match r.priority.queue.head? with
  | none => none
  | some slot =>
    match r.tram slot with
    | none => none
    | some x =>
      if e.tab.inStage c.stage x.group then none
      else if r.priority.lockoutDue.isSome && x.level ≠ 3 then none
      else match targetStage e r c.stage x.group x.priorityStage, x.e1 with
        | some s, some e1 => some ⟨laterOf e.now c.minEnd (before e1 (lead e c.stage x.group)), s, slot, x.level⟩
        | _, _ => none

/-- The hold moment of a covered record (R154). -/
def holdMoment (now : Time) (maxOut : Option Time) (limit : Nat) (x : TramRec) : Option Time :=
  match x.e2 with
  | none => none
  | some e2 =>
    match maxOut with
    | some m => some (earlierOf now e2 (after m (min x.maxExt limit)))
    | none => some e2

/-- The hold offer (R154): over the covered records in queue order, the latest moment, the first to give it named. -/
def formHold (e : Env) (r : Rt) (c : StageRec) (trunc : Option TruncOffer) : Option HoldOffer :=
  let limit := match r.stage.taken with | some t => t.extLimit | none => 0
  r.priority.queue.foldl (fun best slot =>
    match r.tram slot with
    | none => best
    | some x =>
      let covered := e.tab.inStage c.stage x.group && (match trunc with | some t => decide (t.level ≤ x.level) | none => true)
      if covered then
        match holdMoment e.now c.maxOut limit x, best with
        | none, _ => best
        | some h, none => some ⟨h, slot, x.level⟩
        | some h, some b => if back e.now b.holdTo ≤ back e.now h then best else some ⟨h, slot, x.level⟩
      else best) none

/-- Recompute both offers (R150). -/
def recomputeOffers (e : Env) (r : Rt) : Rt :=
  let mayHold := r.mode.mode == .running && r.inStagePhase && (r.mode.source == .autonomous || r.mode.source == .directed)
  match (if mayHold then r.stage.current else none) with
  | some c =>
    let trunc := if r.mode.source = .autonomous then formTruncation e r c else none
    let hold := formHold e r c trunc
    r.withPriority fun p => { p with holdOffer := hold, truncOffer := trunc }
  | none => r.withPriority fun p => { p with holdOffer := none, truncOffer := none }

/-- A record notice of the Tram Unit (R143, R147): the queue, then the offers, which are recomputed at every record notice,
also at one that leaves the queue as it was (DESIGN CHOICE, log entry 48: R147 and R150 name changes of the queue). -/
def recordNotice (e : Env) (s : TramSlot) (r : Rt) : Rt :=
  recomputeOffers e (r.withPriority fun p => { p with queue := requeue e.now p.enable r.trams s p.queue })

/-- Raise the served count of a level (R156, R157). -/
def raiseServed (level : Nat) (r : Rt) : Rt :=
  r.withPriority fun p => { p with served :=
    if h : 1 ≤ level ∧ level ≤ 3 then upd p.served ⟨level - 1, by omega⟩ (fun n => min (n + 1) Config.countMax) else p.served }

/-- The Stage Engine's extension notice (R156). -/
def extensionNotice (e : Env) (r : Rt) : Rt :=
  match r.priority.holdOffer, r.currentStage with
  | some h, some c =>
    if r.priority.extensionNoted then r
    else
      let r := raiseServed h.level (r.withPriority fun p => { p with extensionNoted := true })
      post e .priorityAction (b8 h.slot.val) [0#8, b8 h.level, stageByte c] r
  | _, _ => r

/-- The stage-end notice (R157, R158): actions served, lockout, offers absent. -/
def stageEndNotice (e : Env) (truncated outOfOrder : Bool) (r : Rt) : Rt :=
  let r := match r.priority.truncOffer with
    | none => r
    | some t =>
      let r := if truncated then post e .priorityAction (b8 t.slot.val) [1#8, b8 t.level, stageByte t.target] r else r
      let r := if outOfOrder then post e .priorityAction (b8 t.slot.val) [2#8, b8 t.level, stageByte t.target] r else r
      if truncated || outOfOrder then
        let r := raiseServed t.level r
        match r.stage.taken with
        | some k => if 0 < k.lockout then r.withPriority fun p => { p with lockoutDue := some (after e.now k.lockout) } else r
        | none => r
      else r
  r.withPriority fun p => { p with holdOffer := none, truncOffer := none }

/-- The Priority Unit on a mode notice (R158, R160). -/
def priorityNotice (e : Env) (r : Rt) : Rt :=
  let r := if r.mode.mode = .dark ∨ r.mode.mode = .flash then r.withPriority fun p => { p with lockoutDue := none } else r
  recomputeOffers e r

end Sys2Proof.Machine
end

