-- ==== Sys2Proof/Machine/Tram.lean ====
section
/-! DEFINITION. The Tram Unit (chapter 7): telegrams and their validation, tram records, their timers. -/

namespace Sys2Proof.Machine

/-- The telegram types (chapter 7). -/
inductive TelegramType where
  | checkIn | doorClosed | checkOut | cancel
deriving DecidableEq, Repr

/-- A telegram as its payload carries it (R178): the type code, and the lateness signed. -/
structure Telegram where
  point : Byte
  typeCode : Byte
  line : Nat
  run : Nat
  route : Byte
  lateness : Int
deriving DecidableEq, Repr

/-- The telegram of a payload of 9 bytes. -/
def telegramOf : List Byte → Option Telegram
  | [p, t, l1, l0, r1, r0, c, z1, z0] => some ⟨p, t, num [l1, l0], num [r1, r0], c, (z1 ++ z0).toInt⟩
  | _ => none

/-- The causes of refusal of a telegram (R130, R131, R134), coded in the order of R143's table. -/
inductive TelegramRefusal where
  | badField | unknownRoute | wrongPoint | tableFull
deriving DecidableEq, Repr

/-- Codes of the causes. -/
def TelegramRefusal.code : TelegramRefusal → Nat
  | .badField => 0 | .unknownRoute => 1 | .wrongPoint => 2 | .tableFull => 3

/-- A line and run in range (R130, R141). -/
def tramNumbersOk (line run : Nat) : Bool := decide (1 ≤ line ∧ line ≤ 999 ∧ 1 ≤ run ∧ run ≤ 9999)

/-- The field checks of a telegram (R130). -/
def telegramFieldsOk (x : Telegram) : Bool := x.point != 0#8 && decide (x.typeCode.toNat < 4) && tramNumbersOk x.line x.run

/-- The lateness used and stored (R130). -/
def clampLateness (l : Int) : Int := max (-999) (min 999 l)

/-- The loaded route entry that carries a code (R131). -/
def routeOf (t : Tables) (code : Byte) : Option RouteEntry :=
  allEntries.findSome? fun n => match t.routes.get n with | some x => if x.code = code then some x else none | none => none

/-- The point check of R131. -/
def pointOk (route : RouteEntry) (type : TelegramType) (point : Byte) : Bool :=
  match type with
  | .checkIn => point == route.checkIn
  | .doorClosed => route.door == some point
  | .checkOut => point == route.checkOut
  | .cancel => true

/-- The level of a record (R138). -/
def levelOf (route : RouteEntry) (lateness : Int) : Nat :=
  let up : Int := if (2 * route.late : Nat) ≤ lateness then 2 else if (route.late : Nat) ≤ lateness then 1 else 0
  let down : Int := if route.early ≠ 0 ∧ lateness ≤ -(route.early : Int) then 1 else 0
  (max 0 (min 3 ((route.baseLevel : Int) + up - down))).toNat

/-- The opening of the ETA window (R137). -/
def windowOpen (tIn : Time) (route : RouteEntry) : Time :=
  if route.travel < route.spread then tIn else after tIn (route.travel - route.spread)

/-- The close of the ETA window (R137). -/
def windowClose (tIn : Time) (route : RouteEntry) : Time := after tIn (route.travel + route.spread)

/-- The slot of the record that holds a line and run (R134). -/
def tramSlot (r : Rt) (line run : Nat) : Option TramSlot :=
  allTramSlots.find? fun s => match r.tram s with | some x => x.line == line && x.run == run | none => false

/-- The lowest-numbered free slot (R134). -/
def freeSlot (r : Rt) : Option TramSlot := allTramSlots.find? fun s => (r.tram s).isNone

/-- Put a record into a slot, or free it. -/
def setTram (s : TramSlot) (x : Option TramRec) (r : Rt) : Rt := r.withTrams fun v => upd v s fun _ => x

/-- Post TRAM_REFUSED (R130). -/
def postTramRefused (e : Env) (src : Byte) (c : TelegramRefusal) (r : Rt) : Rt := post e .tramRefused src (enc1 c.code) r

/-- The record of a CHECK_IN (R135), with the green test of R142. -/
def checkInRecord (e : Env) (r : Rt) (x : Telegram) (route : RouteEntry) : TramRec :=
  let l := clampLateness x.lateness
  let base : TramRec :=
    { line := x.line, run := x.run, route := x.route, group := route.group, priorityStage := route.priorityStage,
      maxExt := route.maxExt, guardTime := route.guardTime, state := .atStop, level := levelOf route l, lateness := l,
      checkIn := e.now, doorClosed := none, e1 := none, e2 := none, greenGiven := false,
      timer := .stopLimit, timerDue := after e.now Config.stopLimit }
  match route.door with
  | some _ => base
  | none =>
    { base with
        state := .approaching, e1 := some (windowOpen e.now route), e2 := some (windowClose e.now route),
        greenGiven := r.isGreen route.group, timer := .windowEnd, timerDue := windowClose e.now route }

/-- The record of a DOOR_CLOSED (R136); `old` is the record that holds the line and run, whose check-in stamp is kept. -/
def doorRecord (e : Env) (r : Rt) (x : Telegram) (route : RouteEntry) (old : Option TramRec) : TramRec :=
  let l := clampLateness x.lateness
  { line := x.line, run := x.run, route := x.route, group := route.group, priorityStage := route.priorityStage,
    maxExt := route.maxExt, guardTime := route.guardTime, state := .approaching, level := levelOf route l, lateness := l,
    checkIn := (match old with | some o => o.checkIn | none => e.now), doorClosed := some e.now,
    e1 := some (windowOpen e.now route), e2 := some (windowClose e.now route),
    greenGiven := r.isGreen route.group, timer := .windowEnd, timerDue := windowClose e.now route }

/-- Create or recompute a record (R134 to R136): change, record notice, event (R143). -/
def placeRecord (e : Env) (src : Byte) (line run : Nat) (make : Option TramRec → TramRec) (r : Rt) : Rt :=
  match (tramSlot r line run).or (freeSlot r) with
  | none => postTramRefused e src .tableFull r
  | some s =>
    let x := make (match tramSlot r line run with | some k => r.tram k | none => none)
    post e .tramCheckin (b8 s.val) [b8 x.state.code, b8 x.level] (recordNotice e s (setTram s (some x) r))

/-- The causes of TRAM_CHECKOUT, coded in the order of R143's table. -/
inductive CheckoutCause where
  | checkOut | cancel | command
deriving DecidableEq, Repr

/-- Codes of the causes. -/
def CheckoutCause.code : CheckoutCause → Nat
  | .checkOut => 0 | .cancel => 1 | .command => 2

/-- Remove the record of a slot and post TRAM_CHECKOUT (R140). -/
def checkoutSlot (e : Env) (s : TramSlot) (c : CheckoutCause) (r : Rt) : Rt :=
  match r.tram s with
  | none => r
  | some x =>
    post e .tramCheckout (b8 s.val) ([0#8, b8 c.code] ++ encFirst x.greenGiven) (recordNotice e s (setTram s none r))

/-- A valid CHECK_OUT or CANCEL (R140). -/
def checkout (e : Env) (line run : Nat) (c : CheckoutCause) (r : Rt) : Rt :=
  match tramSlot r line run with
  | some s => checkoutSlot e s c r
  | none => post e .tramCheckout noSubject [1#8] r

/-- A telegram of a known type after its field checks (R131, R135, R136, R140). -/
def validTelegram (e : Env) (src : Byte) (type : TelegramType) (x : Telegram) (r : Rt) : Rt :=
  match routeOf e.tab x.route with
  | none => postTramRefused e src .unknownRoute r
  | some route =>
    if pointOk route type x.point then
      match type with
      | .checkIn => placeRecord e src x.line x.run (fun _ => checkInRecord e r x route) r
      | .doorClosed => placeRecord e src x.line x.run (fun old => doorRecord e r x route old) r
      | .checkOut => checkout e x.line x.run .checkOut r
      | .cancel => checkout e x.line x.run .cancel r
    else postTramRefused e src .wrongPoint r

/-- A taken telegram, as a telegram of this type (R130). -/
def takeTelegram (e : Env) (src : Byte) (type : TelegramType) (pl : List Byte) (r : Rt) : Rt :=
  match telegramOf pl with
  | none => r
  | some x => if telegramFieldsOk x then validTelegram e src type x r else postTramRefused e src .badField r

/-- A group enters GREEN (R142): the records of that group in APPROACHING or OVERDUE have green given. -/
def tramGreen (e : Env) (g : Group) (r : Rt) : Rt :=
  allTramSlots.foldl (fun r s =>
    match r.tram s with
    | some x =>
      if x.group = g ∧ x.state ≠ .atStop ∧ x.greenGiven = false then
        recordNotice e s (setTram s (some { x with greenGiven := true }) r)
      else r
    | none => r) r

/-- Post TRAM_LOST (R139). -/
def postTramLost (e : Env) (s : TramSlot) (x : TramRec) (r : Rt) : Rt :=
  post e .tramLost (b8 s.val) (enc1 x.state.code ++ encFirst x.greenGiven) r

/-- Remove a record whose timer ends it (R139). -/
def loseTram (e : Env) (s : TramSlot) (x : TramRec) (r : Rt) : Rt :=
  postTramLost e s x (recordNotice e s (setTram s none r))

/-- STOP_LIMIT of a slot's record (R139). -/
def stopLimitRun (e : Env) (s : TramSlot) (r : Rt) : Rt :=
  match r.tram s with
  | some x => if x.timer = .stopLimit ∧ reached e.now x.timerDue = true then loseTram e s x r else r
  | none => r

/-- GUARD_END of a slot's record (R139). -/
def guardEndRun (e : Env) (s : TramSlot) (r : Rt) : Rt :=
  match r.tram s with
  | some x => if x.timer = .guardEnd ∧ reached e.now x.timerDue = true then loseTram e s x r else r
  | none => r

/-- WINDOW_END of a slot's record (R139): OVERDUE with GUARD_END; with a guard of 0, removed at once. -/
def windowEndRun (e : Env) (s : TramSlot) (r : Rt) : Rt :=
  match r.tram s with
  | some x =>
    if x.timer = .windowEnd ∧ reached e.now x.timerDue = true then
      let y : TramRec := { x with state := .overdue, timer := .guardEnd, timerDue := after x.timerDue x.guardTime }
      guardEndRun e s (recordNotice e s (setTram s (some y) r))
    else r
  | none => r

/-- The tram table empties on the mode notice of DARK and at RESTART, without events (R144). -/
def tramsEmpty (e : Env) (r : Rt) : Rt :=
  allTramSlots.foldl (fun r s => if (r.tram s).isSome then recordNotice e s (setTram s none r) else r) r

end Sys2Proof.Machine
end

