-- ==== Sys2Proof/Machine/Groups.lean ====
section
/-! DEFINITION. The Group Sequencer (chapter 1): green-start and green-end orders, the moments of a group, and the
whole-junction orders. -/

namespace Sys2Proof.Machine

/-- Change a group's record. -/
def updGroup (g : Group) (f : GroupRec → GroupRec) (r : Rt) : Rt := r.withGroups fun v => upd v g f

/-! ### Notices to the interstage record (R82) -/

/-- A gaining group has reached GREEN (R82). -/
def markGreen (g : Group) (r : Rt) : Rt :=
  r.withStage fun s => { s with inter := s.inter.map fun i =>
    { i with gaining := i.gaining.map fun x => if x.group = g then { x with green := true } else x } }

/-- A losing group has reached REST (R82). -/
def markRest (g : Group) (r : Rt) : Rt :=
  r.withStage fun s => { s with inter := s.inter.map fun i =>
    { i with losing := i.losing.map fun x => if x.group = g then { x with rest := true } else x } }

/-! ### Starting green (R9 to R11) -/

/-- The moment to enter STARTING has come: REST, a pending green start t_j, RA above 0, t_j − RA reached (R9). -/
def startingNow (e : Env) (r : Rt) (g : Group) : Bool :=
  let x := r.groups.get g
  x.state == .rest && decide (0 < e.tab.ra g) &&
    (match x.pendingGreen with | some t => reached e.now (before t (e.tab.ra g)) | none => false)

/-- A group enters STARTING when its moment has come (R9). -/
def enterStarting (e : Env) (g : Group) (r : Rt) : Rt :=
  if startingNow e r g then
    groupFrame e g (updGroup g (fun x => { x with state := .starting, startingDue := x.pendingGreen }) r)
  else r

/-- The green start that a group in STARTING, or in REST with RA 0, has reached (R10). -/
def greenNow (e : Env) (r : Rt) (g : Group) : Option Time :=
  let x := r.groups.get g
  if x.state = .starting ∨ (x.state = .rest ∧ e.tab.ra g = 0) then
    match x.pendingGreen with
    | some t => if reached e.now t then some t else none
    | none => none
  else none

/-- The record of a group that enters GREEN at `t` (R10). -/
def GroupRec.enterGreen (t : Time) (minGreen : Nat) (x : GroupRec) : GroupRec :=
  { x with
      state := .green, pendingGreen := none, greenStart := some t, minMet := false, startingDue := none,
      minGreenDue := some (after t minGreen) }

/-- A group enters GREEN when its green start is reached: frame, and the notices of R10 to the Demand Unit (R119), the
Tram and Priority Units (R142, R150) and the Stage Engine (R82). -/
def enterGreen (e : Env) (g : Group) (r : Rt) : Rt :=
  match greenNow e r g with
  | some t =>
    markGreen g (recomputeOffers e (tramGreen e g (demandGreen e g (groupFrame e g
      (updGroup g (GroupRec.enterGreen t (e.tab.minGreen g)) r)))))
  | none => r

/-- A green-start order with green start time `t` (R9), with the moments already reached taken at once. -/
def takeGreenStart (e : Env) (g : Group) (t : Time) (r : Rt) : Rt :=
  let x := r.groups.get g
  if x.state = .rest ∧ x.pendingGreen = none then
    enterGreen e g (enterStarting e g (updGroup g (fun x => { x with pendingGreen := some t }) r))
  else r

/-- Min green has run for a group in GREEN (R11). -/
def minGreenRun (e : Env) (g : Group) (r : Rt) : Rt :=
  let x := r.groups.get g
  if x.state = .green ∧ isDue e.now x.minGreenDue = true then
    updGroup g (fun x => { x with minMet := true, minGreenDue := none }) r
  else r

/-! ### Ending green (R12, R13) -/

/-- A group in GREEN takes a green-end order (R11): min-green-met is set, or its moment has been reached. -/
def takesGreenEnd (e : Env) (r : Rt) (g : Group) : Bool :=
  let x := r.groups.get g
  x.state == .green && (x.minMet || isDue e.now x.minGreenDue)

/-- The record of a group that takes a green-end order at `now` (R12). -/
def GroupRec.endGreen (now : Time) (clearing : Nat) (x : GroupRec) : GroupRec :=
  let y := { x with greenEnd := some now, minMet := false, minGreenDue := none }
  if 0 < clearing then { y with state := .clearing, clearingDue := some (after now clearing) } else { y with state := .rest }

/-- The confirmation record of a green-end order (R170). -/
def createConfirm (e : Env) (g : Group) (r : Rt) : Rt :=
  r.withLamp fun x => { x with confirms := upd x.confirms g fun _ => some ⟨e.now, after e.now Config.second⟩ }

/-- A green-end order (R12): the confirmation record before the frame (R166), then the frame, the Demand Unit (R116),
and REST at once for a clearing time of 0. -/
def takeGreenEnd (e : Env) (g : Group) (r : Rt) : Rt :=
  if takesGreenEnd e r g then
    let r := groupFrame e g (createConfirm e g (updGroup g (GroupRec.endGreen e.now (e.tab.clearing g)) r))
    let r := demandDepart e g r
    if 0 < e.tab.clearing g then r else markRest g r
  else r

/-- A group's clearing timer has run (R13). -/
def clearingRun (e : Env) (g : Group) (r : Rt) : Rt :=
  let x := r.groups.get g
  if x.state = .clearing ∧ isDue e.now x.clearingDue = true then
    markRest g (groupFrame e g (updGroup g (fun x => { x with state := .rest, clearingDue := none }) r))
  else r

/-! ### Whole-junction orders (R5 to R8) -/

/-- The state a flash order asks for (R5). -/
def flashState (t : Tables) (g : Group) : GroupState := if t.gtype g = .vehicle then .flashing else .dark

/-- A flash or dark order reaches a group (R5, R6): a change of state drops its pending green start, indication, timers
and times, and makes its confirmation record absent (R170). -/
def orderGroup (target : GroupState) (g : Group) (r : Rt) : Rt :=
  if (r.groups.get g).state = target then r
  else (updGroup g (fun _ => { state := target }) r).withLamp fun x => { x with confirms := upd x.confirms g fun _ => none }

/-- A flash order, groups only (R5). -/
def flashGroups (e : Env) (r : Rt) : Rt := allGroups.foldl (fun r g => orderGroup (flashState e.tab g) g r) r

/-- A dark order, groups only (R6). -/
def darkGroups (r : Rt) : Rt := allGroups.foldl (fun r g => orderGroup .dark g r) r

/-- A rest order reaches a group (R7). -/
def restGroup (e : Env) (g : Group) (r : Rt) : Rt :=
  let x := r.groups.get g
  if e.tab.isDefined g ∧ (x.state = .dark ∨ x.state = .flashing) then updGroup g (fun _ => { state := .rest }) r else r

/-- A flash order with its frames (R5, R167). -/
def flashOrder (e : Env) (r : Rt) : Rt := frameAll e (flashGroups e r)

/-- A dark order with its frames (R6, R167). -/
def darkOrder (e : Env) (r : Rt) : Rt := frameAll e (darkGroups r)

/-- A rest order with its frames (R7, R167). -/
def restOrder (e : Env) (r : Rt) : Rt := frameAll e (allGroups.foldl (fun r g => restGroup e g r) r)

/-- A stored group table entry acts on the group's state (R8): nothing in DARK, a flash order's state in FLASH. -/
def groupWritten (e : Env) (g : Group) (r : Rt) : Rt :=
  if r.mode.mode = .flash then orderGroup (flashState e.tab g) g r else r

end Sys2Proof.Machine
end

