-- ==== Sys2Proof/Machine/LoopUnit.lean ====
section
/-! DEFINITION. The Loop Unit (chapter 5): samples, deviation and tracking, occupancy, sweeps and wait lists, card
silence, recovery, writes, DARK and RESTART. -/

namespace Sys2Proof.Machine

/-! ### Records -/

/-- A loop's record. -/
def Rt.loopRec (r : Rt) (l : Loop) : LoopRec := r.loops.recs.get l

/-- A card's record. -/
def Rt.cardRec (r : Rt) (addr : Byte) : Option CardRec := r.loops.cards.find? fun c => c.addr == addr

/-- Change a loop record. -/
def updLoop (l : Loop) (f : LoopRec → LoopRec) (r : Rt) : Rt := r.withLoops fun u => { u with recs := upd u.recs l f }

/-- Change a card record. -/
def updCard (addr : Byte) (f : CardRec → CardRec) (r : Rt) : Rt :=
  r.withLoops fun u => { u with cards := u.cards.map fun c => if c.addr = addr then f c else c }

/-- A record brought to `s` with everything absent or 0 but the vehicle count (R90, R108, R111). -/
def LoopRec.cleared (s : LoopState) (x : LoopRec) : LoopRec := { state := s, vehicles := x.vehicles }

/-- A loop joins the tail of a card's wait list, once (R102). -/
def joinList (addr : Byte) (l : Loop) (r : Rt) : Rt :=
  updCard addr (fun c => if c.wait.contains l then c else { c with wait := c.wait ++ [l] }) r

/-- A loop leaves a card's wait list. -/
def leaveList (addr : Byte) (l : Loop) (r : Rt) : Rt :=
  updCard addr (fun c => { c with wait := c.wait.filter (· ≠ l) }) r

/-- Entry into FAULT by a sample (R93, R98): the setting is kept, all else is absent or 0; LOOP_FAULT, state notice. -/
def faultLoop (e : Env) (l : Loop) (c : LoopCause) (r : Rt) : Rt :=
  demandLoop e l e.now (postLoopFault e l c
    (updLoop l (fun x => { x.cleared .fault with cause := some c, setting := x.setting }) r))

/-! ### Sweeps (R102 to R106) -/

/-- Another loop of the card holds a setting and protects it (R104). -/
def settingHeld (e : Env) (r : Rt) (addr : Byte) (l : Loop) (k : Nat) : Bool :=
  (e.tab.cardLoops addr).any fun m =>
    m != l && (r.loopRec m).setting == some k &&
      [LoopState.tuning, .settling, .clear, .occupied].contains (r.loopRec m).state

/-- The first setting from `k` on that is not skipped (R104). -/
def nextSetting (e : Env) (r : Rt) (addr : Byte) (l : Loop) (k : Nat) : Option Nat :=
  (List.range 8).find? fun n => decide (k ≤ n) && !settingHeld e r addr l n

/-- A setting is tried: LOOP_TUNE, sweep record, echo timer (R104). -/
def trySetting (e : Env) (x : LoopEntry) (l : Loop) (k : Nat) (r : Rt) : Rt :=
  updLoop l (fun y => { y with sweep := some ⟨some k, .awaitingEcho, some (after e.now Config.second)⟩ })
    (pushAux e (ownFrame e x.card kindLoopTune [b8 x.channel.val, b8 k]) r)

/-- The sweep's end in failure (R106); the next head is not yet begun. -/
def sweepFailed (e : Env) (x : LoopEntry) (l : Loop) (r : Rt) : Rt :=
  demandLoop e l e.now (postLoopFault e l .tuneFail (leaveList x.card l
    (updLoop l (fun y => { y.cleared .fault with
        cause := some .tuneFail, retryDue := some (after e.now Config.retryTime) }) r)))

/-- Consider the settings from `k` on (R104). -/
def sweepFrom (e : Env) (x : LoopEntry) (l : Loop) (k : Nat) (r : Rt) : Rt :=
  match nextSetting e r x.card l k with
  | some n => trySetting e x l n r
  | none => sweepFailed e x l r

/-- The head begins its sweep (R103). -/
def beginSweep (e : Env) (x : LoopEntry) (l : Loop) (r : Rt) : Rt :=
  sweepFrom e x l 0 (demandLoop e l e.now (updLoop l (fun y => { y with state := .tuning, sweep := some {} }) r))

/-- The head of a card's list, when it waits for its sweep (R103). -/
def waitingHead (e : Env) (r : Rt) (addr : Byte) : Option (Loop × LoopEntry) :=
  match r.cardRec addr with
  | none => none
  | some c =>
    match c.wait.head? with
    | none => none
    | some l =>
      match e.tab.loops.get l with
      | some x => if (r.loopRec l).state = .waitingTune then some (l, x) else none
      | none => none

/-- The head begins outside DARK; a head whose every setting is skipped fails and hands on to the next (R103, R104).
A list holds at most four loops (R102), so four rounds reach its end. -/
def kickCard (e : Env) (addr : Byte) : Nat → Rt → Rt
  | 0, r => r
  | n + 1, r =>
    if r.mode.mode = .dark then r
    else match waitingHead e r addr with
      | some (l, x) => kickCard e addr n (beginSweep e x l r)
      | none => r

/-- `kickCard` for as many heads as a list can hold. -/
def kick (e : Env) (addr : Byte) (r : Rt) : Rt := kickCard e addr 4 r

/-! ### Samples (R93 to R99, R104, R105, R109, R110) -/

/-- A channel's count and setting echo. -/
structure Sample where
  count : Nat
  echo : Nat
deriving DecidableEq, Repr

/-- The count is not 0 and lies within the count window (R93). -/
def inWindow (x : LoopEntry) (c : Nat) : Bool := c != 0 && decide (x.cmin ≤ c) && decide (c ≤ x.cmax)

/-- The full validity test (R93). -/
def validSample (x : LoopEntry) (setting : Option Nat) (s : Sample) : Bool := inWindow x s.count && setting == some s.echo

/-- The deviation in ppm of a count from baseline `b` (R94). -/
def deviation (b c : Nat) : Int := max (-32767) (min 32767 (Int.tdiv (((b : Int) - (c : Int)) * 1000000) (b : Int)))

/-- The tracking step from `bf` toward a count (R95). -/
def trackStep (k bf c : Nat) : Int :=
  let diff : Int := (c : Int) * 256 - (bf : Int)
  let q := Int.tdiv diff ((2 : Int) ^ k)
  if q = 0 then (if 0 < diff then 1 else if diff < 0 then -1 else 0) else q

/-- The baseline after tracking (R95). -/
def track (k bf c : Nat) : Nat := ((bf : Int) + trackStep k bf c).toNat

/-- An invalid sample in SETTLING, CLEAR or OCCUPIED (R93, R100). -/
def invalidSample (e : Env) (l : Loop) (s : Sample) (r : Rt) : Rt :=
  let y := r.loopRec l
  if 3 ≤ y.invalidRun + 1 then faultLoop e l (if s.count = 0 then .noOsc else .outOfWindow) r
  else
    let r := updLoop l (fun y => { y with invalidRun := y.invalidRun + 1 }) r
    if y.state = .occupied then occupiedSample e l r else r

/-- Entry into CLEAR (R97, R99): LOOP_STATE and the state notice. -/
def enterClear (e : Env) (l : Loop) (r : Rt) : Rt :=
  demandLoop e l e.now (post e .loopState (loopByte l) (enc1 LoopState.clear.code)
    (updLoop l (fun y => { y with
      state := .clear, onCount := 0, offCount := 0, settlingCount := 0, occupiedAt := none }) r))

/-- Entry into OCCUPIED (R96, R101). -/
def enterOccupied (e : Env) (l : Loop) (r : Rt) : Rt :=
  demandLoop e l e.now (post e .loopState (loopByte l) (enc1 LoopState.occupied.code)
    (updLoop l (fun y => { y with
      state := .occupied, onCount := 0, offCount := 0, occupiedAt := some e.now
      vehicles := min (y.vehicles + 1) Config.countMax }) r))

/-- Entry into SETTLING with a baseline taken from a count (R98, R106, R110). -/
def LoopRec.settle (setting : Option Nat) (count : Nat) (y : LoopRec) : LoopRec :=
  { y.cleared .settling with setting := setting, bf := some (count * 256) }

/-- A valid sample in SETTLING after the rise test (R99). -/
def settlingSample (e : Env) (l : Loop) (bf : Nat) (s : Sample) (r : Rt) : Rt :=
  let n := (r.loopRec l).settlingCount + 1
  let r := updLoop l (fun y => { y with bf := some (track Config.fastShift bf s.count), settlingCount := n }) r
  if Config.settleSamples ≤ n then enterClear e l r else r

/-- A valid sample in CLEAR after the rise test (R95, R96). -/
def clearSample (e : Env) (l : Loop) (x : LoopEntry) (bf : Nat) (d : Int) (s : Sample) (r : Rt) : Rt :=
  if (x.onThreshold : Int) ≤ d then
    let n := (r.loopRec l).onCount + 1
    if x.debounceOn ≤ n then enterOccupied e l r else updLoop l (fun y => { y with onCount := n }) r
  else
    let k := if d < -(x.onThreshold : Int) then Config.fastShift else x.trackShift
    updLoop l (fun y => { y with onCount := 0, bf := some (track k bf s.count) }) r

/-- The presence limit has been reached (R98). -/
def presenceReached (e : Env) (x : LoopEntry) (y : LoopRec) : Bool :=
  x.maxPresence != 0 && (match y.occupiedAt with | some t => elapsed e.now t (10 * x.maxPresence) | none => false)

/-- A valid sample in OCCUPIED after the rise test (R97, R98, R100). -/
def occupiedJudged (e : Env) (l : Loop) (x : LoopEntry) (d : Int) (s : Sample) (r : Rt) : Rt :=
  let y := r.loopRec l
  if presenceReached e x y then
    demandLoop e l e.now (post e .presenceLimit (loopByte l) [] (updLoop l (fun y => y.settle y.setting s.count) r))
  else if d < (x.offThreshold : Int) then
    if x.debounceOff ≤ y.offCount + 1 then enterClear e l r
    else occupiedSample e l (updLoop l (fun y => { y with offCount := y.offCount + 1 }) r)
  else occupiedSample e l (updLoop l (fun y => { y with offCount := 0 }) r)

/-- A valid sample in SETTLING, CLEAR or OCCUPIED: the rise test, then the state's own (R94 to R99). -/
def judgeSample (e : Env) (l : Loop) (x : LoopEntry) (s : Sample) (r : Rt) : Rt :=
  let r := updLoop l (fun y => { y with invalidRun := 0 }) r
  let bf := (r.loopRec l).bf.getD 0
  let d := deviation (bf / 256) s.count
  if d ≤ -20000 then faultLoop e l .rise r
  else match (r.loopRec l).state with
    | .settling => settlingSample e l bf s r
    | .clear => clearSample e l x bf d s r
    | .occupied => occupiedJudged e l x d s r
    | .unused | .waitingTune | .tuning | .fault => r

/-- A sample for a loop under its sweep (R104, R105, R106). -/
def sweepSample (e : Env) (l : Loop) (x : LoopEntry) (s : Sample) (r : Rt) : Rt :=
  match (r.loopRec l).sweep with
  | none => r
  | some w =>
    match w.step with
    | .awaitingEcho =>
      if w.tried = some s.echo then updLoop l (fun y => { y with sweep := some ⟨w.tried, .discarding 0, none⟩ }) r else r
    | .discarding n =>
      if n < 3 then updLoop l (fun y => { y with sweep := some ⟨w.tried, .discarding (n + 1), none⟩ }) r
      else if validSample x w.tried s then
        kick e x.card (demandLoop e l e.now (post e .tuneDone (loopByte l) (enc1 s.echo)
          (leaveList x.card l (updLoop l (fun y => y.settle w.tried s.count) r))))
      else kick e x.card (sweepFrom e x l (w.tried.getD 0 + 1) r)

/-- A sample counted toward recovery (R109, R110); `good` is the sample's test of the cause. -/
def recoverySample (e : Env) (l : Loop) (x : LoopEntry) (good : Bool) (done : Rt → Rt) (r : Rt) : Rt :=
  if good then
    let n := (r.loopRec l).recoveryRun + 1
    if x.recovery ≤ n then demandLoop e l e.now (post e .loopRecover (loopByte l) [] (done r))
    else updLoop l (fun y => { y with recoveryRun := n }) r
  else updLoop l (fun y => { y with recoveryRun := 0 }) r

/-- A sample for a loop in FAULT (R106, R108, R109, R110). -/
def faultSample (e : Env) (l : Loop) (x : LoopEntry) (s : Sample) (r : Rt) : Rt :=
  match (r.loopRec l).cause with
  | some .noOsc | some .outOfWindow =>
    kick e x.card (recoverySample e l x (inWindow x s.count)
      (fun r => joinList x.card l (updLoop l (LoopRec.cleared .waitingTune) r)) r)
  | some .rise =>
    recoverySample e l x (validSample x (r.loopRec l).setting s)
      (fun r => updLoop l (fun y => y.settle y.setting s.count) r) r
  | some .cardSilent | some .tuneFail | none => r

/-- A loop acts on its sample (R91); a sweep begun by a write of its entry ignores a sample of that same moment (R90). -/
def loopSample (e : Env) (l : Loop) (x : LoopEntry) (s : Sample) (r : Rt) : Rt :=
  match (r.loopRec l).state with
  | .unused | .waitingTune => r
  | .tuning => if (r.loopRec l).writtenAt = some e.now then r else sweepSample e l x s r
  | .settling | .clear | .occupied =>
    if validSample x (r.loopRec l).setting s then judgeSample e l x s r else invalidSample e l s r
  | .fault => faultSample e l x s r

/-- Channel `ch`'s sample in a LOOP_COUNTS payload: a count of three bytes and an echo of one (R178). -/
def channelSample (pl : List Byte) (ch : Slot) : Sample :=
  ⟨num ((pl.drop (4 * ch.val)).take 3), (pl.getD (4 * ch.val + 3) 0#8).toNat⟩

/-- The loop on a card's channel (R91). -/
def channelLoop (t : Tables) (addr : Byte) (ch : Slot) : Option (Loop × LoopEntry) :=
  allLoops.findSome? fun l =>
    match t.loops.get l with
    | some x => if x.card = addr ∧ x.channel = ch then some (l, x) else none
    | none => none

/-- A loop is in FAULT with cause CARD_SILENT. -/
def cardSilentLoop (r : Rt) (l : Loop) : Bool := (r.loopRec l).state == .fault && (r.loopRec l).cause == some .cardSilent

/-- The end of a card's silence (R108). -/
def endSilence (e : Env) (addr : Byte) (r : Rt) : Rt :=
  let r := updCard addr (fun c => { c with silent := false }) r
  kick e addr ((e.tab.cardLoops addr).foldl (fun r l =>
    if cardSilentLoop r l then
      demandLoop e l e.now (post e .loopRecover (loopByte l) []
        (joinList addr l (updLoop l (LoopRec.cleared .waitingTune) r)))
    else r) r)

/-- A LOOP_COUNTS frame from a card is taken (R91, R107, R108); the loops whose silence it ends ignore its samples. The
samples are taken in ascending loop number, so that loops which join the wait list at one frame join it in that order
(R102; R91 gives the samples no order, log entry 42). -/
def takeLoopCounts (e : Env) (addr : Byte) (pl : List Byte) (r : Rt) : Rt :=
  if r.mode.mode = .dark then r
  else match r.cardRec addr with
    | none => r
    | some c =>
      let ignored := if c.silent then (e.tab.cardLoops addr).filter (cardSilentLoop r) else []
      let r := updCard addr (fun c => { c with silenceDue := some (after e.now Config.second) }) r
      let r := if c.silent then endSilence e addr r else r
      (e.tab.cardLoops addr).foldl (fun r l =>
        match e.tab.loops.get l with
        | some x => if ignored.contains l then r else loopSample e l x (channelSample pl x.channel) r
        | none => r) r

/-- Whether a LOOP_COUNTS frame that arrives at the field port is forwarded (R92). -/
def loopCountsForwarded (r : Rt) (addr : Byte) : Bool :=
  r.mode.mode == .dark || (match r.cardRec addr with | some c => c.forward | none => true)

/-! ### Timers (R104, R106, R108) -/

/-- A card's silence begins (R107, R108). -/
def cardSilence (e : Env) (addr : Byte) (r : Rt) : Rt :=
  match r.cardRec addr with
  | none => r
  | some c =>
    if isDue e.now c.silenceDue then
      let r := updCard addr (fun c => { c with silent := true, silenceDue := none, wait := [] }) r
      (e.tab.cardLoops addr).foldl (fun r l =>
        if cardSilentLoop r l then r
        else demandLoop e l e.now (postLoopFault e l .cardSilent
          (updLoop l (fun y => { y.cleared .fault with cause := some .cardSilent }) r))) r
    else r

/-- A sweep's echo timer expires: the tried setting has failed (R104). -/
def tuneEcho (e : Env) (l : Loop) (r : Rt) : Rt :=
  match (r.loopRec l).sweep, e.tab.loops.get l with
  | some w, some x => if isDue e.now w.echoDue then kick e x.card (sweepFrom e x l (w.tried.getD 0 + 1) r) else r
  | _, _ => r

/-- A loop's retry timer expires (R106). -/
def tuneRetry (e : Env) (l : Loop) (r : Rt) : Rt :=
  match e.tab.loops.get l with
  | some x =>
    if isDue e.now (r.loopRec l).retryDue then
      kick e x.card (demandLoop e l e.now (joinList x.card l (updLoop l (LoopRec.cleared .waitingTune) r)))
    else r
  | none => r

/-! ### Writes, DARK, RESTART (R90, R111, R112) -/

/-- A new card record (R90). -/
def newCard (e : Env) (mode : Mode) (addr : Byte) : CardRec :=
  { addr := addr, silenceDue := if mode = .dark then none else some (after e.now Config.second) }

/-- The card records after a loop table write: unnamed ones removed, new ones created, forward flags anew (R90). -/
def remapCards (e : Env) (r : Rt) : Rt :=
  r.withLoops fun u => { u with
    cards := e.tab.cardAddrs.map fun a =>
      { (u.cards.find? fun c => c.addr == a).getD (newCard e r.mode.mode a) with forward := e.tab.cardForward a } }

/-- A stored loop entry takes effect on its loop (R90); `old` is the entry replaced, `e` holds the new one. Where the write
moves a loop, the new head of the old card begins before that of the new card (DESIGN CHOICE, log entry 42). -/
def loopWritten (e : Env) (l : Loop) (old : Option LoopEntry) (r : Rt) : Rt :=
  let r := match old with | some o => leaveList o.card l r | none => r
  let r := match e.tab.loops.get l with
    | none => remapCards e (updLoop l (LoopRec.cleared .unused) r)
    | some x =>
      let r := remapCards e (updLoop l (fun y => { y.cleared .waitingTune with writtenAt := some e.now }) r)
      if (match r.cardRec x.card with | some c => c.silent | none => false) then
        postLoopFault e l .cardSilent (updLoop l (fun y => { y.cleared .fault with cause := some .cardSilent }) r)
      else joinList x.card l r
  let r := demandLoop e l e.now r
  let r := match old with | some o => kick e o.card r | none => r
  match e.tab.loops.get l with | some x => kick e x.card r | none => r

/-- Every loaded loop waits for tuning, and every card's list is rebuilt in ascending loop number (R111, R112). -/
def rebuildLoops (e : Env) (r : Rt) : Rt :=
  r.withLoops fun u => {
    recs := Vector.ofFn fun l => (u.recs.get l).cleared (if (e.tab.loops.get l).isSome then .waitingTune else .unused)
    cards := u.cards.map fun c => { c with wait := e.tab.cardLoops c.addr, silenceDue := none, silent := false } }

/-- The Loop Unit on the mode notice of DARK (R111). -/
def loopsDark (e : Env) (r : Rt) : Rt :=
  (allLoops.filter fun l => (e.tab.loops.get l).isSome).foldl (fun r l => demandLoop e l e.now r) (rebuildLoops e r)

/-- Outside DARK: every silence timer starts and every head begins its sweep (R111, R112), by ascending card address
(DESIGN CHOICE, log entry 42). -/
def loopsBegin (e : Env) (r : Rt) : Rt :=
  (r.loops.cards.map CardRec.addr).foldl (fun r a => kick e a r)
    (r.withLoops fun u => { u with cards := u.cards.map fun c => { c with silenceDue := some (after e.now Config.second) } })

/-- The Loop Unit at RESTART, with the mode that RESTART brings already set (R112). -/
def loopsRestart (e : Env) (r : Rt) : Rt :=
  let r := rebuildLoops e (remapCards e r)
  if r.mode.mode = .dark then r else loopsBegin e r

end Sys2Proof.Machine
end

