-- ==== Sys2Proof/Machine/Modes.lean ====
section
/-! DEFINITION. The Mode Controller's shared steps (chapter 3): changes of mode with their notices, changes of source,
fault notices, the keepalive's lapse. -/

namespace Sys2Proof.Machine

/-- Empty the pending GO_STAGE slot and clear HOLD (R78). -/
def dropDirected (r : Rt) : Rt := r.withStage fun s => { s with pendingGo := none, hold := false }

/-- The Stage Engine enters IDLE on a notice of DARK or FLASH, and at RESTART (R66, R88). -/
def stageIdle (r : Rt) : Rt :=
  r.withStage fun s => { s with
    phase := .idle, current := none, pendingGo := none, hold := false, inter := none,
    greenEnds := Vector.replicate 24 .absent }

/-- The Stage Engine on a mode notice (R66, R84). -/
def stageNotice (r : Rt) : Rt :=
  match r.mode.mode, r.mode.sub with
  | .dark, _ | .flash, _ => stageIdle r
  | .startup, .startFlash => r.withStage fun s => { s with position := 0 }
  | .shutdown, .finishing => dropDirected r
  | _, _ => r

/-- The Demand Unit on a mode notice (R127). -/
def demandNotice (e : Env) (r : Rt) : Rt :=
  match r.mode.mode with
  | .dark | .flash => demandDeactivate e r
  | .startup => if r.demand.active then r else demandActivate e r
  | .running | .shutdown => r

/-- The Loop Unit on a mode notice, by the mode left (R111). -/
def loopNotice (e : Env) (old : Mode) (r : Rt) : Rt :=
  match old, r.mode.mode with
  | .dark, .dark => r
  | _, .dark => loopsDark e r
  | .dark, _ => loopsBegin e r
  | _, _ => r

/-- The Tram Unit on a mode notice, by the mode left (R144). -/
def tramNotice (e : Env) (r : Rt) : Rt := if r.mode.mode = .dark then tramsEmpty e r else r

/-- The Lamp Interface on a mode notice, by the mode left (R167, R174). -/
def lampNotice (e : Env) (old : Mode) (r : Rt) : Rt :=
  match old, r.mode.mode, r.mode.sub with
  | _, .dark, _ => lampDark r
  | .dark, _, _ => lampLeaveDark e r
  | _, .startup, .startFlash => lampStartup e r
  | _, _, _ => r

/-- A change of mode or of sub-phase (R38): the mode, with no timer of a sub-phase running, MODE_CHANGE, and the mode
notice to every block. MODE_CHANGE is posted first, and the blocks act on the notice in the order Stage Engine, Demand
Unit, Loop Unit, Tram Unit, Priority Unit, Lamp Interface (DESIGN CHOICE, log entry 42: R38 gives them no order, and R193
lets the events of different blocks at one moment join in either). -/
def setMode (e : Env) (mode : Mode) (sub : SubPhase) (r : Rt) : Rt :=
  let old := r.mode.mode
  let r := r.withMode fun m => { m with mode := mode, sub := sub, phaseDue := none }
  let r := post e .modeChange noSubject [b8 mode.code, b8 sub.code] r
  lampNotice e old (priorityNotice e (tramNotice e (loopNotice e old (demandNotice e (stageNotice r)))))

/-- The control source is set: SOURCE_CHANGE and the recomputed offers (R51, R150). -/
def giveSource (e : Env) (src : Source) (r : Rt) : Rt :=
  recomputeOffers e (post e .sourceChange noSubject (enc1 src.code) (r.withMode fun m => { m with source := src }))

/-- A change of control source (R51): nothing when the source is that already (log entry 9). -/
def setSource (e : Env) (src : Source) (r : Rt) : Rt := if r.mode.source = src then r else giveSource e src r

/-- Empty the pending STEP (R60). -/
def dropStep (r : Rt) : Rt := r.withMode fun m => { m with pendingStep := false }

/-- The junction runs or passes to or from running: STARTUP, RUNNING, SHUTDOWN. -/
def stagesRun (m : Mode) : Bool :=
  match m with
  | .startup | .running | .shutdown => true
  | .dark | .flash => false

/-- A fault notice is taken (R47, R48). Step 5 of R47 posts SOURCE_CHANGE in SHUTDOWN too, where the source is NONE already
(log entry 9). -/
def takeNotice (e : Env) (n : FaultNotice) (r : Rt) : Rt :=
  if stagesRun r.mode.mode then
    let r := postFault e n (r.withMode fun m => { m with latch := true })
    dropStep (giveSource e .none (setMode e .flash .none (flashOrder e r)))
  else postFault e n r

/-- The Mode Controller takes the fault notices handed to it, in order (log entry 5). -/
def takeFaults (e : Env) (r : Rt) : Rt := r.notices.foldl (fun r n => takeNotice e n r) (r.withNotices fun _ => [])

/-- The causes of KEEPALIVE_LAPSE (R58). -/
inductive LapseCause where
  | window | arm
deriving DecidableEq, Repr

/-- Codes of the causes of a lapse. -/
def LapseCause.code : LapseCause → Nat
  | .window => 0 | .arm => 1

/-- DIRECTED ends (R53, R58): the pending GO_STAGE and HOLD are dropped and the source becomes AUTONOMOUS. -/
def endDirected (e : Env) (r : Rt) : Rt :=
  if r.mode.source = .directed then setSource e .autonomous (dropDirected r) else r

/-- The keepalive lapses (R58). -/
def lapse (e : Env) (c : LapseCause) (r : Rt) : Rt :=
  endDirected e (post e .keepaliveLapse noSubject (enc1 c.code) (r.withMode fun m => { m with keep := {} }))

/-- The window timer runs out (R58). -/
def windowRun (e : Env) (r : Rt) : Rt :=
  if r.mode.keep.state ≠ .inactive ∧ isDue e.now r.mode.keep.windowDue = true then lapse e .window r else r

/-- The arm timer runs out (R58): back to the remembered state, a lapse when that is INACTIVE. -/
def armRun (e : Env) (r : Rt) : Rt :=
  if r.mode.keep.state = .armed ∧ isDue e.now r.mode.keep.armDue = true then
    match r.mode.keep.remembered with
    | some .active =>
      r.withMode fun m => { m with keep := { m.keep with state := .active, armDue := none, remembered := none } }
    | _ => lapse e .arm r
  else r

end Sys2Proof.Machine
end

