-- ==== Sys2Proof/Machine/Stages.lean ====
section
/-! DEFINITION. The Stage Engine (chapter 4): stage starts and ends, interstage composition, confirmations, and the
evaluation of the end conditions at each event that can change one of them. -/

namespace Sys2Proof.Machine

/-! ### Orders and green starts (R79 to R81) -/

/-- The Stage Engine gives a green-end order: the green-end record is awaiting (R80). -/
def orderGreenEnd (e : Env) (g : Group) (r : Rt) : Rt :=
  takeGreenEnd e g (r.withStage fun s => { s with greenEnds := upd s.greenEnds g fun _ => .awaiting })

/-- A green-end record constrains a gaining group at `t0` (R79). -/
def stillConstrains (t : Tables) (t0 : Time) (i j : Group) (x : GreenEnd) : Bool :=
  match x with
  | .absent => false
  | .awaiting => true
  | .confirmed c => !elapsed t0 c (t.ig i j)

/-- The constraining groups of gaining group `j` (R79). -/
def constrainingGroups (e : Env) (r : Rt) (losing : List Group) (j : Group) : List Group :=
  allGroups.filter fun i =>
    e.tab.conflicts i j && (losing.contains i || stillConstrains e.tab e.now i j (r.stage.greenEnds.get i))

/-- The moments c_i + IG[i][j] of the constraining groups whose green end is confirmed (R79, R81). -/
def confirmedMoments (e : Env) (r : Rt) (j : Group) (cs : List Group) : List Time :=
  cs.filterMap fun i =>
    match r.stage.greenEnds.get i with
    | .confirmed c => some (after c (e.tab.ig i j))
    | _ => none

/-- The largest of some moments, as they stand at `now`. -/
def latest (now : Time) : List Time → Option Time
  | [] => none
  | t :: ts => some (ts.foldl (laterOf now) t)

/-- Every constraining group has a confirmed green end. -/
def allConfirmed (e : Env) (r : Rt) (x : Gaining) : Bool :=
  (confirmedMoments e r x.group x.constraining).length == x.constraining.length

/-- A gaining group's green start is fixed and its green-start order given (R79, R81). -/
def fixGreen (e : Env) (j : Group) (t : Time) (r : Rt) : Rt :=
  takeGreenStart e j t (r.withStage fun s => { s with inter := s.inter.map fun i =>
    { i with gaining := i.gaining.map fun x => if x.group = j then { x with greenAt := some t } else x } })

/-- At t0: t_j is the largest of t0 + RA_j and the constraining moments (R79). -/
def fixAtStart (e : Env) (x : Gaining) (r : Rt) : Rt :=
  if allConfirmed e r x then
    match latest e.now (after e.now (e.tab.ra x.group) :: confirmedMoments e r x.group x.constraining) with
    | some t => fixGreen e x.group t r
    | none => r
  else r

/-- At a confirmation: a gaining group whose t_j is absent and whose constraining groups are all confirmed (R81; the
constraining groups of R79 stand for R81's losing groups, log entry 20). -/
def fixAtConfirm (e : Env) (x : Gaining) (r : Rt) : Rt :=
  if x.greenAt.isNone && allConfirmed e r x then
    match latest e.now (confirmedMoments e r x.group x.constraining) with
    | some t => fixGreen e x.group t r
    | none => r
  else r

/-- The Stage Engine takes a confirmation for a group (R80, R81). The gaining groups whose green start it fixes take their
orders in ascending number (DESIGN CHOICE, log entry 42: R81 gives them no order). -/
def stageConfirm (e : Env) (i : Group) (stamp : Time) (r : Rt) : Rt :=
  let r := r.withStage fun s => { s with
    greenEnds := upd s.greenEnds i fun x => if x = .awaiting then .confirmed stamp else x
    inter := s.inter.map fun k => { k with
      losing := k.losing.map fun x => if x.group = i ∧ x.confirmed = none then { x with confirmed := some stamp } else x } }
  match r.stage.inter with
  | none => r
  | some k => k.gaining.foldl (fun r x => fixAtConfirm e x r) r

/-! ### The interstage (R79, R84) -/

/-- The interstage record from stage `c` to `s'` at `e.now` (R79). -/
def interstageRecord (e : Env) (r : Rt) (c s' : Stage) (cause : EndCause) : Interstage :=
  let losing := (e.tab.greenSet c).filter fun g => !e.tab.inStage s' g
  { fromStage := some c, toStage := s', t0 := e.now, cause := cause
    losing := losing.map fun g => { group := g, clearingEnd := after e.now (e.tab.clearing g) }
    gaining := ((e.tab.greenSet s').filter fun g => !r.isGreen g).map fun g =>
      { group := g, constraining := constrainingGroups e r losing g }
    continuing := (e.tab.greenSet c).filter fun g => e.tab.inStage s' g }

/-- The current stage ends and the interstage to `s'` begins (R79, R87): stage-end notice, record, green-end orders,
green-start orders. The groups take their orders in ascending number, which orders their frames and the notices of frames
that fail (DESIGN CHOICE, log entry 42: R12, R36 and R166 give the orders of one moment no order). -/
def endStage (e : Env) (s' : Stage) (cause : EndCause) (truncated outOfOrder : Bool) (r : Rt) : Rt :=
  match r.stage.current with
  | none => r
  | some c =>
    let k := interstageRecord e r c.stage s' cause
    let r := stageEndNotice e truncated outOfOrder r
    let r := r.withStage fun s => { s with
      phase := .interstage, inter := some k, current := some { c with maxOut := none, gap := none } }
    let r := (k.losing.map Losing.group).foldl (fun r g => orderGreenEnd e g r) r
    k.gaining.foldl (fun r x => fixAtStart e x r) r

/-- The first interstage, into the start stage copied at START (R43, R84). -/
def firstInterstage (e : Env) (s' : Stage) (r : Rt) : Rt :=
  let k : Interstage :=
    { fromStage := none, toStage := s', t0 := e.now, cause := .first, losing := [], continuing := []
      gaining := (e.tab.greenSet s').map fun g => { group := g, constraining := [] } }
  let r := r.withStage fun s => { s with phase := .interstage, inter := some k }
  k.gaining.foldl (fun r x => fixGreen e x.group (after e.now (e.tab.ra x.group)) r) r

/-- The interstage is complete (R82). -/
def Interstage.complete (k : Interstage) : Bool := k.gaining.all (·.green) && k.losing.all (·.rest)

/-! ### The stage start (R65, R67, R68) -/

/-- The values taken from a plan entry (R65). -/
def PlanEntry.taken (p : PlanEntry) : Taken := ⟨p.sequence, p.maxGreen, p.gapTime, p.allRed, p.extLimit, p.lockout⟩

/-- The sequence position after stage `s` starts (R65). -/
def nextPosition (sequence : List Stage) (s : Stage) (position : Nat) : Nat :=
  if sequence.contains s then sequence.idxOf s + 1
  else if sequence.length < position then 0 else position

/-- The min stage time of a stage. -/
def Tables.minStage (t : Tables) (s : Stage) : Nat := match t.stages.get s with | some x => x.minTime | none => 0

/-- The min-end of stage `s` started now (R68); a min green that has run since its green start moves it no further. -/
def minEndOf (e : Env) (r : Rt) (s : Stage) : Time :=
  (e.tab.greenSet s).foldl (fun m g =>
    match (r.groups.get g).greenStart with
    | some t => if elapsed e.now t (e.tab.minGreen g) then m else laterOf e.now m (after t (e.tab.minGreen g))
    | none => m) (after e.now (e.tab.minStage s))

/-- The active plan's values are taken (R65). -/
def takePlan (e : Env) (s : Stage) (r : Rt) : Rt :=
  match e.tab.plans.get r.stage.activePlan with
  | some p =>
    setGapTimes p.gapTime (r.withStage fun u => { u with
      taken := some p.taken, position := nextPosition p.sequence s u.position })
  | none => r

/-- The stage of a completed interstage starts (R67): plan values, min-end, STAGE_START, the Priority Unit, and RUNNING
when it is the first (R43), whose MODE_CHANGE joins the events after STAGE_START (DESIGN CHOICE, log entry 42). -/
def stageStart (e : Env) (k : Interstage) (r : Rt) : Rt :=
  let r := takePlan e k.toStage r
  let minEnd := minEndOf e r k.toStage
  let r := r.withStage fun s => { s with
    inter := none, current := some { stage := k.toStage, start := e.now, minEnd := minEnd }
    phase := if reached e.now minEnd then .stageRun else .stageMin }
  let r := post e .stageStart (stageByte k.toStage) (enc1 k.cause.code) r
  let r := r.withPriority fun p => { p with extensionNoted := false }
  let r := if r.mode.mode = .startup then setMode e .running .none r else r
  recomputeOffers e r

/-! ### The max-green timer (R69, R73) -/

/-- The max-out moment of a timer that starts now (R69). -/
def maxOutMoment (e : Env) (r : Rt) (c : StageRec) : Time :=
  let maxGreen := match r.stage.taken with | some t => t.maxGreen.get c.stage | none => 0
  laterOf e.now (after e.now (max maxGreen (e.tab.minStage c.stage))) c.minEnd

/-- A stopped timer starts when a group outside the stage has demand (R69); the offers are recomputed (R150). -/
def maxGreenCheck (e : Env) (r : Rt) : Rt :=
  match r.stage.current with
  | none => r
  | some c =>
    if r.inStagePhase && c.maxOut.isNone && demandOutside e r then
      recomputeOffers e (r.withStage fun s => { s with current := some { c with maxOut := some (maxOutMoment e r c) } })
    else r

/-- The timer lapses (R73). -/
def maxGreenLapse (e : Env) (r : Rt) : Rt :=
  recomputeOffers e (r.withStage fun s => { s with current := s.current.map fun c => { c with maxOut := none } })

/-! ### End conditions (R72 to R77, R85 to R87) -/

/-- Out of order (R87): the AUTONOMOUS search finds a stage before the target in the search order, or any stage when
the target lies outside the taken sequence. -/
def outOfOrder (e : Env) (r : Rt) (target : Stage) : Bool :=
  match nextAutonomous e r with
  | none => false
  | some s =>
    if r.sequence.contains target then decide ((searchOrder r).idxOf s < (searchOrder r).idxOf target) else true

/-- One evaluation of the AUTONOMOUS end conditions in STAGE_RUN (R72, R73, R85, R86): `true` when something changed
that calls for a further evaluation. A demand taken after the gap-out of its own moment leaves the stage running (R72's
last sentence, where its opening sentence would end the stage: DESIGN CHOICE, log entry 46), but for a gap-out that a hold
kept from counting (R85); the extension notice asks only that gap-out holds (R156). -/
def autonomousStep (e : Env) (r : Rt) : Rt × Bool :=
  let ripe := gapCounts e r || maxOutHolds e r
  if holdInEffect e r then
    ((if (wantedStage e r).isSome && (gapOut e r || maxOutHolds e r) then extensionNotice e r else r), false)
  else
    let late := match r.priority.truncOffer with | some t => outOfOrder e r t.target | none => false
    match (if ripe then wantedStage e r else none) with
    | some s => (endStage e s (if maxOutHolds e r then .max else .gap) false late r, true)
    | none =>
      match r.priority.truncOffer with
      | some t =>
        if reached e.now t.point then (endStage e t.target .truncate true late r, true)
        else if maxOutHolds e r then (maxGreenLapse e r, true) else (r, false)
      | none => if maxOutHolds e r then (maxGreenLapse e r, true) else (r, false)

/-- One evaluation in STAGE_RUN under DIRECTED (R76, R77, R85, R156). -/
def directedStep (e : Env) (r : Rt) : Rt × Bool :=
  match r.stage.pendingGo with
  | none => (r, false)
  | some s =>
    if r.stage.hold then (r, false)
    else if holdInEffect e r then (extensionNotice e r, false)
    else
      let r' := r.withStage fun u => { u with pendingGo := none }
      if r.currentStage = some s then (r', false) else (endStage e s .goStage false false r', true)

/-- One evaluation in STAGE_RUN under MANUAL: a pending STEP acts (R60, R74). -/
def manualStep (e : Env) (r : Rt) : Rt × Bool :=
  if r.mode.pendingStep then
    match nextManual e r with
    | some s => (endStage e s .step false false (dropStep r), true)
    | none => (dropStep r, false)
  else (r, false)

/-- CLEARING_ALL is entered (R45, R46, R84). -/
def clearingAll (e : Env) (r : Rt) : Rt :=
  let r := setMode e .shutdown .clearingAll r
  let r := (allGroups.filter r.isGreen).foldl (fun r g => orderGreenEnd e g r) r
  r.withStage fun s => { s with phase := .idle, current := none }

/-- Every defined group is in REST (R46). -/
def allRest (e : Env) (r : Rt) : Bool := allGroups.all fun g => !e.tab.isDefined g || (r.groups.get g).state == .rest

/-- ALL_RED of SHUTDOWN is entered (R46), for the all-red time taken at the start of the stage just ended. -/
def shutdownAllRed (e : Env) (r : Rt) : Rt :=
  let r := setMode e .shutdown .allRed (restOrder e r)
  let allRed := match r.stage.taken with | some t => t.allRed | none => 0
  r.withMode fun m => { m with phaseDue := some (after e.now allRed) }

/-- One evaluation of what the present state calls for: `true` when a further one is called for. -/
def stageEval (e : Env) (r : Rt) : Rt × Bool :=
  match r.stage.phase with
  | .interstage =>
    match r.stage.inter with
    | some k => if k.complete then (stageStart e k r, true) else (r, false)
    | none => (r, false)
  | .stageMin => (r, false)
  | .stageRun =>
    match r.mode.mode, r.mode.source with
    | .running, .autonomous => autonomousStep e r
    | .running, .directed => directedStep e r
    | .running, .manual => manualStep e r
    | .shutdown, _ => if r.mode.sub = .finishing then (clearingAll e r, true) else (r, false)
    | _, _ => (r, false)
  | .idle =>
    if r.mode.mode = .shutdown ∧ r.mode.sub = .clearingAll ∧ allRest e r = true then (shutdownAllRed e r, false)
    else (r, false)

/-- The reading of gap-out that a stage record holds after its conditions have been read (log entry 46): its moment is kept
while gap-out holds; the groups whose demand stands are all that have demand at the first reading where gap-out can end the
stage, and of these the ones that keep it at each later one; a reading where it cannot forgets them. -/
def gapReading (e : Env) (r : Rt) (c : StageRec) : Option GapReading :=
  if gapOut e r then
    some
      { since := (c.gap.map GapReading.since).getD e.now
        standing :=
          if gapActs e r then some (((c.gap.bind GapReading.standing).getD allGroups).filter (hasDemand r)) else none }
  else none

/-- The hold ends by H being reached (R85): gap-out is read as if it had not been able to end the stage until now. -/
def holdEnds (e : Env) (r : Rt) : Rt :=
  if r.priority.holdOffer.map HoldOffer.holdTo = some e.now then
    r.withStage fun s => { s with current := s.current.map fun c =>
      { c with gap := c.gap.map fun x => { x with standing := none } } }
  else r

/-- A stage that goes on, before its min-end or past it, keeps when gap-out came to it (log entry 46). -/
def noteGap (e : Env) (r : Rt) : Rt :=
  if r.inStagePhase then
    r.withStage fun s => { s with current := s.current.map fun c => { c with gap := gapReading e r c } }
  else r

/-- Evaluate until nothing more is called for, at most `n` times (log entry 6). -/
def settleFor (e : Env) : Nat → Rt → Rt
  | 0, r => r
  | n + 1, r =>
    let r := maxGreenCheck e r
    match stageEval e r with
    | (r', true) => settleFor e n r'
    | (r', false) => noteGap e r'

/-- The Stage Engine reads its conditions (R72), between two takings of the fault notices handed (log entry 5). -/
def finish (e : Env) (r : Rt) : Rt := takeFaults e (settleFor e Config.stageFuel (takeFaults e r))

/-! ### Phases of STARTUP and SHUTDOWN (R42 to R45) -/

/-- ALL_RED of STARTUP is entered (R42). -/
def startupAllRed (e : Env) (r : Rt) : Rt :=
  let r := setMode e .startup .allRed (restOrder e r)
  let allRed := match r.mode.startValues with | some v => v.allRed | none => 0
  r.withMode fun m => { m with phaseDue := some (after e.now allRed) }

/-- FIRST_START is entered (R43). -/
def firstStart (e : Env) (r : Rt) : Rt :=
  let r := setMode e .startup .firstStart r
  match r.mode.startValues with
  | some v => firstInterstage e v.stage r
  | none => r

/-- SHUTDOWN is entered from RUNNING (R44). -/
def enterShutdown (e : Env) (r : Rt) : Rt := dropStep (setSource e .none (setMode e .shutdown .finishing r))

/-- The min-end of the current stage is reached (R68). -/
def minEndRun (e : Env) (r : Rt) : Rt :=
  match r.stage.current with
  | some c =>
    if r.stage.phase = .stageMin ∧ reached e.now c.minEnd = true then r.withStage fun s => { s with phase := .stageRun } else r
  | none => r

/-- A LAMP_STATUS's confirmation test for one slot (R169 step 2, R170). -/
def slotConfirm (e : Env) (addr : Byte) (pl : List Byte) (s : Slot) (r : Rt) : Rt :=
  match e.tab.holder addr s with
  | none => r
  | some g =>
    if (r.lamp.confirms.get g).isSome && confirmsGreenEnd (e.tab.gtype g) (e.tab.clearing g) (slotEcho pl s) then
      stageConfirm e g e.now (monitorConfirm g e.now (r.withLamp fun x => { x with confirms := upd x.confirms g fun _ => none }))
    else r

/-- A LAMP_STATUS is taken (R169). The groups of the module are tested for confirmation, and then their outputs read, by
slot 0 to 3 (DESIGN CHOICE, log entry 42: R169 gives the groups of one status no order). -/
def takeLampStatus (e : Env) (addr : Byte) (pl : List Byte) (r : Rt) : Rt :=
  match r.moduleRec addr with
  | none => r
  | some _ =>
    let states := r.groups
    let r := allSlots.foldl (fun r s => slotConfirm e addr pl s r) (statusSeen e addr r)
    allSlots.foldl (fun r s => slotOutputs e addr states pl s r) r

end Sys2Proof.Machine
end

