-- ==== Sys2Proof/Machine/Ring.lean ====
section
/-! DEFINITION. The Ring Interface and the Command Unit (chapter 10): link state, disposition of frames, forward queues,
grants, reports, and the decoding, owner and answer of a management frame. -/

namespace Sys2Proof.Machine

/-! ### Parts changed by blocks -/

/-- A change of the blocks, then the Stage Engine's reading of its conditions and the fault notices taken. -/
def Part.act (p : Part) (f : Env → Rt → Rt) : Part := p.onRt fun e r => finish e (f e r)

/-- A change of the blocks that changes none of the Stage Engine's conditions: fault notices only. -/
def Part.actQuiet (p : Part) (f : Env → Rt → Rt) : Part := p.onRt fun e r => takeFaults e (f e r)

/-! ### Link state (R179) -/

/-- LINK_CHANGE: UP is coded 0, DOWN 1. -/
def postLink (e : Env) (p : Port) (up : Bool) (r : Rt) : Rt := post e .linkChange (b8 (portCode p)) (encFirst up) r

/-- A valid frame at a port: the link timer restarts, and a DOWN port becomes UP (R179). LINK_CHANGE is posted at the frame,
before the frame's own block acts and before any grant that the port's change to UP allows (DESIGN CHOICE, log entry 45:
R193 allows either order). -/
def linkUp (e : Env) (p : Port) (r : Rt) : Rt :=
  let x := r.ring.port p
  let r' := r.withRing fun q => q.setPort p { x with up := true, linkDue := some (after e.now Config.second) }
  if x.up then r' else postLink e p true r'

/-- A port's link timer expires (R179). -/
def linkDown (e : Env) (p : Port) (r : Rt) : Rt :=
  let x := r.ring.port p
  if isDue e.now x.linkDue then
    postLink e p false (r.withRing fun q => q.setPort p { x with up := false, linkDue := none })
  else r

/-! ### Forward queues and grants (R182 to R184, R194) -/

/-- A waiting frame has reached the age of 1.0 s (R182). -/
def QueuedFrame.aged (now : Time) (q : QueuedFrame) : Bool := reached now (after q.stamp Config.second)

/-- The frames that have reached their age leave the queue toward a port, and its overflow flag is cleared (R182). -/
def ageDiscard (e : Env) (p : Port) (r : Rt) : Rt :=
  let x := r.ring.port p
  if x.queue.any (QueuedFrame.aged e.now) then
    r.withRing fun q => q.setPort p { x with queue := x.queue.filter (fun f => !f.aged e.now), overflow := false }
  else r

/-- The head of the forward queue toward a port is handed to it (R182). -/
def sendForward (p : Port) (r : Rt) : Rt :=
  let x := r.ring.port p
  match x.queue with
  | [] => r
  | f :: rest => r.withRing fun q => q.setPort p { x with queue := rest, overflow := false, sent := some f.frame }

/-- An event in a REPORT: 12 bytes (R194). -/
def Event.bytes (ev : Event) : List Byte :=
  [b8 ev.kind.code] ++ encTime ev.stamp ++ [ev.subject] ++ ev.detail ++ zeros (6 - ev.detail.length)

/-- The REPORT of some events and the lost flag, to the strategy computer (R194). -/
def reportFrame (e : Env) (events : List Event) (lost : Bool) : Frame :=
  ⟨1#8, e.own, kindReport, 2#8, enc1 events.length ++ [Config.lostFlagByte lost] ++ events.flatMap Event.bytes⟩

/-- A REPORT of the oldest events is handed to the head port (R194). It is built and handed in the one step of the grant:
no event falls between (DESIGN CHOICE, log entry 44). -/
def sendReport (e : Env) (r : Rt) : Rt :=
  let events := r.report.queue.take Config.reportCap
  let f := reportFrame e events r.report.lost
  (r.withReport fun q => { q with queue := q.queue.drop Config.reportCap, lost := false }).withRing fun q =>
    { q with head := { q.head with sent := some f } }

/-- A grant of the head port (R183): reply, report, forwarded frame; a port in DOWN is given nothing (R179). -/
def headGrant (e : Env) (r : Rt) : Rt :=
  if r.ring.head.up then
    match r.ring.replies with
    | f :: rest => r.withRing fun q => { q with replies := rest, head := { q.head with sent := some f } }
    | [] => if !r.report.queue.isEmpty || r.report.lost then sendReport e r else sendForward .head r
  else r

/-- A grant of the field port (R184): aspect frame, LOOP_TUNE or BUTTON_LAMP, forwarded frame. -/
def fieldGrant (r : Rt) : Rt :=
  if r.ring.field.up then
    match r.ring.aspects, r.ring.aux with
    | f :: rest, _ => r.withRing fun q => { q with aspects := rest, field := { q.field with sent := some f } }
    | [], f :: rest => r.withRing fun q => { q with aux := rest, field := { q.field with sent := some f } }
    | [], [] => sendForward .field r
  else r

/-! ### The Command Unit (R185 to R187) -/

/-- The frame has is-reply set (R178). -/
def isReply (f : Frame) : Bool := f.flags.getLsbD 1

/-- The frame asks for an answer (R185). -/
def asks (e : Env) (f : Frame) : Bool := f.flags.getLsbD 0 && f.dst == e.own

/-- The first payload byte, or 0 for an empty payload (R187). -/
def firstByte (f : Frame) : Byte := f.payload.headD 0#8

/-- The REPLY to a frame (R183, R187). Its is-reply flag is set; reply-wanted, which no rule gives for it, is clear (DESIGN
CHOICE, log entry 43). -/
def replyFrame (e : Env) (f : Frame) (x : Result) : Frame :=
  ⟨f.src, e.own, kindReply, 2#8, f.kind :: firstByte f :: b8 x.code.code :: x.data⟩

/-- Post COMMAND_REFUSED (R186). -/
def postRefused (e : Env) (f : Frame) (code : Nat) (r : Rt) : Rt :=
  post e .commandRefused f.src [f.kind, firstByte f, b8 code] r

/-- The answer to a frame (R186): a reply when it asks for one, else COMMAND_REFUSED for a refusal. -/
def answer (e : Env) (f : Frame) (x : Result) (r : Rt) : Rt :=
  if asks e f then r.withRing fun q => { q with replies := q.replies ++ [replyFrame e f x] }
  else if x.code = .ok then r
  else postRefused e f x.code.code r

/-- How a row's frame stands before its owner sees it (R186 steps 2 to 5): the refusal of steps 3 and 4 if there is one;
whether it is a read, discarded when it asks for no answer; whether it is RESTART, which finds reply slots. -/
structure Decoding where
  refusal : Option ResultCode := none
  isRead : Bool := false
  isRestart : Bool := false
deriving DecidableEq, Repr

/-- What an owner does with a command: the part after it and the result. -/
abbrev Owner := Part → Part × Result

/-- The Command Unit takes a frame (R186). -/
def commandUnit (f : Frame) (d : Decoding) (owner : Owner) (p : Part) : Part :=
  if isReply f then p
  else if asks p.env f && decide (Config.replySlots ≤ p.rt.ring.replies.length) && !d.isRestart then
    p.onRt fun e r => postRefused e f noReplySlotCode r
  else match d.refusal with
    | some c => p.onRt fun e r => answer e f ⟨c, []⟩ r
    | none =>
      if d.isRead && !asks p.env f then p
      else
        let (p', x) := owner p
        p'.onRt fun e r => answer e f x r

/-- Disposition of a frame of a management row at the head port (R180, R181): failing the checks; for the part; broadcast;
or for another station. -/
def headFrame (f : Frame) (d : Decoding) (owner : Owner) (p : Part) : Part :=
  if frameOk f then
    let p := p.onRt fun e r => linkUp e .head r
    if f.dst = p.env.own then commandUnit f d owner p
    else if f.dst = 127#8 then (commandUnit f d owner p).onRt fun e r => forwardTo e .field f r
    else p.onRt fun e r => forwardTo e .field f r
  else p.onRt fun _ r => setCrcFlag r

/-- The decoding of a frame whose bytes behind the fixed ones must have length `n` (R186 step 4). -/
def lengthIs (n : Nat) (rest : List Byte) : Decoding := { refusal := if rest.length = n then none else some .badLength }

/-- An owner that changes blocks alone. -/
def onBlocks (f : Env → Rt → Rt × Result) : Owner := fun p =>
  let (r, x) := f p.env p.rt
  ({ p with rt := r }, x)

/-- A refusal by an owner: nothing but the result. -/
def refuse (c : ResultCode) (r : Rt) : Rt × Result := (r, ⟨c, []⟩)

/-- An acceptance by an owner whose change bears on the Stage Engine's conditions. -/
def accept (e : Env) (r : Rt) : Rt × Result := (finish e r, .accepted)

/-! ### Frames at the field port (R181) -/

/-- Disposition of a frame of a field kind at the field port: its block, when its length is its kind's, then the
head-bound queue, unless it is a LOOP_COUNTS to be dropped. -/
def fieldFrame (f : Frame) (block : Part → Part) (forwarded : Bool) (p : Part) : Part :=
  if frameOk f then
    let p := p.onRt fun e r => linkUp e .field r
    if fieldKindLength f.kind = some f.payload.length then
      if forwarded then (block p).onRt fun e r => forwardTo e .head f r else block p
    else p.onRt fun e r => forwardTo e .head f r
  else p.onRt fun _ r => setCrcFlag r

/-- Disposition of a frame that no block takes (R181): dropped when it is a field-side frame for the part of no field
kind; else forwarded toward the other port. -/
def forwardOnly (p : Port) (f : Frame) (part : Part) : Part :=
  if frameOk f then
    let part := part.onRt fun e r => linkUp e p r
    match p with
    | .head => part.onRt fun e r => forwardTo e .field f r
    | .field =>
      if (fieldKindLength f.kind).isNone ∧ f.dst = part.env.own then part
      else part.onRt fun e r => forwardTo e .head f r
  else part.onRt fun _ r => setCrcFlag r

/-- Disposition of an ASPECT_SET from outside (R37). -/
def dropForeign (p : Port) (f : Frame) (part : Part) : Part :=
  if frameOk f then
    part.onRt fun e r => post e .foreignAspect f.src (enc1 (portCode p)) (linkUp e p r)
  else part.onRt fun _ r => setCrcFlag r

end Sys2Proof.Machine
end

