-- ==== Sys2Proof/Machine/FieldCommands.lean ====
section
/-! DEFINITION. Frames at the field port that a block takes, frames that no block takes, and frames that fail their
checks (R37, R91, R124, R129, R169, R175, R180, R181 and the panel keys of R44, R59, R60). -/

namespace Sys2Proof.Machine

/-- LOOP_COUNTS (R91, R92). -/
def execLoopCounts (h : Header) (pl : List Byte) (s : State) : Host.Outcome State Fault Refusal :=
  s.onPart fun p => fieldFrame (h.frame kindLoopCounts pl) (fun p => p.act fun e r => takeLoopCounts e h.src pl r)
    (loopCountsForwarded p.rt h.src) p

/-- The type byte of a telegram payload. -/
def telegramCode (pl : List Byte) : Nat := (pl.getD 1 0#8).toNat

/-- The telegram row of a type byte: a byte of no type stands with CHECK_IN, and is refused with BAD_FIELD (R130). -/
def telegramRow (pl : List Byte) : TelegramType :=
  match telegramCode pl with
  | 1 => .doorClosed
  | 2 => .checkOut
  | 3 => .cancel
  | _ => .checkIn

/-- The Tram Unit takes a telegram outside DARK (R129). -/
def tramBlock (type : TelegramType) (src : Byte) (pl : List Byte) (p : Part) : Part :=
  p.act fun e r => if r.mode.mode = .dark then r else takeTelegram e src type pl r

/-- A TRAM_TELEGRAM as the row of its type (R129): a telegram of another row has not happened (log entry 3). -/
def telegramFrame (type : TelegramType) (h : Header) (pl : List Byte) (p : Part) : Part :=
  if telegramRow pl = type then fieldFrame (h.frame kindTramTelegram pl) (tramBlock type h.src pl) true p else p

/-- A CHECK_IN telegram (R135). -/
def execTelegramCheckIn (h : Header) (pl : List Byte) (s : State) : Host.Outcome State Fault Refusal :=
  s.onPart (telegramFrame .checkIn h pl)

/-- A DOOR_CLOSED telegram (R136). -/
def execTelegramDoorClosed (h : Header) (pl : List Byte) (s : State) : Host.Outcome State Fault Refusal :=
  s.onPart (telegramFrame .doorClosed h pl)

/-- A CHECK_OUT telegram (R140). -/
def execTelegramCheckOut (h : Header) (pl : List Byte) (s : State) : Host.Outcome State Fault Refusal :=
  s.onPart (telegramFrame .checkOut h pl)

/-- A CANCEL telegram (R140). -/
def execTelegramCancel (h : Header) (pl : List Byte) (s : State) : Host.Outcome State Fault Refusal :=
  s.onPart (telegramFrame .cancel h pl)

/-- A LAMP_STATUS bears on the Stage Engine's conditions through an interstage alone (R81, R82). -/
def lampBlock (src : Byte) (pl : List Byte) (p : Part) : Part :=
  if p.rt.stage.phase = .interstage then p.act fun e r => takeLampStatus e src pl r
  else p.actQuiet fun e r => takeLampStatus e src pl r

/-- LAMP_STATUS (R169). -/
def execLampStatus (h : Header) (pl : List Byte) (s : State) : Host.Outcome State Fault Refusal :=
  s.onPart (fieldFrame (h.frame kindLampStatus pl) (lampBlock h.src pl) true)

/-- A PANEL_KEY frame of key `k`. -/
def keyFrame (h : Header) (k : Nat) (rest : List Byte) : Frame := h.frame kindPanelKey (b8 k :: rest)

/-- FLASH_KEY in RUNNING acts as STOP (R44). -/
def flashKeyRun (e : Env) (r : Rt) : Rt := if r.mode.mode = .running then enterShutdown e r else r

/-- FLASH_KEY (R44). -/
def execFlashKey (h : Header) (rest : List Byte) (s : State) : Host.Outcome State Fault Refusal :=
  s.onPart (fieldFrame (keyFrame h 0 rest) (fun p => p.act flashKeyRun) true)

/-- MANUAL_ON in RUNNING (R59). -/
def manualOnRun (e : Env) (r : Rt) : Rt :=
  if r.mode.mode = .running then
    setSource e .manual (if r.mode.source = .directed then dropDirected r else r)
  else r

/-- MANUAL_ON (R59). -/
def execManualOn (h : Header) (rest : List Byte) (s : State) : Host.Outcome State Fault Refusal :=
  s.onPart (fieldFrame (keyFrame h 1 rest) (fun p => p.act manualOnRun) true)

/-- MANUAL_OFF in RUNNING under MANUAL (R59). -/
def manualOffRun (e : Env) (r : Rt) : Rt :=
  if r.mode.mode = .running ∧ r.mode.source = .manual then setSource e .autonomous (dropStep r) else r

/-- MANUAL_OFF (R59). -/
def execManualOff (h : Header) (rest : List Byte) (s : State) : Host.Outcome State Fault Refusal :=
  s.onPart (fieldFrame (keyFrame h 2 rest) (fun p => p.act manualOffRun) true)

/-- STEP in RUNNING under MANUAL (R60): the pending STEP, which acts as soon as the stage is past its min-end. -/
def stepRun (_e : Env) (r : Rt) : Rt :=
  if r.mode.mode = .running ∧ r.mode.source = .manual then r.withMode fun m => { m with pendingStep := true } else r

/-- STEP (R60). -/
def execStepKey (h : Header) (rest : List Byte) (s : State) : Host.Outcome State Fault Refusal :=
  s.onPart (fieldFrame (keyFrame h 3 rest) (fun p => p.act stepRun) true)

/-- The loaded button entry of a module and index (R124). -/
def buttonOf (t : Tables) (addr : Byte) (index : Byte) : Option ButtonEntry :=
  allEntries.findSome? fun n =>
    match t.buttons.get n with
    | some x => if x.addr = addr ∧ x.index.val = index.toNat then some x else none
    | none => none

/-- A press (R124). -/
def pushRun (src index : Byte) (e : Env) (r : Rt) : Rt :=
  match buttonOf e.tab src index with
  | some x => pressButton e x r
  | none => r

/-- PUSH_BUTTON (R124). -/
def execPushButton (h : Header) (pl : List Byte) (s : State) : Host.Outcome State Fault Refusal :=
  s.onPart (fieldFrame (h.frame kindPushButton pl) (fun p => p.act (pushRun h.src (pl.headD 0#8))) true)

/-- The sensor that has a ring address (R175). -/
def sensorOf (x : Settings) (addr : Byte) : Option Sensor :=
  if x.sensorA = some addr then some .a else if x.sensorB = some addr then some .b else none

/-- A reading (R175, R176). -/
def sensorRun (src : Byte) (value : Nat) (e : Env) (r : Rt) : Rt :=
  match sensorOf e.tab.settings src with
  | some x => r.withLamp (sensorRead e x value)
  | none => r

/-- SENSOR_READING (R175, R176). -/
def execSensorReading (h : Header) (pl : List Byte) (s : State) : Host.Outcome State Fault Refusal :=
  s.onPart (fieldFrame (h.frame kindSensorReading pl) (fun p => p.onRt (sensorRun h.src (num pl))) true)

/-- FOREIGN_ASPECT (R37). -/
def execForeignAspect (p : Port) (h : Header) (pl : List Byte) (s : State) : Host.Outcome State Fault Refusal :=
  s.onPart (dropForeign p (h.frame kindAspectSet pl))

/-- FORWARD_FRAME (R181): a frame that is some other row's has not happened (log entry 3). -/
def execForwardFrame (p : Port) (h : Header) (kind : Byte) (pl : List Byte) (s : State) :
    Host.Outcome State Fault Refusal :=
  s.onPart fun part =>
    if frameCommand part.env.own p (h.frame kind pl) = .forwardFrame p h kind pl then forwardOnly p (h.frame kind pl) part
    else part

/-- CRC_ERROR_FRAME (R180): bytes that are no frame that fails its checks have not happened (log entry 3). -/
def execCrcErrorFrame (_p : Port) (bytes : List Byte) (s : State) : Host.Outcome State Fault Refusal :=
  s.onPart fun part => if gather bytes = .bad then part.onRt fun _ r => setCrcFlag r else part

end Sys2Proof.Machine
end

