-- ==== Sys2Proof/Machine/Check.lean ====
section
/-! DEFINITION. The consistency check (R24 to R30): six steps in order, the first inconsistency found. -/

namespace Sys2Proof.Machine

/-- The inconsistency codes, in the order of R24's table. -/
inductive CheckCode where
  | selfConflict | conflictUndefined | asymmetric | igMissing | igTooShort | stageGroupUndefined | stageConflict
  | groupUnmapped | mappingShared | planEmpty | planStageUndefined | startStageUndefined | transitionNotPermitted
deriving DecidableEq, Repr

/-- Codes from SELF_CONFLICT as 0 (R24). -/
def CheckCode.code : CheckCode → Nat
  | .selfConflict => 0 | .conflictUndefined => 1 | .asymmetric => 2 | .igMissing => 3 | .igTooShort => 4
  | .stageGroupUndefined => 5 | .stageConflict => 6 | .groupUnmapped => 7 | .mappingShared => 8 | .planEmpty => 9
  | .planStageUndefined => 10 | .startStageUndefined => 11 | .transitionNotPermitted => 12

/-- An inconsistency: step, code, up to three subjects (0 where the code has none). -/
structure Inconsistency where
  step : Nat
  code : CheckCode
  sub1 : Nat := 0
  sub2 : Nat := 0
  sub3 : Nat := 0
deriving DecidableEq, Repr

/-- The inconsistency as the data of a CHECK_FAILED reply (R24). -/
def Inconsistency.bytes (x : Inconsistency) : List Byte :=
  enc1 x.step ++ enc1 x.code.code ++ enc2 x.sub1 ++ enc2 x.sub2 ++ enc2 x.sub3

/-- The number of a group, stage or plan. -/
def number {n : Nat} (x : Fin n) : Nat := x.val + 1

/-- The ordered pairs of groups, row by row (R25). -/
def groupPairs : List (Group × Group) := allGroups.flatMap fun i => allGroups.map fun j => (i, j)

/-- Step 1: the conflict table (R25). -/
def checkConflicts (t : Tables) : Option Inconsistency :=
  groupPairs.findSome? fun (i, j) =>
    if t.conflicts i j then
      if i = j then some ⟨1, .selfConflict, number i, 0, 0⟩
      else if !t.isDefined i || !t.isDefined j then some ⟨1, .conflictUndefined, number i, number j, 0⟩
      else if !t.conflicts j i then some ⟨1, .asymmetric, number i, number j, 0⟩
      else none
    else none

/-- Step 2: the intergreens of conflicting pairs (R26). -/
def checkIntergreens (t : Tables) : Option Inconsistency :=
  groupPairs.findSome? fun (i, j) =>
    if t.conflicts i j then
      match (t.intergreen.get i).get j with
      | none => some ⟨2, .igMissing, number i, number j, 0⟩
      | some n =>
        if n < t.clearing i + t.ra j then some ⟨2, .igTooShort, number i, number j, t.clearing i + t.ra j⟩ else none
    else none

/-- Step 3: the green sets of the loaded stages (R27). -/
def checkStages (t : Tables) : Option Inconsistency :=
  allStages.findSome? fun s =>
    let green := t.greenSet s
    match green.find? (fun g => !t.isDefined g) with
    | some g => some ⟨3, .stageGroupUndefined, number s, number g, 0⟩
    | none =>
      green.findSome? fun g =>
        (green.find? fun h => decide (g.val < h.val) && t.conflicts g h).map
          fun h => ⟨3, .stageConflict, number s, number g, number h⟩

/-- Step 4: the lamp mappings of the defined groups (R28). -/
def checkMappings (t : Tables) : Option Inconsistency :=
  let defined := allGroups.filter t.isDefined
  match defined.find? (fun g => (t.mapping g).isNone) with
  | some g => some ⟨4, .groupUnmapped, number g, 0, 0⟩
  | none =>
    defined.findSome? fun g =>
      (defined.find? fun h => decide (g.val < h.val) && t.mapping g == t.mapping h).map
        fun h => ⟨4, .mappingShared, number g, number h, 0⟩

/-- Step 5: the stages of a plan (R29), applied to `entry` as the plan's entry. -/
def checkPlanStages (t : Tables) (p : Plan) (entry : Option PlanEntry) : Option Inconsistency :=
  match entry with
  | none => some ⟨5, .planEmpty, number p, 0, 0⟩
  | some x =>
    match x.sequence.find? (fun s => (t.stages.get s).isNone) with
    | some s => some ⟨5, .planStageUndefined, number p, number s, 0⟩
    | none =>
      if (t.stages.get x.startStage).isNone then some ⟨5, .startStageUndefined, number p, number x.startStage, 0⟩ else none

/-- The consecutive pairs of a sequence, taken cyclically (R30). -/
def cyclicPairs (l : List Stage) : List (Stage × Stage) := l.zip (l.drop 1 ++ l.take 1)

/-- Step 6: the transitions of a plan's sequence (R30). -/
def checkTransitions (t : Tables) (p : Plan) (entry : Option PlanEntry) : Option Inconsistency :=
  match entry with
  | none => none
  | some x =>
    (cyclicPairs x.sequence).findSome? fun (s, s') =>
      if t.permits s s' then none else some ⟨6, .transitionNotPermitted, number p, number s, number s'⟩

/-- Steps 5 and 6, as R63 and R64 apply them. -/
def checkPlan (t : Tables) (p : Plan) (entry : Option PlanEntry) : Option Inconsistency :=
  (checkPlanStages t p entry).or (checkTransitions t p entry)

/-- The whole check, run when START is taken (R24), with the active plan. -/
def consistency (t : Tables) (active : Plan) : Option Inconsistency :=
  (checkConflicts t).or <| (checkIntergreens t).or <| (checkStages t).or <| (checkMappings t).or <|
    checkPlan t active (t.plans.get active)

end Sys2Proof.Machine
end

