-- ==== Sys2Proof/Machine/JunctionCommands.lean ====
section
/-! DEFINITION. POWER_ON and the JUNCTION_CMD commands (chapter 3). -/

namespace Sys2Proof.Machine

/-- A JUNCTION_CMD frame of code `c` for the Mode Controller. -/
def junctionFrame (h : Header) (c : Nat) (rest : List Byte) : Frame := h.frame kindJunctionCmd (b8 c :: rest)

/-- POWER_ON (R61, R192, R198 and the "Values after reset" tables): every block at its power-on values, junction time 0,
the strap read. Commands that are waiting stay in the queue. -/
def execPowerOn (strap : BitVec 3) (s : State) : Host.Outcome State Fault Refusal :=
  s.onPart fun _ => { env := { strap := strap } }

/-- FLASH_ON in each mode (R39). -/
def flashOnOwner (e : Env) (r : Rt) : Rt × Result :=
  match r.mode.mode with
  | .dark => if e.tab.mappedCount = 0 then refuse .notLoaded r else accept e (setMode e .flash .none (flashOrder e r))
  | .flash => (r, .accepted)
  | .startup | .running | .shutdown => refuse .wrongMode r

/-- FLASH_ON (R39). -/
def execFlashOn (h : Header) (rest : List Byte) (s : State) : Host.Outcome State Fault Refusal :=
  s.onPart (headFrame (junctionFrame h 0 rest) (lengthIs 0 rest) (onBlocks flashOnOwner))

/-- The DARK command in each mode (R40). -/
def darkOwner (e : Env) (r : Rt) : Rt × Result :=
  match r.mode.mode with
  | .dark => (r, .accepted)
  | .flash => accept e (setMode e .dark .none (darkOrder e r))
  | .startup | .running | .shutdown => refuse .wrongMode r

/-- DARK (R40). -/
def execDark (h : Header) (rest : List Byte) (s : State) : Host.Outcome State Fault Refusal :=
  s.onPart (headFrame (junctionFrame h 1 rest) (lengthIs 0 rest) (onBlocks darkOwner))

/-- STARTUP is entered with the active plan's start values (R41, R42). Silent modules give their notices on the mode
notice (R174); a start flash time of 0 ends START_FLASH at once. The notices are taken before that end of START_FLASH, so
that with a silent module ALL_RED is not entered and its MODE_CHANGE is not posted (DESIGN CHOICE, log entry 5: R42 and R174
give the two, which happen at one moment, no order). -/
def startUp (e : Env) (p : PlanEntry) (r : Rt) : Rt :=
  let r := flashOrder e (r.withMode fun m => { m with startValues := some ⟨p.startStage, p.startFlash, p.allRed⟩ })
  let r := setSource e .autonomous (setMode e .startup .startFlash r)
  let r := takeFaults e (r.withMode fun m => { m with phaseDue := some (after e.now p.startFlash) })
  if r.mode.mode = .startup ∧ p.startFlash = 0 then startupAllRed e r else r

/-- START in each mode (R41): the latch, the consistency check, acceptance. -/
def startOwner (e : Env) (r : Rt) : Rt × Result :=
  match r.mode.mode with
  | .flash =>
    if r.mode.latch then refuse .faultLatched r
    else match consistency e.tab r.stage.activePlan, e.tab.plans.get r.stage.activePlan with
      | some x, _ => (r, ⟨.checkFailed, x.bytes⟩)
      | none, some p => accept e (startUp e p r)
      | none, none => refuse .checkFailed r
  | .dark | .startup | .running | .shutdown => refuse .wrongMode r

/-- START (R41). -/
def execStart (h : Header) (rest : List Byte) (s : State) : Host.Outcome State Fault Refusal :=
  s.onPart (headFrame (junctionFrame h 2 rest) (lengthIs 0 rest) (onBlocks startOwner))

/-- STOP in each mode (R44). -/
def stopOwner (e : Env) (r : Rt) : Rt × Result :=
  match r.mode.mode with
  | .running => accept e (enterShutdown e r)
  | .shutdown => (r, .accepted)
  | .dark | .flash | .startup => refuse .wrongMode r

/-- STOP (R44). -/
def execStop (h : Header) (rest : List Byte) (s : State) : Host.Outcome State Fault Refusal :=
  s.onPart (headFrame (junctionFrame h 3 rest) (lengthIs 0 rest) (onBlocks stopOwner))

/-- The Ring Interface at RESTART (R192): queues, classes and slots emptied, overflow flags clear. -/
def restartRing (r : Rt) : Rt :=
  r.withRing fun q => { q with
    head := { q.head with queue := [], overflow := false }, field := { q.field with queue := [], overflow := false }
    replies := [], aspects := [], aux := [] }

/-- The Mode Controller at RESTART (R50): its values, MODE_CHANGE always, SOURCE_CHANGE on a change. -/
def restartMode (e : Env) (mode : Mode) (r : Rt) : Rt :=
  let r := r.withMode fun m => { m with
    mode := mode, sub := .none, startValues := none, phaseDue := none, keep := {}, pendingStep := false
    restartCause := .restartFrame }
  setSource e .none (post e .modeChange noSubject [b8 mode.code, b8 SubPhase.none.code] r)

/-- The tram table and the Priority Unit at RESTART (R144, R162). -/
def restartTrams (r : Rt) : Rt :=
  (r.withTrams fun _ => Vector.replicate 8 none).withPriority fun p => { p with
    queue := [], lockoutDue := none, holdOffer := none, truncOffer := none, extensionNoted := false }

/-- RESTART (R50): the order to the groups, the Ring Interface, the Mode Controller, then every block's RESTART values
and the frames they hand on (R112, R128, R177, R31): the BUTTON_LAMP frames of the Demand Unit before the LOOP_TUNE frames
of the Loop Unit, these before the Lamp Interface's, and the Mode Controller's events before what any of them posts (DESIGN
CHOICE, log entry 42). -/
def restartOwner (e : Env) (r : Rt) : Rt × Result :=
  let mode : Mode := if e.tab.mappedCount = 0 then .dark else .flash
  let r := if e.tab.mappedCount = 0 then darkGroups r else flashGroups e r
  let r := restartMode e mode (restartRing r)
  let r := loopsRestart e (restartTrams (demandClear e (stageIdle r)))
  let r := r.withMonitor fun _ => Vector.replicate 24 {}
  (takeFaults e (frameAll e (lampRestart e mode r)), .accepted)

/-- RESTART (R50); one of the right length needs no free reply slot (R186 step 2). -/
def execRestart (h : Header) (rest : List Byte) (s : State) : Host.Outcome State Fault Refusal :=
  s.onPart (headFrame (junctionFrame h 4 rest) { lengthIs 0 rest with isRestart := rest.isEmpty } (onBlocks restartOwner))

/-- CLEAR_FAULT in each mode (R49). -/
def clearFaultOwner (_e : Env) (r : Rt) : Rt × Result :=
  if stagesRun r.mode.mode then refuse .wrongMode r
  else ((r.withMode fun m => { m with latch := false }).withReport fun q => { q with record := none }, .accepted)

/-- CLEAR_FAULT (R49). -/
def execClearFault (h : Header) (rest : List Byte) (s : State) : Host.Outcome State Fault Refusal :=
  s.onPart (headFrame (junctionFrame h 5 rest) (lengthIs 0 rest) (onBlocks clearFaultOwner))

end Sys2Proof.Machine
end

