-- ==== Sys2Proof/Machine/Due.lean ====
section
/-! DEFINITION. When the moment of a time-driven command has come, and the time-driven commands in the order in which
a tick offers them. -/

namespace Sys2Proof.Machine

/-- The record in a slot holds a timer of a kind that has reached its due moment (R139). -/
def tramTimerDue (e : Env) (r : Rt) (s : TramSlot) (k : TramTimer) : Bool :=
  match r.tram s with
  | some x => x.timer == k && reached e.now x.timerDue
  | none => false

/-- The extension hold that is offered has reached its moment H (R85). -/
def holdReached (e : Env) (r : Rt) : Bool :=
  match r.priority.holdOffer with | some h => reached e.now h.holdTo | none => false

/-- The truncation that is offered has reached its point P (R86). -/
def pointReached (e : Env) (r : Rt) : Bool :=
  match r.priority.truncOffer with | some t => reached e.now t.point | none => false

/-- The timer of a sub-phase of STARTUP or SHUTDOWN has run (R42, R43, R46). -/
def phaseOver (e : Env) (r : Rt) (mode : Mode) (sub : SubPhase) : Bool :=
  r.mode.mode == mode && r.mode.sub == sub && isDue e.now r.mode.phaseDue

/-- A group's gap timer has reached its due moment (R120). -/
def gapDue (e : Env) (r : Rt) (g : Group) : Bool :=
  match (r.demand.groups.get g).gap with | .running t => reached e.now t | _ => false

/-- The min-end of the current stage has been reached in STAGE_MIN (R68). -/
def minEndDue (e : Env) (r : Rt) : Bool :=
  r.stage.phase == .stageMin && (match r.stage.current with | some c => reached e.now c.minEnd | none => false)

/-- The moment of a time-driven command has come; frames, grants and power-on come from outside and have none. -/
def timeDue (e : Env) (r : Rt) : Instr → Bool
  | .linkTimeout p => isDue e.now (r.ring.port p).linkDue
  | .forwardAgeDiscard p => (r.ring.port p).queue.any (QueuedFrame.aged e.now)
  | .startFlashEnd => phaseOver e r .startup .startFlash
  | .startupAllRedEnd => phaseOver e r .startup .allRed
  | .shutdownAllRedEnd => phaseOver e r .shutdown .allRed
  | .keepaliveWindowExpiry => r.mode.keep.state != .inactive && isDue e.now r.mode.keep.windowDue
  | .keepaliveArmExpiry => r.mode.keep.state == .armed && isDue e.now r.mode.keep.armDue
  | .groupEnterStarting g => startingNow e r g
  | .groupEnterGreen g => (greenNow e r g).isSome
  | .minGreenMet g => (r.groups.get g).state == .green && isDue e.now (r.groups.get g).minGreenDue
  | .clearingEnd g => (r.groups.get g).state == .clearing && isDue e.now (r.groups.get g).clearingDue
  | .minEnd => minEndDue e r
  | .maxOut => r.inStagePhase && maxOutHolds e r
  | .extensionHoldEnd => holdReached e r
  | .truncationPointReached => pointReached e r
  | .gapTimerExpiry g => gapDue e r g
  | .demandDelayExpiry a => isDue e.now (r.demand.assigns.get a).delayDue
  | .cardSilenceExpiry a => match r.cardRec a with | some c => isDue e.now c.silenceDue | none => false
  | .tuneEchoExpiry l => match (r.loopRec l).sweep with | some w => isDue e.now w.echoDue | none => false
  | .tuneRetryExpiry l => isDue e.now (r.loopRec l).retryDue
  | .stopLimitExpiry t => tramTimerDue e r t .stopLimit
  | .windowEndExpiry t => tramTimerDue e r t .windowEnd
  | .guardEndExpiry t => tramTimerDue e r t .guardEnd
  | .lockoutExpiry => isDue e.now r.priority.lockoutDue
  | .refreshTimerExpiry a => match r.moduleRec a with | some m => m.refreshes e.now | none => false
  | .moduleSilenceExpiry a => match r.moduleRec a with | some m => isDue e.now m.silenceDue | none => false
  | .confirmTimeout g => confirmDue e r g
  | .sensorFreshnessExpiry .a => isDue e.now r.lamp.sensorA.freshDue
  | .sensorFreshnessExpiry .b => isDue e.now r.lamp.sensorB.freshDue
  | .qualificationTimerExpiry => match r.lamp.run with | some q => reached e.now q.due | none => false
  | .settlingWindowEnd => isDue e.now r.lamp.settlingDue
  | .powerOn _ | .flashOn _ _ | .dark _ _ | .start _ _ | .stop _ _ | .restart _ _ | .clearFault _ _ | .take _ _
  | .release _ _ | .goStage _ _ | .hold _ _ | .planSelect _ _ | .softDemand _ _ | .priorityEnable _ _
  | .cancelTram _ _ | .keepaliveArm _ _ | .keepaliveRefresh _ _ | .tableWriteGroup _ _ | .tableWriteConflict _ _
  | .tableWriteIntergreen _ _ | .tableWriteStage _ _ | .tableWritePermitted _ _ | .tableWritePlan _ _
  | .tableWriteLoop _ _ | .tableWriteAssignment _ _ | .tableWriteButton _ _ | .tableWriteRoute _ _
  | .tableWriteSettings _ _ | .tableRead _ _ | .queryStatus _ _ | .queryCounts _ _ | .queryFaultRecord _ _
  | .queryTramTable _ _ | .badKindFrame _ _ _ | .loopCounts _ _ | .telegramCheckIn _ _ | .telegramDoorClosed _ _
  | .telegramCheckOut _ _ | .telegramCancel _ _ | .lampStatus _ _ | .flashKey _ _ | .manualOn _ _ | .manualOff _ _
  | .stepKey _ _ | .pushButton _ _ | .sensorReading _ _ | .foreignAspect _ _ _ | .forwardFrame _ _ _ _
  | .crcErrorFrame _ _ | .headPortGrant | .fieldPortGrant => false

/-- A time-driven command acts when its moment has come; before that it has not happened (log entry 3). -/
def Part.whenDue (i : Instr) (f : Part → Part) (p : Part) : Part := if timeDue p.env p.rt i then f p else p

/-- The moments M, H and P stay in the state after they are reached: a tick offers their commands at the moment only. -/
def atMoment (e : Env) (r : Rt) : Instr → Bool
  | .maxOut => (r.stage.current.bind StageRec.maxOut) == some e.now
  | .extensionHoldEnd => r.priority.holdOffer.map HoldOffer.holdTo == some e.now
  | .truncationPointReached => r.priority.truncOffer.map TruncOffer.point == some e.now
  | _ => true

/-- The time-driven commands, in the order in which a tick offers them (log entry 4). -/
def timeCommands (r : Rt) : List Instr := List.flatten [
  [.linkTimeout .head, .linkTimeout .field, .forwardAgeDiscard .head, .forwardAgeDiscard .field,
    .keepaliveArmExpiry, .keepaliveWindowExpiry],
  allTramSlots.flatMap (fun t => [Instr.stopLimitExpiry t, .windowEndExpiry t, .guardEndExpiry t]),
  [.sensorFreshnessExpiry .a, .sensorFreshnessExpiry .b, .qualificationTimerExpiry, .settlingWindowEnd],
  r.loops.cards.map (fun c => Instr.cardSilenceExpiry c.addr),
  allLoops.flatMap (fun l => [Instr.tuneEchoExpiry l, .tuneRetryExpiry l]),
  allAssigns.map Instr.demandDelayExpiry,
  allGroups.map Instr.gapTimerExpiry, allGroups.map Instr.minGreenMet, allGroups.map Instr.clearingEnd,
  allGroups.map Instr.groupEnterStarting, allGroups.map Instr.groupEnterGreen,
  [.minEnd, .lockoutExpiry, .maxOut, .extensionHoldEnd, .truncationPointReached,
    .startFlashEnd, .startupAllRedEnd, .shutdownAllRedEnd],
  allGroups.map Instr.confirmTimeout,
  r.lamp.modules.map (fun m => Instr.moduleSilenceExpiry m.addr),
  r.lamp.modules.map (fun m => Instr.refreshTimerExpiry m.addr)]

/-- The time-driven commands whose moment has come. -/
def dueCommands (e : Env) (r : Rt) : List Instr := (timeCommands r).filter fun i => timeDue e r i && atMoment e r i

end Sys2Proof.Machine
end

