-- ==== Sys2Proof/Machine/Moments.lean ====
section
/-! DEFINITION. The commands that are moments: grants of the ports, and the time-driven commands, each acting when its
moment has come (`Part.whenDue`). -/

namespace Sys2Proof.Machine

/-! ### Ring Interface (R179, R182 to R184, R194) -/

/-- LINK_TIMEOUT (R179). -/
def execLinkTimeout (p : Port) (s : State) : Host.Outcome State Fault Refusal :=
  s.onPart (Part.whenDue (.linkTimeout p) fun x => x.onRt fun e r => linkDown e p r)

/-- FORWARD_AGE_DISCARD (R182). -/
def execForwardAgeDiscard (p : Port) (s : State) : Host.Outcome State Fault Refusal :=
  s.onPart (Part.whenDue (.forwardAgeDiscard p) fun x => x.onRt fun e r => ageDiscard e p r)

/-- HEAD_PORT_GRANT (R183, R194). -/
def execHeadPortGrant (s : State) : Host.Outcome State Fault Refusal := s.onPart fun p => p.onRt headGrant

/-- FIELD_PORT_GRANT (R184). -/
def execFieldPortGrant (s : State) : Host.Outcome State Fault Refusal := s.onPart fun p => p.onRt fun _ r => fieldGrant r

/-! ### Mode Controller (R42, R43, R46, R58) -/

/-- START_FLASH_END (R42). -/
def execStartFlashEnd (s : State) : Host.Outcome State Fault Refusal :=
  s.onPart (Part.whenDue .startFlashEnd fun p => p.act startupAllRed)

/-- STARTUP_ALL_RED_END (R43). -/
def execStartupAllRedEnd (s : State) : Host.Outcome State Fault Refusal :=
  s.onPart (Part.whenDue .startupAllRedEnd fun p => p.act firstStart)

/-- SHUTDOWN_ALL_RED_END (R46): FLASH with a flash order, the latch as it is. -/
def execShutdownAllRedEnd (s : State) : Host.Outcome State Fault Refusal :=
  s.onPart (Part.whenDue .shutdownAllRedEnd fun p => p.act fun e r => setMode e .flash .none (flashOrder e r))

/-- KEEPALIVE_WINDOW_EXPIRY (R58). -/
def execKeepaliveWindowExpiry (s : State) : Host.Outcome State Fault Refusal :=
  s.onPart (Part.whenDue .keepaliveWindowExpiry fun p => p.act windowRun)

/-- KEEPALIVE_ARM_EXPIRY (R58). -/
def execKeepaliveArmExpiry (s : State) : Host.Outcome State Fault Refusal :=
  s.onPart (Part.whenDue .keepaliveArmExpiry fun p => p.act armRun)

/-! ### Group Sequencer (R9 to R13) -/

/-- GROUP_ENTER_STARTING (R9). -/
def execGroupEnterStarting (g : Group) (s : State) : Host.Outcome State Fault Refusal :=
  s.onPart (Part.whenDue (.groupEnterStarting g) fun p => p.actQuiet fun e r => enterStarting e g r)

/-- GROUP_ENTER_GREEN (R10, and the interstage's completion, R82). -/
def execGroupEnterGreen (g : Group) (s : State) : Host.Outcome State Fault Refusal :=
  s.onPart (Part.whenDue (.groupEnterGreen g) fun p => p.act fun e r => enterGreen e g r)

/-- MIN_GREEN_MET (R11). -/
def execMinGreenMet (g : Group) (s : State) : Host.Outcome State Fault Refusal :=
  s.onPart (Part.whenDue (.minGreenMet g) fun p => p.onRt fun e r => minGreenRun e g r)

/-- CLEARING_END (R13, R46, R82). -/
def execClearingEnd (g : Group) (s : State) : Host.Outcome State Fault Refusal :=
  s.onPart (Part.whenDue (.clearingEnd g) fun p => p.act fun e r => clearingRun e g r)

/-! ### Stage Engine (R68, R73, R85, R86) -/

/-- MIN_END (R68): STAGE_RUN, and what a pending GO_STAGE, a pending STEP, FINISHING or R72 then calls for. -/
def execMinEnd (s : State) : Host.Outcome State Fault Refusal :=
  s.onPart (Part.whenDue .minEnd fun p => p.act minEndRun)

/-- MAX_OUT (R72, R73): the end conditions are read at M. -/
def execMaxOut (s : State) : Host.Outcome State Fault Refusal :=
  s.onPart (Part.whenDue .maxOut fun p => p.act fun _ r => r)

/-- EXTENSION_HOLD_END (R85): the end conditions, or a pending GO_STAGE, are read at H. -/
def execExtensionHoldEnd (s : State) : Host.Outcome State Fault Refusal :=
  s.onPart (Part.whenDue .extensionHoldEnd fun p => p.act holdEnds)

/-- TRUNCATION_POINT_REACHED (R86): the end conditions are read at P. -/
def execTruncationPointReached (s : State) : Host.Outcome State Fault Refusal :=
  s.onPart (Part.whenDue .truncationPointReached fun p => p.act fun _ r => r)

/-! ### Demand Unit (R117, R118, R120) -/

/-- GAP_TIMER_EXPIRY (R120). -/
def execGapTimerExpiry (g : Group) (s : State) : Host.Outcome State Fault Refusal :=
  s.onPart (Part.whenDue (.gapTimerExpiry g) fun p => p.act fun e r => gapExpiry e g r)

/-- DEMAND_DELAY_EXPIRY (R117, R118). -/
def execDemandDelayExpiry (a : Assign) (s : State) : Host.Outcome State Fault Refusal :=
  s.onPart (Part.whenDue (.demandDelayExpiry a) fun p => p.act fun e r => delayExpiry e a r)

/-! ### Loop Unit (R104, R106, R108) -/

/-- CARD_SILENCE_EXPIRY (R107, R108). -/
def execCardSilenceExpiry (addr : Byte) (s : State) : Host.Outcome State Fault Refusal :=
  s.onPart (Part.whenDue (.cardSilenceExpiry addr) fun p => p.act fun e r => cardSilence e addr r)

/-- TUNE_ECHO_EXPIRY (R104). -/
def execTuneEchoExpiry (l : Loop) (s : State) : Host.Outcome State Fault Refusal :=
  s.onPart (Part.whenDue (.tuneEchoExpiry l) fun p => p.act fun e r => tuneEcho e l r)

/-- TUNE_RETRY_EXPIRY (R106). -/
def execTuneRetryExpiry (l : Loop) (s : State) : Host.Outcome State Fault Refusal :=
  s.onPart (Part.whenDue (.tuneRetryExpiry l) fun p => p.act fun e r => tuneRetry e l r)

/-! ### Tram and Priority Units (R139, R158) -/

/-- STOP_LIMIT_EXPIRY (R139). -/
def execStopLimitExpiry (t : TramSlot) (s : State) : Host.Outcome State Fault Refusal :=
  s.onPart (Part.whenDue (.stopLimitExpiry t) fun p => p.act fun e r => stopLimitRun e t r)

/-- WINDOW_END_EXPIRY (R139). -/
def execWindowEndExpiry (t : TramSlot) (s : State) : Host.Outcome State Fault Refusal :=
  s.onPart (Part.whenDue (.windowEndExpiry t) fun p => p.act fun e r => windowEndRun e t r)

/-- GUARD_END_EXPIRY (R139). -/
def execGuardEndExpiry (t : TramSlot) (s : State) : Host.Outcome State Fault Refusal :=
  s.onPart (Part.whenDue (.guardEndExpiry t) fun p => p.act fun e r => guardEndRun e t r)

/-- The lockout becomes off (R158). -/
def lockoutRun (e : Env) (r : Rt) : Rt := recomputeOffers e (r.withPriority fun p => { p with lockoutDue := none })

/-- LOCKOUT_EXPIRY (R158). -/
def execLockoutExpiry (s : State) : Host.Outcome State Fault Refusal :=
  s.onPart (Part.whenDue .lockoutExpiry fun p => p.act lockoutRun)

/-! ### Lamp Interface (R168, R171, R173 to R176) -/

/-- REFRESH_TIMER_EXPIRY (R168). -/
def execRefreshTimerExpiry (addr : Byte) (s : State) : Host.Outcome State Fault Refusal :=
  s.onPart (Part.whenDue (.refreshTimerExpiry addr) fun p => p.actQuiet fun e r => refreshExpiry e addr r)

/-- MODULE_SILENCE_EXPIRY (R174). -/
def execModuleSilenceExpiry (addr : Byte) (s : State) : Host.Outcome State Fault Refusal :=
  s.onPart (Part.whenDue (.moduleSilenceExpiry addr) fun p => p.actQuiet fun e r => silenceExpiry e addr r)

/-- CONFIRM_TIMEOUT (R171). -/
def execConfirmTimeout (g : Group) (s : State) : Host.Outcome State Fault Refusal :=
  s.onPart (Part.whenDue (.confirmTimeout g) fun p => p.actQuiet fun e r => confirmExpiry e g r)

/-- SENSOR_FRESHNESS_EXPIRY (R175). -/
def execSensorFreshnessExpiry (x : Sensor) (s : State) : Host.Outcome State Fault Refusal :=
  s.onPart (Part.whenDue (.sensorFreshnessExpiry x) fun p => p.onRt fun e r => r.withLamp (sensorStale e x))

/-- QUALIFICATION_TIMER_EXPIRY (R176). -/
def execQualificationTimerExpiry (s : State) : Host.Outcome State Fault Refusal :=
  s.onPart (Part.whenDue .qualificationTimerExpiry fun p => p.actQuiet qualifyExpiry)

/-- SETTLING_WINDOW_END (R173). -/
def execSettlingWindowEnd (s : State) : Host.Outcome State Fault Refusal :=
  s.onPart (Part.whenDue .settlingWindowEnd fun p => p.onRt settlingEnd)

end Sys2Proof.Machine
end

