-- ==== Sys2Proof/Machine/QueryCommands.lean ====
section
/-! DEFINITION. The four queries (R145, R195, R196) and frames of no command (R186). -/

namespace Sys2Proof.Machine

/-- A QUERY frame of code `c`. -/
def queryFrame (h : Header) (c : Nat) (rest : List Byte) : Frame := h.frame kindQuery (b8 c :: rest)

/-- The decoding of a query whose code is followed by `n` bytes. -/
def queryDecoding (n : Nat) (rest : List Byte) : Decoding := { lengthIs n rest with isRead := true }

/-- The answer of QUERY STATUS (R195). -/
def statusBytes (r : Rt) : List Byte :=
  [b8 r.mode.mode.code, b8 r.mode.sub.code, b8 r.mode.source.code, b8 r.mode.keep.state.code, b8 r.stage.phase.code] ++
    encOpt 1 (r.currentStage.map fun s => [stageByte s]) ++ [b8 (r.stage.activePlan.val + 1)] ++ encFirst r.mode.latch ++
    encFirst (r.mode.restartCause == .powerOn) ++ enc3 r.report.summary.toNat ++ encFirst r.mode.ownerViolation ++
    encFirst r.ring.crcFlag

/-- QUERY STATUS: the answer, then the summary empties and the two flags clear (R195). -/
def statusOwner (_e : Env) (r : Rt) : Rt × Result :=
  (((r.withReport fun q => { q with summary := 0#21 }).withMode fun m => { m with ownerViolation := false }).withRing
    fun q => { q with crcFlag := false }, ⟨.ok, statusBytes r⟩)

/-- QUERY STATUS (R195). -/
def execQueryStatus (h : Header) (rest : List Byte) (s : State) : Host.Outcome State Fault Refusal :=
  s.onPart (headFrame (queryFrame h 0 rest) (queryDecoding 0 rest) (onBlocks statusOwner))

/-- The answer of QUERY COUNTS (R196). -/
def countsBytes (r : Rt) : List Byte :=
  allLoops.flatMap (fun l => enc2 (r.loops.recs.get l).vehicles) ++ r.priority.served.toList.flatMap enc2

/-- QUERY COUNTS: the answer, then each of the 35 counts is 0 (R101, R159, R196). -/
def countsOwner (_e : Env) (r : Rt) : Rt × Result :=
  ((r.withLoops fun u => { u with recs := Vector.ofFn fun l => { u.recs.get l with vehicles := 0 } }).withPriority
    fun p => { p with served := Vector.replicate 3 0 }, ⟨.ok, countsBytes r⟩)

/-- QUERY COUNTS (R196). -/
def execQueryCounts (h : Header) (rest : List Byte) (s : State) : Host.Outcome State Fault Refusal :=
  s.onPart (headFrame (queryFrame h 1 rest) (queryDecoding 0 rest) (onBlocks countsOwner))

/-- The kind field of the fault record: FAULT 0, LAMP_FAIL 1, LOOP_FAULT 2, and the fault kind or cause (log entry 16). -/
def RecordKind.bytes : RecordKind → List Byte
  | .fault k => [0#8, b8 k.code]
  | .lampFail => [1#8, 0#8]
  | .loopFault c => [2#8, b8 c.code]

/-- The fault record as a query answers it, behind its marker (R196, log entry 16). -/
def FaultRec.bytes (x : FaultRec) : List Byte :=
  x.kind.bytes ++ encOpt 1 (x.group1.map fun g => [groupByte g]) ++ encOpt 1 (x.group2.map fun g => [groupByte g]) ++
    encOpt 1 (x.loop.map fun l => [loopByte l]) ++ encOpt 1 (x.stage.map fun s => [stageByte s]) ++ encTime x.time ++
    encOpt 1 (x.addr.map fun a => [a])

/-- QUERY FAULT_RECORD clears nothing (R196). -/
def faultRecordOwner (_e : Env) (r : Rt) : Rt × Result := (r, ⟨.ok, encOpt 16 (r.report.record.map FaultRec.bytes)⟩)

/-- QUERY FAULT_RECORD (R196). -/
def execQueryFaultRecord (h : Header) (rest : List Byte) (s : State) : Host.Outcome State Fault Refusal :=
  s.onPart (headFrame (queryFrame h 2 rest) (queryDecoding 0 rest) (onBlocks faultRecordOwner))

/-- A tram record as a query answers it, behind its marker: the fields of the record table in order, the record timer as
its kind and due moment (R145, log entry 16). -/
def TramRec.bytes (x : TramRec) : List Byte :=
  enc2 x.line ++ enc2 x.run ++ [x.route, groupByte x.group] ++ encOpt 1 (x.priorityStage.map fun s => [stageByte s]) ++
    enc2 x.maxExt ++ enc2 x.guardTime ++ [b8 x.state.code, b8 x.level] ++ enc2 (BitVec.ofInt 16 x.lateness).toNat ++
    encTime x.checkIn ++ encOpt 4 (x.doorClosed.map encTime) ++ encOpt 4 (x.e1.map encTime) ++
    encOpt 4 (x.e2.map encTime) ++ encFirst x.greenGiven ++ [b8 x.timer.code] ++ encTime x.timerDue

/-- QUERY TRAM_TABLE (R145, R196). -/
def tramTableOwner (b : Byte) (_e : Env) (r : Rt) : Rt × Result :=
  match tramSlotOf b with
  | none => refuse .badIndex r
  | some s => (r, ⟨.ok, encOpt 41 ((r.tram s).map TramRec.bytes)⟩)

/-- QUERY TRAM_TABLE (R145). -/
def execQueryTramTable (h : Header) (rest : List Byte) (s : State) : Host.Outcome State Fault Refusal :=
  s.onPart (headFrame (queryFrame h 3 rest) (queryDecoding 1 rest) (onBlocks (tramTableOwner (rest.headD 0#8))))

/-- The kinds whose first payload byte is a command, table or query code. -/
def codedKind (k : Byte) : Bool := k == kindJunctionCmd || k == kindControlCmd || k == kindTableWrite || k == kindQuery

/-- The result of a frame of no command (R186 steps 3 and 4): BAD_KIND for a kind or code that does not exist, BAD_TABLE
for a table code, BAD_LENGTH where the code is missing (log entry 17). -/
def badVerdict (f : Frame) : ResultCode :=
  if codedKind f.kind then
    (if f.payload = [] then .badLength else if f.kind = kindTableWrite then .badTable else .badKind)
  else .badKind

/-- BAD_KIND_FRAME (R186): a frame that is some other row's has not happened (log entry 3). -/
def execBadKindFrame (h : Header) (kind : Byte) (pl : List Byte) (s : State) : Host.Outcome State Fault Refusal :=
  s.onPart fun p =>
    if frameCommand p.env.own .head (h.frame kind pl) = .badKindFrame h kind pl then
      headFrame (h.frame kind pl) { refusal := some (badVerdict (h.frame kind pl)) } (fun p => (p, ⟨.badKind, []⟩)) p
    else p

end Sys2Proof.Machine
end

