-- ==== Sys2Proof/Machine/ControlCommands.lean ====
section
/-! DEFINITION. The CONTROL_CMD commands and the keepalive frames (chapters 3, 4, 6, 7, 8). -/

namespace Sys2Proof.Machine

/-- A CONTROL_CMD frame of code `c`. -/
def controlFrame (h : Header) (c : Nat) (rest : List Byte) : Frame := h.frame kindControlCmd (b8 c :: rest)

/-- TAKE (R52). -/
def takeOwner (e : Env) (r : Rt) : Rt × Result :=
  if r.mode.mode ≠ .running then refuse .wrongMode r
  else if r.mode.source ≠ .autonomous then refuse .wrongSource r
  else if r.mode.keep.state = .inactive then refuse .noKeepalive r
  else accept e (setSource e .directed r)

/-- TAKE (R52). -/
def execTake (h : Header) (rest : List Byte) (s : State) : Host.Outcome State Fault Refusal :=
  s.onPart (headFrame (controlFrame h 0 rest) (lengthIs 0 rest) (onBlocks takeOwner))

/-- RELEASE (R53). -/
def releaseOwner (e : Env) (r : Rt) : Rt × Result :=
  if r.mode.mode ≠ .running then refuse .wrongMode r
  else if r.mode.source ≠ .directed then refuse .wrongSource r
  else accept e (endDirected e r)

/-- RELEASE (R53). -/
def execRelease (h : Header) (rest : List Byte) (s : State) : Host.Outcome State Fault Refusal :=
  s.onPart (headFrame (controlFrame h 1 rest) (lengthIs 0 rest) (onBlocks releaseOwner))

/-- The mode and source tests of GO_STAGE and HOLD (R54), then the Stage Engine's own. -/
def directedOwner (stageTests : Env → Rt → Rt × Result) (e : Env) (r : Rt) : Rt × Result :=
  if r.mode.mode ≠ .running then refuse .wrongMode r
  else if r.mode.source ≠ .directed then refuse .wrongSource (setOwnerViolation r)
  else stageTests e r

/-- The reference stage of GO_STAGE (R75). -/
def referenceStage (r : Rt) : Option Stage :=
  match r.stage.inter with
  | some k => some k.toStage
  | none => r.currentStage

/-- The transition from the reference stage is permitted (R75). -/
def goPermitted (e : Env) (r : Rt) (s : Stage) : Bool :=
  match referenceStage r with
  | some c => e.tab.permits c s
  | none => false

/-- The Stage Engine's tests of GO_STAGE (R75); the request is placed and acts as soon as R76 lets it. One that acts at once
at the moment H, before EXTENSION_HOLD_END is taken, also takes the place of an older request that waits in the slot
(DESIGN CHOICE, log entry 47: R75 replaces a request at placing only). -/
def goStageTests (b : Byte) (e : Env) (r : Rt) : Rt × Result :=
  match stageOf b with
  | none => refuse .badIndex r
  | some s =>
    if (e.tab.stages.get s).isNone then refuse .notLoaded r
    else if goPermitted e r s then accept e (r.withStage fun u => { u with pendingGo := some s })
    else refuse .notPermitted r

/-- GO_STAGE (R75, R76). -/
def execGoStage (h : Header) (rest : List Byte) (s : State) : Host.Outcome State Fault Refusal :=
  s.onPart (headFrame (controlFrame h 2 rest) (lengthIs 1 rest) (onBlocks (directedOwner (goStageTests (rest.headD 0#8)))))

/-- HOLD's value: on is coded 0 and off 1; R77 names no other value (free value, log entry 10). -/
def holdValue (b : Byte) : Option Bool :=
  match firstOf b with
  | some on => some on
  | none => Config.holdOtherValue b

/-- The Stage Engine takes HOLD (R77). -/
def holdTests (b : Byte) (e : Env) (r : Rt) : Rt × Result :=
  match holdValue b with
  | some on => accept e (r.withStage fun u => { u with hold := on })
  | none => refuse .badEntry r

/-- HOLD (R77). -/
def execHold (h : Header) (rest : List Byte) (s : State) : Host.Outcome State Fault Refusal :=
  s.onPart (headFrame (controlFrame h 3 rest) (lengthIs 1 rest) (onBlocks (directedOwner (holdTests (rest.headD 0#8)))))

/-- The inconsistency that refuses a plan while stages run (R63, R64). -/
def planRefusal (e : Env) (r : Rt) (p : Plan) (x : Option PlanEntry) : Option Inconsistency :=
  if stagesRun r.mode.mode then checkPlan e.tab p x else none

/-- PLAN_SELECT (R64). -/
def planSelectOwner (b : Byte) (e : Env) (r : Rt) : Rt × Result :=
  match planOf b with
  | none => refuse .badIndex r
  | some p =>
    if (e.tab.plans.get p).isNone then refuse .notLoaded r
    else match planRefusal e r p (e.tab.plans.get p) with
      | some x => (r, ⟨.checkFailed, x.bytes⟩)
      | none => (r.withStage fun u => { u with activePlan := p }, .accepted)

/-- PLAN_SELECT (R64). -/
def execPlanSelect (h : Header) (rest : List Byte) (s : State) : Host.Outcome State Fault Refusal :=
  s.onPart (headFrame (controlFrame h 4 rest) (lengthIs 1 rest) (onBlocks (planSelectOwner (rest.headD 0#8))))

/-- The effect of a set (`true`) or a clear on a group's SOFT source (R122). -/
def softSet (g : Group) (on : Bool) (r : Rt) : Rt :=
  if on && r.isGreen g then r else updDemand g (fun d => { d with soft := on }) r

/-- SOFT_DEMAND (R122): set is coded 0 and clear 1. -/
def softDemandOwner (b v : Byte) (e : Env) (r : Rt) : Rt × Result :=
  match groupOf b with
  | none => refuse .badIndex r
  | some g =>
    if !stagesRun r.mode.mode then refuse .wrongMode r
    else if !e.tab.isDefined g then refuse .notLoaded r
    else match firstOf v with
      | none => refuse .badEntry r
      | some on => accept e (softSet g on r)

/-- SOFT_DEMAND (R122). -/
def execSoftDemand (h : Header) (rest : List Byte) (s : State) : Host.Outcome State Fault Refusal :=
  s.onPart (headFrame (controlFrame h 5 rest) (lengthIs 2 rest)
    (onBlocks (softDemandOwner (rest.getD 0 0#8) (rest.getD 1 0#8))))

/-- The enable takes a value (R148): a change empties or rebuilds the queue and recomputes the offers. -/
def setEnable (e : Env) (on : Bool) (r : Rt) : Rt :=
  if r.priority.enable = on then r
  else recomputeOffers e (r.withPriority fun p => { p with enable := on, queue := rebuildQueue e.now on r.trams })

/-- PRIORITY_ENABLE (R148): on is coded 0 and off 1. -/
def priorityEnableOwner (b : Byte) (e : Env) (r : Rt) : Rt × Result :=
  match firstOf b with
  | none => refuse .badEntry r
  | some on => accept e (setEnable e on r)

/-- PRIORITY_ENABLE (R148). -/
def execPriorityEnable (h : Header) (rest : List Byte) (s : State) : Host.Outcome State Fault Refusal :=
  s.onPart (headFrame (controlFrame h 6 rest) (lengthIs 1 rest) (onBlocks (priorityEnableOwner (rest.headD 0#8))))

/-- CANCEL_TRAM (R141). -/
def cancelTramOwner (line run : Nat) (e : Env) (r : Rt) : Rt × Result :=
  if tramNumbersOk line run then
    match tramSlot r line run with
    | none => refuse .notLoaded r
    | some s => accept e (checkoutSlot e s .command r)
  else refuse .badEntry r

/-- CANCEL_TRAM (R141). -/
def execCancelTram (h : Header) (rest : List Byte) (s : State) : Host.Outcome State Fault Refusal :=
  s.onPart (headFrame (controlFrame h 7 rest) (lengthIs 4 rest)
    (onBlocks (cancelTramOwner (num (rest.take 2)) (num (rest.drop 2)))))

/-- The keepalive after an ARM (R56). -/
def Keepalive.arm (now : Time) (k : Keepalive) : Keepalive :=
  match k.state with
  | .armed => { k with armDue := some (after now Config.armTime) }
  | .inactive | .active => { k with state := .armed, remembered := some k.state, armDue := some (after now Config.armTime) }

/-- KEEPALIVE_ARM is accepted (R56). -/
def keepaliveArmOwner (e : Env) (r : Rt) : Rt × Result :=
  (r.withMode fun m => { m with keep := m.keep.arm e.now }, .accepted)

/-- KEEPALIVE_ARM (R56). -/
def execKeepaliveArm (h : Header) (pl : List Byte) (s : State) : Host.Outcome State Fault Refusal :=
  s.onPart (headFrame (h.frame kindKeepaliveArm pl) (lengthIs 0 pl) (onBlocks keepaliveArmOwner))

/-- KEEPALIVE_REFRESH (R55, R57). -/
def keepaliveRefreshOwner (e : Env) (r : Rt) : Rt × Result :=
  match r.mode.keep.state with
  | .armed =>
    (r.withMode fun m => { m with keep :=
      { state := .active, windowDue := some (after e.now (10 * e.tab.settings.keepaliveWindow)) } }, .accepted)
  | .inactive | .active => refuse .noKeepalive (setOwnerViolation r)

/-- KEEPALIVE_REFRESH (R57). -/
def execKeepaliveRefresh (h : Header) (pl : List Byte) (s : State) : Host.Outcome State Fault Refusal :=
  s.onPart (headFrame (h.frame kindKeepaliveRefresh pl) (lengthIs 0 pl) (onBlocks keepaliveRefreshOwner))

end Sys2Proof.Machine
end

