-- ==== Sys2Proof/Machine/TableCommands.lean ====
section
/-! DEFINITION. TABLE_WRITE of each table and TABLE_READ (R188 to R191 and the tables' own rules). -/

namespace Sys2Proof.Machine

/-! ### The tests of a write (R189) and its frame -/

/-- The tests of R189 in order: the fence for a safety table, the index, the marked entry, R63's check; then `store`. -/
def tableOwner {ι α : Type} (safety : Bool) (index : Option ι) (entry : ι → Option (Option α))
    (check : Rt → ι → Option α → Option Inconsistency) (store : ι → Option α → Part → Part) : Owner := fun p =>
  if safety && stagesRun p.rt.mode.mode then (p, ⟨.fenced, []⟩)
  else match index with
    | none => (p, ⟨.badIndex, []⟩)
    | some i =>
      match entry i with
      | none => (p, ⟨.badEntry, []⟩)
      | some x =>
        match check p.rt i x with
        | some c => (p, ⟨.checkFailed, c.bytes⟩)
        | none => (store i x p, .accepted)

/-- No check beyond the field checks. -/
def noCheck {ι α : Type} (_ : Rt) (_ : ι) (_ : Option α) : Option Inconsistency := none

/-- A write that the tables alone take. -/
def storeOnly (f : Tables → Tables) (p : Part) : Part := { p with env := { p.env with tab := f p.env.tab } }

/-- A TABLE_WRITE frame of table code `c` whose entries have `len` bytes. -/
def writeFrame (h : Header) (c len : Nat) (rest : List Byte) (owner : WriteOperand → Owner) (s : State) :
    Host.Outcome State Fault Refusal :=
  s.onPart (headFrame (h.frame kindTableWrite (b8 c :: rest)) (lengthIs (3 + len) rest)
    (match writeOperand len rest with
      | some w => owner w
      | none => fun p => (p, ⟨.badLength, []⟩)))

/-- A relation that the table's rule demands of a loaded entry (R189 test 3). -/
def relate {α : Type} (x : Option (Option α)) (ok : α → Bool) : Option (Option α) :=
  match x with
  | some (some y) => if ok y then some (some y) else none
  | _ => x

/-! ### Safety tables -/

/-- The modules, of those still mapped, whose slot contents a group write changed (R167). -/
def changedModules (e e' : Env) (before' after' : Rt) : List Byte :=
  e'.tab.mappedModules.filter fun a => slotContents e before' a != slotContents e' after' a

/-- A stored group table entry (R2, R8, R31, R164, R167): table, group state, module records, indications, frames. -/
def storeGroup (g : Group) (x : Option GroupEntry) (p : Part) : Part :=
  let e := p.env
  let e' := { e with tab := { e.tab with groups := upd e.tab.groups g fun _ => x } }
  let r := remapModules e' (groupWritten e' g p.rt)
  let r := if e.tab.mapping g = e'.tab.mapping g then r else clearNoted (e'.tab.mapping g) (clearNoted (e.tab.mapping g) r)
  let r := monitorUnslotted e' r
  { env := e', rt := takeFaults e' ((changedModules e e' p.rt r).foldl (fun r a => frameModule e' a r) r) }

/-- TABLE_WRITE of a group (R2). -/
def execTableWriteGroup (h : Header) (rest : List Byte) (s : State) : Host.Outcome State Fault Refusal :=
  writeFrame h 0 9 rest (fun w => tableOwner true (index1Of w.index2 (groupOf w.index1))
    (fun _ => markedEntry w (parseGroup s.part.env.own)) noCheck storeGroup) s

/-- TABLE_WRITE of a conflict pair (R18). -/
def execTableWriteConflict (h : Header) (rest : List Byte) (s : State) : Host.Outcome State Fault Refusal :=
  writeFrame h 1 1 rest (fun w => tableOwner true (index2Of (groupOf w.index1) (groupOf w.index2))
    (fun _ => markedEntry w parseFlag) noCheck
    (fun i x => storeOnly fun t => { t with conflict := upd t.conflict i.1 fun row => upd row i.2 fun _ => x })) s

/-- TABLE_WRITE of an intergreen (R19). -/
def execTableWriteIntergreen (h : Header) (rest : List Byte) (s : State) : Host.Outcome State Fault Refusal :=
  writeFrame h 2 1 rest (fun w => tableOwner true (index2Of (groupOf w.index1) (groupOf w.index2))
    (fun _ => markedEntry w parseIntergreen) noCheck
    (fun i x => storeOnly fun t => { t with intergreen := upd t.intergreen i.1 fun row => upd row i.2 fun _ => x })) s

/-- TABLE_WRITE of a stage (R20). -/
def execTableWriteStage (h : Header) (rest : List Byte) (s : State) : Host.Outcome State Fault Refusal :=
  writeFrame h 3 7 rest (fun w => tableOwner true (index1Of w.index2 (stageOf w.index1))
    (fun _ => markedEntry w parseStage) noCheck
    (fun i x => storeOnly fun t => { t with stages := upd t.stages i fun _ => x })) s

/-- TABLE_WRITE of a permitted transition (R21). -/
def execTableWritePermitted (h : Header) (rest : List Byte) (s : State) : Host.Outcome State Fault Refusal :=
  writeFrame h 4 1 rest (fun w => tableOwner true (index2Of (stageOf w.index1) (stageOf w.index2))
    (fun _ => markedEntry w parseFlag) noCheck
    (fun i x => storeOnly fun t => { t with permitted := upd t.permitted i.1 fun row => upd row i.2 fun _ => x })) s

/-! ### Operating tables -/

/-- R63's check of a write to the active plan while stages run. -/
def planWriteCheck (e : Env) (r : Rt) (p : Plan) (x : Option PlanEntry) : Option Inconsistency :=
  if p = r.stage.activePlan then planRefusal e r p x else none

/-- TABLE_WRITE of a plan (R62, R63). -/
def execTableWritePlan (h : Header) (rest : List Byte) (s : State) : Host.Outcome State Fault Refusal :=
  writeFrame h 5 81 rest (fun w => tableOwner false (index1Of w.index2 (planOf w.index1))
    (fun _ => markedEntry w parsePlan) (planWriteCheck s.part.env)
    (fun i x => storeOnly fun t => { t with plans := upd t.plans i fun _ => x })) s

/-- A stored loop entry (R90). -/
def storeLoop (l : Loop) (x : Option LoopEntry) (p : Part) : Part :=
  let e' := { p.env with tab := { p.env.tab with loops := upd p.env.tab.loops l fun _ => x } }
  { env := e', rt := finish e' (loopWritten e' l (p.env.tab.loops.get l) p.rt) }

/-- TABLE_WRITE of a loop (R89, R90). -/
def execTableWriteLoop (h : Header) (rest : List Byte) (s : State) : Host.Outcome State Fault Refusal :=
  writeFrame h 6 20 rest (fun w => tableOwner false (index1Of w.index2 (loopOf w.index1))
    (fun l => relate (markedEntry w (parseLoop s.part.env.own)) (loopRelationsOk s.part.env.tab l)) noCheck storeLoop) s

/-- A stored assignment (R115): the old entry is withdrawn, the new one evaluated while the Demand Unit is active. The other
loaded assignments of its loop stay as they are (DESIGN CHOICE, log entry 50: R114 applies R116 to R120 to every loaded
assignment of the loop at such a write, R115 evaluates the new entry). -/
def storeAssign (a : Assign) (x : Option AssignEntry) (p : Part) : Part :=
  let e' := { p.env with tab := { p.env.tab with assigns := upd p.env.tab.assigns a fun _ => x } }
  let r := withdrawAssign p.env a p.rt
  let r := match x with
    | some y => if r.demand.active then evalAssign e' a y e'.now r else r
    | none => r
  { env := e', rt := finish e' r }

/-- TABLE_WRITE of a detector assignment (R113, R115). -/
def execTableWriteAssignment (h : Header) (rest : List Byte) (s : State) : Host.Outcome State Fault Refusal :=
  writeFrame h 7 4 rest (fun w => tableOwner false (index1Of w.index2 (assignOf w.index1))
    (fun a => relate (markedEntry w parseAssign) (assignUnique s.part.env.tab a)) noCheck storeAssign) s

/-- The indicator frame that a button entry is due when its group's indicator is lit (R123). -/
def indicatorFrame (e : Env) (x : Option ButtonEntry) (lit : Bool) (r : Rt) : Rt :=
  match x with
  | some b => if (r.demand.groups.get b.group).button then buttonLamp e b lit r else r
  | none => r

/-- A stored button entry (R123): unlit to the old button and lit to the new one, when their groups' indicators are lit
and the write changes something; the unlit frame goes first (DESIGN CHOICE, log entry 42: R123 gives the two no order). -/
def storeButton (n : Entry) (x : Option ButtonEntry) (p : Part) : Part :=
  let old := p.env.tab.buttons.get n
  let p' := storeOnly (fun t => { t with buttons := upd t.buttons n fun _ => x }) p
  if old = x then p' else p'.onRt fun e r => indicatorFrame e x true (indicatorFrame e old false r)

/-- TABLE_WRITE of a button (R123). -/
def execTableWriteButton (h : Header) (rest : List Byte) (s : State) : Host.Outcome State Fault Refusal :=
  writeFrame h 8 3 rest (fun w => tableOwner false (index1Of w.index2 (entryOf w.index1))
    (fun n => relate (markedEntry w (parseButton s.part.env.own)) (buttonUnique s.part.env.tab n)) noCheck storeButton) s

/-- TABLE_WRITE of a route (R132, R133). -/
def execTableWriteRoute (h : Header) (rest : List Byte) (s : State) : Host.Outcome State Fault Refusal :=
  writeFrame h 9 20 rest (fun w => tableOwner false (index1Of w.index2 (entryOf w.index1))
    (fun n => relate (markedEntry w parseRoute) (routeUnique s.part.env.tab n)) noCheck
    (fun i x => storeOnly fun t => { t with routes := upd t.routes i fun _ => x })) s

/-! ### The settings -/

/-- The settings that a marker and entry carry (R189, R191): they cannot be empty. -/
def settingsEntry (own : Byte) (w : WriteOperand) : Option (Option Settings) :=
  if w.marker = 1#8 then (parseSettings own w.entry).map some else none

/-- The index 0, 0 (R191). -/
def settingsIndex (i1 i2 : Byte) : Option Unit := if i1 = 0#8 ∧ i2 = 0#8 then some () else none

/-- Stored settings (R175, R191). -/
def storeSettings (_ : Unit) (x : Option Settings) (p : Part) : Part :=
  match x with
  | some y =>
    (storeOnly (fun t => { t with settings := y }) p).onRt fun _ r =>
      r.withLamp (settingsStored p.env.tab.settings y)
  | none => p

/-- TABLE_WRITE of the settings (R175, R191). -/
def execTableWriteSettings (h : Header) (rest : List Byte) (s : State) : Host.Outcome State Fault Refusal :=
  writeFrame h 10 16 rest (fun w => tableOwner false (settingsIndex w.index1 w.index2)
    (fun _ => settingsEntry s.part.env.own w) noCheck storeSettings) s

/-! ### TABLE_READ (R190) -/

/-- The marker and entry of a table at an index, or none for an index out of range (R190). -/
def readEntry (t : Tables) (code : Nat) (i1 i2 : Byte) : Option (List Byte) :=
  match code with
  | 0 => (index1Of i2 (groupOf i1)).map fun i => encEntry 9 (t.groups.get i) encGroup
  | 1 => (index2Of (groupOf i1) (groupOf i2)).map fun i => encEntry 1 ((t.conflict.get i.1).get i.2) encFirst
  | 2 => (index2Of (groupOf i1) (groupOf i2)).map fun i => encEntry 1 ((t.intergreen.get i.1).get i.2) enc1
  | 3 => (index1Of i2 (stageOf i1)).map fun i => encEntry 7 (t.stages.get i) encStage
  | 4 => (index2Of (stageOf i1) (stageOf i2)).map fun i => encEntry 1 ((t.permitted.get i.1).get i.2) encFirst
  | 5 => (index1Of i2 (planOf i1)).map fun i => encEntry 81 (t.plans.get i) encPlan
  | 6 => (index1Of i2 (loopOf i1)).map fun i => encEntry 20 (t.loops.get i) encLoop
  | 7 => (index1Of i2 (assignOf i1)).map fun i => encEntry 4 (t.assigns.get i) encAssign
  | 8 => (index1Of i2 (entryOf i1)).map fun i => encEntry 3 (t.buttons.get i) encButton
  | 9 => (index1Of i2 (entryOf i1)).map fun i => encEntry 20 (t.routes.get i) encRoute
  | 10 => (settingsIndex i1 i2).map fun _ => encEntry 16 (some t.settings) encSettings
  | _ => none

/-- The decoding of a TABLE_READ payload (R186 step 4): the table code before the length. -/
def readDecoding (pl : List Byte) : Decoding :=
  match pl with
  | [] => { refusal := some .badLength, isRead := true }
  | c :: rest =>
    if (entryLength c.toNat).isNone then { refusal := some .badTable, isRead := true }
    else { lengthIs 2 rest with isRead := true }

/-- TABLE_READ is answered with the entry as stored (R190). -/
def readOwner (pl : List Byte) (e : Env) (r : Rt) : Rt × Result :=
  match readEntry e.tab (pl.getD 0 0#8).toNat (pl.getD 1 0#8) (pl.getD 2 0#8) with
  | some bs => (r, ⟨.ok, bs⟩)
  | none => refuse .badIndex r

/-- TABLE_READ (R190). -/
def execTableRead (h : Header) (pl : List Byte) (s : State) : Host.Outcome State Fault Refusal :=
  s.onPart (headFrame (h.frame kindTableRead pl) (readDecoding pl) (onBlocks (readOwner pl)))

end Sys2Proof.Machine
end

