-- ==== Sys2Proof/Machine/Dispatch.lean ====
section
/-! DEFINITION. The dispatch: one arm per command, each a direct call of its meaning. -/

namespace Sys2Proof.Machine

/-- The effect of a command on everything but the queue. -/
def exec (i : Instr) (s : State) : Host.Outcome State Fault Refusal :=
  match i with
  | .powerOn strap => Sys2Proof.Machine.execPowerOn strap s
  | .flashOn h rest => Sys2Proof.Machine.execFlashOn h rest s
  | .dark h rest => Sys2Proof.Machine.execDark h rest s
  | .start h rest => Sys2Proof.Machine.execStart h rest s
  | .stop h rest => Sys2Proof.Machine.execStop h rest s
  | .restart h rest => Sys2Proof.Machine.execRestart h rest s
  | .clearFault h rest => Sys2Proof.Machine.execClearFault h rest s
  | .take h rest => Sys2Proof.Machine.execTake h rest s
  | .release h rest => Sys2Proof.Machine.execRelease h rest s
  | .goStage h rest => Sys2Proof.Machine.execGoStage h rest s
  | .hold h rest => Sys2Proof.Machine.execHold h rest s
  | .planSelect h rest => Sys2Proof.Machine.execPlanSelect h rest s
  | .softDemand h rest => Sys2Proof.Machine.execSoftDemand h rest s
  | .priorityEnable h rest => Sys2Proof.Machine.execPriorityEnable h rest s
  | .cancelTram h rest => Sys2Proof.Machine.execCancelTram h rest s
  | .keepaliveArm h pl => Sys2Proof.Machine.execKeepaliveArm h pl s
  | .keepaliveRefresh h pl => Sys2Proof.Machine.execKeepaliveRefresh h pl s
  | .tableWriteGroup h rest => Sys2Proof.Machine.execTableWriteGroup h rest s
  | .tableWriteConflict h rest => Sys2Proof.Machine.execTableWriteConflict h rest s
  | .tableWriteIntergreen h rest => Sys2Proof.Machine.execTableWriteIntergreen h rest s
  | .tableWriteStage h rest => Sys2Proof.Machine.execTableWriteStage h rest s
  | .tableWritePermitted h rest => Sys2Proof.Machine.execTableWritePermitted h rest s
  | .tableWritePlan h rest => Sys2Proof.Machine.execTableWritePlan h rest s
  | .tableWriteLoop h rest => Sys2Proof.Machine.execTableWriteLoop h rest s
  | .tableWriteAssignment h rest => Sys2Proof.Machine.execTableWriteAssignment h rest s
  | .tableWriteButton h rest => Sys2Proof.Machine.execTableWriteButton h rest s
  | .tableWriteRoute h rest => Sys2Proof.Machine.execTableWriteRoute h rest s
  | .tableWriteSettings h rest => Sys2Proof.Machine.execTableWriteSettings h rest s
  | .tableRead h pl => Sys2Proof.Machine.execTableRead h pl s
  | .queryStatus h rest => Sys2Proof.Machine.execQueryStatus h rest s
  | .queryCounts h rest => Sys2Proof.Machine.execQueryCounts h rest s
  | .queryFaultRecord h rest => Sys2Proof.Machine.execQueryFaultRecord h rest s
  | .queryTramTable h rest => Sys2Proof.Machine.execQueryTramTable h rest s
  | .badKindFrame h kind pl => Sys2Proof.Machine.execBadKindFrame h kind pl s
  | .loopCounts h pl => Sys2Proof.Machine.execLoopCounts h pl s
  | .telegramCheckIn h pl => Sys2Proof.Machine.execTelegramCheckIn h pl s
  | .telegramDoorClosed h pl => Sys2Proof.Machine.execTelegramDoorClosed h pl s
  | .telegramCheckOut h pl => Sys2Proof.Machine.execTelegramCheckOut h pl s
  | .telegramCancel h pl => Sys2Proof.Machine.execTelegramCancel h pl s
  | .lampStatus h pl => Sys2Proof.Machine.execLampStatus h pl s
  | .flashKey h rest => Sys2Proof.Machine.execFlashKey h rest s
  | .manualOn h rest => Sys2Proof.Machine.execManualOn h rest s
  | .manualOff h rest => Sys2Proof.Machine.execManualOff h rest s
  | .stepKey h rest => Sys2Proof.Machine.execStepKey h rest s
  | .pushButton h pl => Sys2Proof.Machine.execPushButton h pl s
  | .sensorReading h pl => Sys2Proof.Machine.execSensorReading h pl s
  | .foreignAspect p h pl => Sys2Proof.Machine.execForeignAspect p h pl s
  | .forwardFrame p h kind pl => Sys2Proof.Machine.execForwardFrame p h kind pl s
  | .crcErrorFrame p bytes => Sys2Proof.Machine.execCrcErrorFrame p bytes s
  | .linkTimeout p => Sys2Proof.Machine.execLinkTimeout p s
  | .forwardAgeDiscard p => Sys2Proof.Machine.execForwardAgeDiscard p s
  | .headPortGrant => Sys2Proof.Machine.execHeadPortGrant s
  | .fieldPortGrant => Sys2Proof.Machine.execFieldPortGrant s
  | .startFlashEnd => Sys2Proof.Machine.execStartFlashEnd s
  | .startupAllRedEnd => Sys2Proof.Machine.execStartupAllRedEnd s
  | .shutdownAllRedEnd => Sys2Proof.Machine.execShutdownAllRedEnd s
  | .keepaliveWindowExpiry => Sys2Proof.Machine.execKeepaliveWindowExpiry s
  | .keepaliveArmExpiry => Sys2Proof.Machine.execKeepaliveArmExpiry s
  | .groupEnterStarting g => Sys2Proof.Machine.execGroupEnterStarting g s
  | .groupEnterGreen g => Sys2Proof.Machine.execGroupEnterGreen g s
  | .minGreenMet g => Sys2Proof.Machine.execMinGreenMet g s
  | .clearingEnd g => Sys2Proof.Machine.execClearingEnd g s
  | .minEnd => Sys2Proof.Machine.execMinEnd s
  | .maxOut => Sys2Proof.Machine.execMaxOut s
  | .extensionHoldEnd => Sys2Proof.Machine.execExtensionHoldEnd s
  | .truncationPointReached => Sys2Proof.Machine.execTruncationPointReached s
  | .gapTimerExpiry g => Sys2Proof.Machine.execGapTimerExpiry g s
  | .demandDelayExpiry a => Sys2Proof.Machine.execDemandDelayExpiry a s
  | .cardSilenceExpiry addr => Sys2Proof.Machine.execCardSilenceExpiry addr s
  | .tuneEchoExpiry l => Sys2Proof.Machine.execTuneEchoExpiry l s
  | .tuneRetryExpiry l => Sys2Proof.Machine.execTuneRetryExpiry l s
  | .stopLimitExpiry t => Sys2Proof.Machine.execStopLimitExpiry t s
  | .windowEndExpiry t => Sys2Proof.Machine.execWindowEndExpiry t s
  | .guardEndExpiry t => Sys2Proof.Machine.execGuardEndExpiry t s
  | .lockoutExpiry => Sys2Proof.Machine.execLockoutExpiry s
  | .refreshTimerExpiry addr => Sys2Proof.Machine.execRefreshTimerExpiry addr s
  | .moduleSilenceExpiry addr => Sys2Proof.Machine.execModuleSilenceExpiry addr s
  | .confirmTimeout g => Sys2Proof.Machine.execConfirmTimeout g s
  | .sensorFreshnessExpiry x => Sys2Proof.Machine.execSensorFreshnessExpiry x s
  | .qualificationTimerExpiry => Sys2Proof.Machine.execQualificationTimerExpiry s
  | .settlingWindowEnd => Sys2Proof.Machine.execSettlingWindowEnd s

end Sys2Proof.Machine
end

