-- ==== Sys2Proof/Machine/Step.lean ====
section
/-! DEFINITION. The step: the command at the front of the queue, or a tick of junction time on an empty queue. -/

namespace Sys2Proof.Machine

/-- A tick (R1; DESIGN CHOICE, log entry 4): junction time goes on by 0.1 s, and the time-driven commands whose moment
has come then join the queue. -/
def tick (s : State) : State :=
  let e := { s.part.env with now := s.part.env.now + 1#32 }
  { pending := dueCommands e s.part.rt, part := { s.part with env := e } }

/-- One step: the command at the front of the queue runs with the queue's rest waiting; an empty queue ticks. -/
def step (s : State) : Host.Outcome State Fault Refusal :=
  match s.pending with
  | [] => .next (tick s)
  | i :: rest => exec i { s with pending := rest }

/-- The state with the command that a table word spells at the front of its queue; no word of this table spells one. -/
def State.withFetchWord (s : State) (nbits w : Nat) : State :=
  match decodeTableWord nbits w with
  | some i => { s with pending := i :: s.pending }
  | none => s

end Sys2Proof.Machine
end

