-- ==== Sys2Proof/Safety.lean ====
section
/-! DEFINITION. What counts as a safe state, in the terms the statements use: the bounds of queues and counts, the group
states that DARK, FLASH and an undefined group allow, the failed-output set; and the conditions under which a command
is carried out without more happening at the same moment. -/

namespace Sys2Proof.Machine

/-! ### Invariants -/

/-- The four reply slots, the forward queues, the transmit classes, the event queue, the vehicle counts and the served counts
keep within their capacities (R101, R159, R182, R184, R185, R193), and no fault notice is left untaken. -/
abbrev Rt.Bounded (r : Rt) : Prop :=
  r.ring.replies.length ≤ Config.replySlots ∧ r.ring.head.queue.length ≤ Config.headQueueCap ∧
  r.ring.field.queue.length ≤ Config.fieldQueueCap ∧ r.ring.aspects.length ≤ Config.aspectCap ∧
  r.ring.aux.length ≤ Config.auxCap ∧ r.report.queue.length ≤ Config.eventCap ∧
  (∀ l : Loop, (r.loops.recs.get l).vehicles ≤ Config.countMax) ∧
  (∀ i : Fin 3, r.priority.served.get i ≤ Config.countMax) ∧ r.notices = []

/-- The priority queue holds exactly the APPROACHING records of level 1 or more while the enable is on, each once, and so at
most 8 (R146). -/
abbrev Rt.QueueFitsTrams (r : Rt) : Prop :=
  r.priority.queue.Nodup ∧ r.priority.queue.length ≤ 8 ∧
  ∀ k : TramSlot, k ∈ r.priority.queue ↔ r.priority.enable = true ∧ (r.trams.get k).any queueable = true

/-- What R89 demands of the loaded loop entries and the wait lists and sample counts rest on: one loop on one channel of one
card, debounces of at most 15 and recovery of at most 255. -/
abbrev Tables.LoopsFit (t : Tables) : Prop :=
  (∀ l : Loop, ∀ x ∈ t.loops.get l, x.debounceOn ≤ 15 ∧ x.debounceOff ≤ 15 ∧ x.recovery ≤ 255) ∧
  ∀ l k : Loop, ∀ x ∈ t.loops.get l, ∀ y ∈ t.loops.get k, x.card = y.card → x.channel = y.channel → l = k

/-- How many samples a sweep has discarded (R105). -/
def SweepStep.discarded : SweepStep → Nat
  | .awaitingEcho => 0
  | .discarding n => n

/-- A card's wait list holds loops of that card, each once, and so at most four (R102); the counts of a loop record keep within
the values of chapter 5's record table, below the number that ends each count (R93, R96, R97, R99, R105, R109, R110). -/
abbrev Part.LoopsBounded (p : Part) : Prop :=
  p.env.tab.LoopsFit ∧
  (∀ c ∈ p.rt.loops.cards, c.wait.Nodup ∧ c.wait.length ≤ 4 ∧
    ∀ l ∈ c.wait, (p.env.tab.loops.get l).map LoopEntry.card = some c.addr) ∧
  ∀ l : Loop, let y := p.rt.loops.recs.get l
    y.onCount ≤ 15 ∧ y.offCount ≤ 15 ∧ y.invalidRun ≤ 2 ∧ y.settlingCount ≤ 31 ∧ y.recoveryRun ≤ 254 ∧
    ∀ w ∈ y.sweep, w.step.discarded ≤ 3

/-- A group's non-locking count is the number of its assignments that give, all of them DEMAND_NONLOCKING, and so at most 64
(R118); an assignment entry that is empty has an empty record. -/
abbrev Part.DemandBounded (p : Part) : Prop :=
  (∀ a : Assign, (p.rt.demand.assigns.get a).giving = true →
    (p.env.tab.assigns.get a).any (fun x => x.function == .demandNonlocking) = true) ∧
  (∀ a : Assign, p.env.tab.assigns.get a = none → p.rt.demand.assigns.get a = {}) ∧
  ∀ g : Group, (p.rt.demand.groups.get g).nonLocking ≤ 64 ∧ (p.rt.demand.groups.get g).nonLocking =
    ((List.finRange 64).filter fun a =>
      (p.rt.demand.assigns.get a).giving && (p.env.tab.assigns.get a).any fun x => x.group == g).length

/-- Every queue, class, wait list and count of the part that the manual bounds keeps within its bound. -/
abbrev Part.Bounded (p : Part) : Prop :=
  p.rt.Bounded ∧ p.rt.QueueFitsTrams ∧ p.LoopsBounded ∧ p.DemandBounded

/-- The group states that R3, R5, R6 and R8 allow: an undefined group is in DARK; in DARK every group is in DARK; in FLASH
and in START_FLASH (R42) every group is in the state a flash order asks for. -/
abbrev Part.GroupsFitMode (p : Part) : Prop :=
  (∀ g : Group, p.env.tab.isDefined g = false → (p.rt.groups.get g).state = .dark) ∧
  (p.rt.mode.mode = .dark → ∀ g : Group, (p.rt.groups.get g).state = .dark) ∧
  (p.rt.mode.mode = .flash ∨ p.rt.mode.mode = .startup ∧ p.rt.mode.sub = .startFlash →
    ∀ g : Group, (p.rt.groups.get g).state = flashState p.env.tab g)

/-- The control source fits the mode (R51), the source is DIRECTED only while the keepalive is not INACTIVE (R58), and the
Stage Engine's phase fits the mode: IDLE until the first interstage is requested (R66, R84), and never IDLE in RUNNING. -/
abbrev Rt.OwnershipFitsMode (r : Rt) : Prop :=
  (r.mode.mode = .dark ∨ r.mode.mode = .flash ∨ r.mode.mode = .shutdown → r.mode.source = .none) ∧
  (r.mode.mode = .startup → r.mode.source = .autonomous) ∧
  (r.mode.mode = .running → r.mode.source ≠ .none ∧ r.stage.phase ≠ .idle) ∧
  (r.mode.source = .directed → r.mode.keep.state ≠ .inactive) ∧
  (r.mode.mode = .dark ∨ r.mode.mode = .flash ∨
    r.mode.mode = .startup ∧ (r.mode.sub = .startFlash ∨ r.mode.sub = .allRed) → r.stage.phase = .idle)

/-- The records that follow a table fit it: one module record for each mapped module (R164) and one card record for each
card address of the loop table (R90), in ascending address; the failed-output set holds no duplicates, and only outputs
of slots mapped to a defined group (R173). -/
abbrev Part.RecordsFitTables (p : Part) : Prop :=
  p.rt.lamp.modules.map ModuleRec.addr = p.env.tab.mappedModules ∧
  p.rt.loops.cards.map CardRec.addr = p.env.tab.cardAddrs ∧
  p.rt.lamp.failed.Nodup ∧ ∀ o ∈ p.rt.lamp.failed, (p.env.tab.holder o.addr o.slot).isSome = true

/-! ### Conditions of the statements -/

/-- A frame at the head port passes its checks, is addressed to the part alone, is no reply, and finds a reply slot when it
asks for an answer (R180, R181, R186 steps 1 and 2). -/
abbrev Delivered (p : Part) (f : Frame) : Prop :=
  frameOk f = true ∧ f.dst = p.env.own ∧ isReply f = false ∧
  (asks p.env f = true → p.rt.ring.replies.length < Config.replySlots)

/-- The blocks after a valid frame has arrived at a port (R179); its LINK_CHANGE comes before the frame's own events, which
is the model's choice (log entry 45). -/
abbrev Part.arrived (p : Part) (port : Port) : Rt := linkUp p.env port p.rt

/-- The Stage Engine has nothing to act on: no fault notice waits, and it is in STAGE_MIN, in an interstage that is not
complete, or in IDLE, other than in a CLEARING_ALL that every defined group has left for REST (R46). -/
def Rt.still (e : Env) (r : Rt) : Bool :=
  r.notices.isEmpty && match r.stage.phase with
    | .stageMin => true
    | .interstage => (match r.stage.inter with | some k => !k.complete | none => true)
    | .idle => !(r.mode.mode == .shutdown && r.mode.sub == .clearingAll && allRest e r)
    | .stageRun => false

/-- The Stage Engine of the part has nothing to act on. -/
abbrev Part.still (p : Part) : Prop := p.rt.still p.env = true

/-- The state with the part's blocks replaced. -/
abbrev State.withRt (s : State) (r : Rt) : State := { s with part := { s.part with rt := r } }

/-- The stage record is as it was but for the max-out moment, which a demand may just have set (R69). -/
abbrev sameStage (r0 r : Rt) : Prop :=
  r.stage.current.map (fun c => (c.stage, c.start, c.minEnd)) = r0.stage.current.map (fun c => (c.stage, c.start, c.minEnd))

/-- The Conflict Monitor has passed the starting and green aspects that the groups with a slot now show (R32, R166). -/
abbrev Part.monitorFollows (p : Part) : Prop :=
  ∀ g : Group, (p.env.tab.slotOf g).isSome = true →
    (groupAspect p.env p.rt g).cls = .starting ∨ (groupAspect p.env p.rt g).cls = .green →
    (p.rt.monitor.get g).passed = some (groupAspect p.env p.rt g).cls

/-! ### Aspects handed on (R4, R165, R166) -/

/-- R4's table: what the heads of a group of a type show in a state. -/
def aspectTable : List (GroupType × GroupState × Aspect) := [
  (.vehicle, .dark, .dark), (.pedestrian, .dark, .dark), (.tram, .dark, .dark),
  (.vehicle, .flashing, .flashAmber),
  (.vehicle, .rest, .red), (.pedestrian, .rest, .dontWalk), (.tram, .rest, .stop),
  (.vehicle, .starting, .redAmber), (.tram, .starting, .prepare),
  (.vehicle, .green, .green), (.pedestrian, .green, .walk), (.tram, .green, .proceed),
  (.vehicle, .clearing, .amber), (.pedestrian, .clearing, .flashWalk), (.tram, .clearing, .clear)]

/-- Four slot aspects are those of a module as the groups stand (R165): of a slot that a defined group holds, what R4's table
gives for its type and state; of every other slot, dark. -/
abbrev aspectsAsStand (e : Env) (groups : Vector GroupRec 24) (addr : Byte) (v : Vector Aspect 4) : Prop :=
  ∀ k : Slot, (e.tab.holder addr k = none → v.get k = .dark) ∧
    ∀ g a, e.tab.holder addr k = some g → (e.tab.gtype g, (groups.get g).state, a) ∈ aspectTable → v.get k = a

/-- The ASPECT_SET that carries four slot aspects and a brightness to a module (R165, R178), without reply-wanted. -/
abbrev aspectSet (e : Env) (addr : Byte) (v : Vector Aspect 4) (b : Brightness) : Frame :=
  ⟨addr, e.own, kindAspectSet, 0#8, [b8 (v.get 0).code, b8 (v.get 1).code, b8 (v.get 2).code, b8 (v.get 3).code, b8 b.code]⟩

/-- Group `g`, whose state has changed between `u` and `r`, has handed its new aspect on (R4, R166): a frame of its module with
all slots as they stand, which, when the Monitor passes it, joins the aspect class and becomes the sent record, the refresh
timer running anew, and which else changes neither (R36). `refreshOwed` is the model's own field (log entry 38). -/
abbrev handsAspect (e : Env) (u r : Rt) (g : Group) : Prop :=
  (e.tab.slotOf g = none → r.ring.aspects = u.ring.aspects ∧ r.lamp.modules = u.lamp.modules) ∧
  ∀ m, e.tab.slotOf g = some m → ∃ v, aspectsAsStand e r.groups m.addr v ∧
    (monitorCheck e u ⟨m.addr, v, u.lamp.brightness⟩ = none →
      r.ring.aspects = classTake 48 u.ring.aspects (aspectSet e m.addr v u.lamp.brightness) ∧
      ∀ x, u.moduleRec m.addr = some x → ∃ y, r.moduleRec m.addr = some y ∧ y = { x with
        sentAspects := some v, sentBrightness := some u.lamp.brightness, refreshDue := some (e.now + 2#32)
        refreshOwed := y.refreshOwed }) ∧
    (monitorCheck e u ⟨m.addr, v, u.lamp.brightness⟩ ≠ none →
      r.ring.aspects = u.ring.aspects ∧ r.lamp.modules = u.lamp.modules)

/-- A module has been sent the aspects of its slots as they stand, and the brightness (R165 to R167). -/
abbrev sentAsStands (e : Env) (r : Rt) (x : ModuleRec) : Prop :=
  x.sentBrightness = some r.lamp.brightness ∧ ∃ v, x.sentAspects = some v ∧ aspectsAsStand e r.groups x.addr v

/-- The last frame that waits for the module of a slot-holding group `g` carries the aspects as they stand, and so does the
module's sent record (R166). -/
abbrev shownAsStands (e : Env) (r : Rt) (g : Group) : Prop :=
  ∀ m, e.tab.slotOf g = some m →
    (∀ x, r.moduleRec m.addr = some x → sentAsStands e r x) ∧
    ∃ v, aspectsAsStand e r.groups m.addr v ∧
      (r.ring.aspects.filter fun f => f.dst == m.addr).getLast? = some (aspectSet e m.addr v r.lamp.brightness)

/-- The losing groups of an interstage from stage `c` to `x` (chapter 4). -/
def losingGroups (e : Env) (c x : Stage) : List Group := (e.tab.greenSet c).filter fun g => !e.tab.inStage x g

/-- The gaining groups of an interstage to `x`. -/
def gainingGroups (e : Env) (r : Rt) (x : Stage) : List Group := (e.tab.greenSet x).filter fun g => !r.isGreen g

/-- The record of a group that has taken a green-end order (R12): it clears, or is in REST at once for a clearing time of 0. -/
abbrev GroupRec.clears (e : Env) (g : Group) (x : GroupRec) : GroupRec :=
  { x with
    state := if e.tab.clearing g = 0 then .rest else .clearing
    greenEnd := some e.now, minMet := false, minGreenDue := none
    clearingDue := if e.tab.clearing g = 0 then x.clearingDue else some (e.now + BitVec.ofNat 32 (e.tab.clearing g)) }

/-- Stage `c` can end toward `x` with nothing more happening at the same moment: the losing groups are in GREEN with their
min green met, every gaining group waits for the confirmation of one of them (R79), and there is a gaining group or a
losing one that takes time to clear, so that the interstage is not complete at once (R82). -/
abbrev Part.endsCleanly (p : Part) (c x : Stage) : Prop :=
  p.rt.notices = [] ∧
  (gainingGroups p.env p.rt x ≠ [] ∨ ∃ g ∈ losingGroups p.env c x, 0 < p.env.tab.clearing g) ∧
  (∀ g ∈ losingGroups p.env c x, takesGreenEnd p.env p.rt g = true) ∧
  (∀ j ∈ gainingGroups p.env p.rt x, ∃ i ∈ losingGroups p.env c x, p.env.tab.conflicts i j = true) ∧ p.monitorFollows

/-- A running junction is in STAGE_RUN of stage `c` under `source`, and no demand waits to start the max-green timer. -/
abbrev Rt.inRun (e : Env) (r : Rt) (source : Source) (c : StageRec) : Prop :=
  r.mode.mode = .running ∧ r.mode.source = source ∧ r.stage.phase = .stageRun ∧ r.stage.current = some c ∧
  (c.maxOut.isSome = true ∨ demandOutside e r = false)

/-- The stage goes on: at most the model's own reading of gap-out in the stage record differs (log entry 46). -/
abbrev goesOn (r0 r : Rt) (c : StageRec) : Prop :=
  r = { r0 with stage := { r0.stage with current := some { c with gap := r.stage.current.bind StageRec.gap } } }

/-- The stage that was current in `r0` has ended toward `x` (R79): the interstage record, the losing groups clearing with
their confirmation and green-end records and their aspects handed on (R166), every other group as it was, and both priority
offers withdrawn (R149). -/
abbrev stageEnded (e : Env) (r0 r : Rt) (c x : Stage) (cause : EndCause) : Prop :=
  r.mode.mode = r0.mode.mode ∧ r.mode.source = r0.mode.source ∧ r.stage.phase = .interstage ∧ sameStage r0 r ∧
  (∃ k, r.stage.inter = some k ∧ k.fromStage = some c ∧ k.toStage = x ∧ k.t0 = e.now ∧ k.cause = cause ∧
    k.losing.map Losing.group = losingGroups e c x ∧ k.gaining.map Gaining.group = gainingGroups e r0 x ∧
    (∀ j ∈ k.gaining, j.greenAt = none ∧ j.green = false) ∧
    ∀ i ∈ k.losing, i.confirmed = none ∧ i.rest = decide (e.tab.clearing i.group = 0)) ∧
  (∀ g ∈ losingGroups e c x, r.groups.get g = (r0.groups.get g).clears e g ∧
    r.lamp.confirms.get g = some ⟨e.now, e.now + 10#32⟩ ∧ r.stage.greenEnds.get g = .awaiting ∧ shownAsStands e r g) ∧
  (∀ g : Group, g ∉ losingGroups e c x → r.groups.get g = r0.groups.get g) ∧
  r.priority.holdOffer = none ∧ r.priority.truncOffer = none ∧ r.trams = r0.trams

/-- The stage that a completed interstage `k` leads to has started (R67) with the values of plan `p` (R65), its min-end
(R68) and, with demand outside it, its max-green timer (R69); the minimum has time to run. The reading of gap-out is
the model's own (log entry 46). -/
abbrev stageStarted (e : Env) (r0 r : Rt) (k : Interstage) (p : PlanEntry) : Prop :=
  r.stage.phase = .stageMin ∧ r.stage.inter = none ∧ r.priority.extensionNoted = false ∧
  r.stage.taken = some ⟨p.sequence, p.maxGreen, p.gapTime, p.allRed, p.extLimit, p.lockout⟩ ∧
  (∀ g : Group, (r.demand.groups.get g).gapTime = p.gapTime.get g) ∧
  r.stage.position = (if k.toStage ∈ p.sequence then p.sequence.idxOf k.toStage + 1
    else if p.sequence.length < r0.stage.position then 0 else r0.stage.position) ∧
  (∃ m, r.stage.current = some ⟨k.toStage, e.now, m, if demandOutside e r then
      some (laterOf e.now (e.now + BitVec.ofNat 32 (max (p.maxGreen.get k.toStage) (e.tab.minStage k.toStage))) m) else none,
      r.stage.current.bind StageRec.gap⟩ ∧
    let times := (e.now + BitVec.ofNat 32 (e.tab.minStage k.toStage)) :: (e.tab.greenSet k.toStage).filterMap fun g =>
      (r.groups.get g).greenStart.bind fun t =>
        if e.tab.minGreen g ≤ (e.now - t).toNat then none else some (t + BitVec.ofNat 32 (e.tab.minGreen g))
    m ∈ times ∧ ∀ t ∈ times, back e.now m ≤ back e.now t) ∧
  r.stage.pendingGo = r0.stage.pendingGo ∧ r.stage.hold = r0.stage.hold ∧ r.stage.greenEnds = r0.stage.greenEnds ∧
  r.report.summary.getLsbD 2 = true

/-- At most the mode record, the pending GO_STAGE, HOLD, the max-out moment, the offers and the report differ. -/
abbrev controlAlone (r0 r : Rt) : Prop :=
  sameStage r0 r ∧ r = { r0 with
    mode := r.mode
    stage := { r0.stage with pendingGo := r.stage.pendingGo, hold := r.stage.hold, current := r.stage.current }
    priority := { r0.priority with holdOffer := r.priority.holdOffer, truncOffer := r.priority.truncOffer }
    report := r.report }

/-- SHUTDOWN has been entered from RUNNING in an unfinished stage or interstage (R44): what it changes, and what goes on. -/
abbrev shutdownEntered (r0 r : Rt) : Prop :=
  r.mode = { r0.mode with mode := .shutdown, sub := .finishing, phaseDue := none, source := .none, pendingStep := false } ∧
  r.stage = { r0.stage with pendingGo := none, hold := false, current := r.stage.current } ∧ sameStage r0 r ∧
  r.currentStage = r0.currentStage ∧ r.groups = r0.groups ∧ r.trams = r0.trams ∧
  r.priority.holdOffer = none ∧ r.priority.truncOffer = none

/-- SHUTDOWN has been entered in a stage past its min-end (R45, R46): CLEARING_ALL, with every group that was in GREEN
clearing, or in REST for a clearing time of 0, its aspect handed on (R166), and every other as it was, and no current
stage. -/
abbrev clearingAllEntered (e : Env) (r0 r : Rt) : Prop :=
  r.mode = { r0.mode with mode := .shutdown, sub := .clearingAll, phaseDue := none, source := .none, pendingStep := false } ∧
  r.stage.phase = .idle ∧ r.stage.current = none ∧ r.stage.pendingGo = none ∧ r.stage.hold = false ∧
  (∀ g : Group, r0.isGreen g = true → r.groups.get g = (r0.groups.get g).clears e g ∧
    r.lamp.confirms.get g = some ⟨e.now, e.now + 10#32⟩ ∧ r.stage.greenEnds.get g = .awaiting ∧ shownAsStands e r g) ∧
  (∀ g : Group, r0.isGreen g = false → r.groups.get g = r0.groups.get g) ∧
  r.trams = r0.trams ∧ r.priority.holdOffer = none ∧ r.priority.truncOffer = none

/-! ### The conditions of STAGE_RUN as read at a command -/

/-- STAGE_RUN of stage record `c`, with no fault notice waiting. -/
abbrev Rt.runsStage (r : Rt) (c : StageRec) : Prop :=
  r.notices = [] ∧ r.stage.phase = .stageRun ∧ r.stage.current = some c

/-- The blocks `r` that a reading of the end conditions leaves of `u`, which is in STAGE_RUN of stage record `c` with no demand
that would start its max-green timer. Under AUTONOMOUS with no hold in effect: demand elsewhere, a stage to go to and gap-out
or max-out end the stage toward the truncation's target, or else the next stage, with cause GAP or MAX (R72); without these a
truncation point reached ends it toward its target with cause TRUNCATE, counted and starting the lockout (R86, R157, R158);
max-out without demand outside lets the timer lapse (R73); otherwise the stage goes on. Under a hold it goes on, noted once
when it would have ended (R85, R156). Under DIRECTED a pending GO_STAGE acts, and one that names the stage is used up, but for
HOLD (R76, R77) or a hold, which is noted (R85, R156). Under MANUAL a pending STEP acts or is used up (R74). In FINISHING
CLEARING_ALL is entered (R45). -/
abbrev readOn (e : Env) (u r : Rt) (c : StageRec) : Prop :=
  let p : Part := ⟨e, u⟩
  let toward := match u.priority.truncOffer with | some o => some o.target | none => nextAutonomous e u
  let wanted := demandElsewhere e u = true ∧ toward ≠ none
  let normal := wanted ∧ (gapCounts e u = true ∨ maxOutHolds e u = true)
  let kept := wanted ∧ (gapOut e u = true ∨ maxOutHolds e u = true)
  let pointReached := ∃ o, u.priority.truncOffer = some o ∧ reached e.now o.point = true
  let raised := fun (level : Nat) => r.report.summary.getLsbD 12 = true ∧ ∀ j : Fin 3,
    r.priority.served.get j = if j.val + 1 = level then min (u.priority.served.get j + 1) 65535 else u.priority.served.get j
  let noted := ∀ o, u.priority.holdOffer = some o →
    goesOn { u with
      priority := { u.priority with extensionNoted := true, served := r.priority.served }, report := r.report } r c ∧
    raised o.level
  (u.mode.mode = .running → u.mode.source = .autonomous →
    (holdInEffect e u = false →
      (∀ x, normal → toward = some x → p.endsCleanly c.stage x →
        stageEnded e u r c.stage x (if maxOutHolds e u then .max else .gap)) ∧
      (∀ o, ¬ normal → u.priority.truncOffer = some o → reached e.now o.point = true → p.endsCleanly c.stage o.target →
        stageEnded e u r c.stage o.target .truncate ∧ raised o.level ∧
        ∀ v, u.stage.taken = some v → r.priority.lockoutDue =
          if 0 < v.lockout then some (e.now + BitVec.ofNat 32 v.lockout) else u.priority.lockoutDue) ∧
      (demandElsewhere e u = false → demandOutside e u = false → u.priority.truncOffer = none → u.priority.queue = [] →
        maxOutHolds e u = true →
        goesOn { u with priority := { u.priority with holdOffer := none, truncOffer := none } } r { c with maxOut := none }) ∧
      (¬ normal → ¬ pointReached → maxOutHolds e u = false → goesOn u r c)) ∧
    (holdInEffect e u = true → (kept → u.priority.extensionNoted = false → noted) ∧
      (¬ kept ∨ u.priority.extensionNoted = true → goesOn u r c))) ∧
  (u.mode.mode = .running → u.mode.source = .directed →
    (u.stage.pendingGo = none ∨ u.stage.hold = true → goesOn u r c) ∧
    ∀ x, u.stage.pendingGo = some x → u.stage.hold = false →
      (holdInEffect e u = true → (u.priority.extensionNoted = false → noted) ∧
        (u.priority.extensionNoted = true → goesOn u r c)) ∧
      (holdInEffect e u = false →
        (x = c.stage → goesOn { u with stage := { u.stage with pendingGo := none } } r c) ∧
        (x ≠ c.stage → p.endsCleanly c.stage x →
          stageEnded e u r c.stage x .goStage ∧ r.stage.pendingGo = none))) ∧
  (u.mode.mode = .running → u.mode.source = .manual →
    (u.mode.pendingStep = false → goesOn u r c) ∧
    (u.mode.pendingStep = true →
      (nextManual e u = none → goesOn { u with mode := { u.mode with pendingStep := false } } r c) ∧
      ∀ x, nextManual e u = some x → p.endsCleanly c.stage x →
        stageEnded e u r c.stage x .step ∧ r.mode.pendingStep = false)) ∧
  (u.mode.mode = .shutdown → u.mode.source = .none → u.mode.sub = .finishing → u.mode.pendingStep = false →
    u.stage.pendingGo = none → u.stage.hold = false → p.monitorFollows →
    (∃ g, e.tab.isDefined g = true ∧ u.isGreen g = true ∧ 0 < e.tab.clearing g) →
    (∀ g, u.isGreen g = true → takesGreenEnd e u g = true) →
    clearingAllEntered e u r)

/-- The blocks `r` that the Stage Engine leaves of `u`, which a command has brought about in STAGE_RUN of stage record `c`: a
stopped max-green timer starts when a group outside the stage has demand, with the M of R69 and the offers recomputed (R150),
and the end conditions are read (R72). -/
abbrev conditionsRead (e : Env) (u r : Rt) (c : StageRec) : Prop :=
  (c.maxOut.isSome = true ∨ demandOutside e u = false → readOn e u r c) ∧
  ∀ (w : Taken) (c' : StageRec), c.maxOut = none → demandOutside e u = true → u.stage.taken = some w →
    c' = { c with maxOut := some (laterOf e.now
      (e.now + BitVec.ofNat 32 (max (w.maxGreen.get c.stage) (e.tab.minStage c.stage))) c.minEnd) } →
    readOn e (recomputeOffers e { u with stage := { u.stage with current := some c' } }) r c'

/-- The keepalive has just lapsed (R58), by its window timer (coded 0) or its arm timer (1): INACTIVE with KEEPALIVE_LAPSE,
and under DIRECTED the pending GO_STAGE and HOLD dropped and the source AUTONOMOUS, with SOURCE_CHANGE and the offers
recomputed (R150). The codes are log entry 14. -/
abbrev lapseOf (e : Env) (code : Byte) (u : Rt) : Rt :=
  let v := post e .keepaliveLapse 255#8 [code] { u with mode := { u.mode with keep := {} } }
  if u.mode.source = .directed then
    recomputeOffers e (post e .sourceChange 255#8 [1#8] { v with
      mode := { v.mode with source := .autonomous }, stage := { v.stage with pendingGo := none, hold := false } })
  else v

/-- The record of slot `k` is set to `x`, or freed, the queue follows (R147), and the offers are recomputed (R150). -/
abbrev withRecord (e : Env) (k : TramSlot) (x : Option TramRec) (u : Rt) : Rt :=
  let trams := upd u.trams k fun _ => x
  recomputeOffers e { u with
    trams := trams, priority := { u.priority with queue := requeue e.now u.priority.enable trams k u.priority.queue } }

/-- A sample lies within the count window (R93). -/
abbrev LoopEntry.inside (x : LoopEntry) (v : Sample) : Prop := v.count ≠ 0 ∧ x.cmin ≤ v.count ∧ v.count ≤ x.cmax

/-- A LOOP_COUNTS frame is taken outside DARK, and it carries a sample for loop `l` of table entry `x` (R91). -/
abbrev Part.takesSample (p : Part) (h : Header) (pl : List Byte) (l : Loop) (x : LoopEntry) : Prop :=
  dstOk h.dst = true ∧ pl.length = 16 ∧ p.rt.mode.mode ≠ .dark ∧ (∃ c, p.rt.cardRec h.src = some c ∧ c.silent = false) ∧
  p.env.tab.loops.get l = some x ∧ channelLoop p.env.tab h.src x.channel = some (l, x)

/-- The refusal that telegram `x` meets (R130, R131, R134): a field out of range (0), an unknown route (1), a wrong point (2), or
a ninth record (3); codes as log entry 14. -/
abbrev telegramRefusedWith (e : Env) (u : Rt) (x : Telegram) (c : Nat) : Prop :=
  let outside := x.point = 0#8 ∨ 4 ≤ x.typeCode.toNat ∨ x.line < 1 ∨ 999 < x.line ∨ x.run < 1 ∨ 9999 < x.run
  let misplaced := fun (route : RouteEntry) => (x.typeCode = 0#8 ∧ x.point ≠ route.checkIn) ∨
    (x.typeCode = 1#8 ∧ route.door ≠ some x.point) ∨ (x.typeCode = 2#8 ∧ x.point ≠ route.checkOut)
  (outside ∧ c = 0) ∨ (¬ outside ∧ routeOf e.tab x.route = none ∧ c = 1) ∨
    (¬ outside ∧ ∃ route, routeOf e.tab x.route = some route ∧ ((misplaced route ∧ c = 2) ∨
      (¬ misplaced route ∧ (x.typeCode = 0#8 ∨ x.typeCode = 1#8) ∧ tramSlot u x.line x.run = none ∧
        freeSlot u = none ∧ c = 3)))

/-- The record that a CHECK_IN `x` of a route gives (R130, R135, R137 to R139, R142). -/
abbrev checkInGives (e : Env) (u : Rt) (x : Telegram) (route : RouteEntry) (y : TramRec) : Prop :=
  y.line = x.line ∧ y.run = x.run ∧ y.route = x.route ∧ y.group = route.group ∧
  y.priorityStage = route.priorityStage ∧ y.maxExt = route.maxExt ∧ y.guardTime = route.guardTime ∧
  y.lateness = max (-999) (min 999 x.lateness) ∧ y.level = levelOf route y.lateness ∧ y.checkIn = e.now ∧
  y.doorClosed = none ∧
  (route.door ≠ none → y.state = .atStop ∧ y.e1 = none ∧ y.e2 = none ∧ y.greenGiven = false ∧
    y.timer = .stopLimit ∧ y.timerDue = e.now + 6000#32) ∧
  (route.door = none → y.state = .approaching ∧ y.timer = .windowEnd ∧
    y.e1 = some (if route.travel < route.spread then e.now else e.now + BitVec.ofNat 32 (route.travel - route.spread)) ∧
    y.e2 = some (e.now + BitVec.ofNat 32 (route.travel + route.spread)) ∧ y.e2 = some y.timerDue ∧
    y.greenGiven = decide ((u.groups.get route.group).state = .green))

/-- The record that a DOOR_CLOSED `x` of a route gives to slot `k` (R130, R136 to R139, R142). -/
abbrev doorClosedGives (e : Env) (u : Rt) (x : Telegram) (route : RouteEntry) (k : TramSlot) (y : TramRec) : Prop :=
  y.line = x.line ∧ y.run = x.run ∧ y.level = levelOf route (max (-999) (min 999 x.lateness)) ∧
  y.route = x.route ∧ y.group = route.group ∧ y.priorityStage = route.priorityStage ∧ y.maxExt = route.maxExt ∧
  y.guardTime = route.guardTime ∧ y.lateness = max (-999) (min 999 x.lateness) ∧
  y.e1 = some (if route.travel < route.spread then e.now else e.now + BitVec.ofNat 32 (route.travel - route.spread)) ∧
  y.state = .approaching ∧ y.doorClosed = some e.now ∧ y.timer = .windowEnd ∧
  (∀ o, tramSlot u x.line x.run = some k → u.trams.get k = some o → y.checkIn = o.checkIn) ∧
  (tramSlot u x.line x.run = none → y.checkIn = e.now) ∧
  y.e2 = some (e.now + BitVec.ofNat 32 (route.travel + route.spread)) ∧ y.e2 = some y.timerDue ∧
  y.greenGiven = decide ((u.groups.get route.group).state = .green)

/-- The keepalive has lapsed (R58). -/
abbrev keepaliveLapsed (s t : State) : Prop :=
  t.pending = s.pending ∧ t.part.env = s.part.env ∧
  t.part.rt.mode = { s.part.rt.mode with
    keep := {}
    source := if s.part.rt.mode.source = .directed then .autonomous else s.part.rt.mode.source } ∧
  t.part.rt.stage = { s.part.rt.stage with
    pendingGo := if s.part.rt.mode.source = .directed then none else s.part.rt.stage.pendingGo
    hold := if s.part.rt.mode.source = .directed then false else s.part.rt.stage.hold
    current := t.part.rt.stage.current } ∧ sameStage s.part.rt t.part.rt ∧
  t.part.rt.groups = s.part.rt.groups ∧ t.part.rt.trams = s.part.rt.trams

/-- A fault has brought the junction to FLASH (R47), each module sent the frame of the flash order (R167). -/
abbrev broughtToFlash (s t : State) : Prop :=
  t.part.rt.mode = { s.part.rt.mode with
    mode := .flash, sub := .none, phaseDue := none, source := .none, latch := true, pendingStep := false } ∧
  (∀ g : Group, (t.part.rt.groups.get g).state = flashState s.part.env.tab g) ∧
  (∀ x ∈ t.part.rt.lamp.modules, sentAsStands s.part.env t.part.rt x) ∧
  t.part.rt.stage = { s.part.rt.stage with
    phase := .idle, current := none, pendingGo := none, hold := false, inter := none
    greenEnds := Vector.replicate 24 .absent } ∧
  t.part.rt.demand.active = false ∧ t.part.rt.trams = s.part.rt.trams ∧
  (s.part.rt.report.record ≠ none → t.part.rt.report.record = s.part.rt.report.record)

/-! ### The priority queue (R146) -/

/-- Every queueable record has its window (R137). -/
abbrev windowed (trams : Vector (Option TramRec) 8) : Prop :=
  ∀ k x, trams.get k = some x → queueable x = true → x.e1 ≠ none

/-- Moment `a` is earlier than moment `b` as seen at `now`, by their distances from the furthest moment that can then be
awaited (R1). -/
abbrev earlierAt (now a b : Time) : Prop := (now + 36000#32 - b).toNat < (now + 36000#32 - a).toNat

/-- Record `x` of slot `k` stands before record `y` of slot `j`: higher level, earlier E1, earlier check-in stamp, lower slot,
each key deciding between records that the keys before it leave equal (R146). -/
abbrev standsBefore (now : Time) (k : TramSlot) (x : TramRec) (j : TramSlot) (y : TramRec) : Prop :=
  y.level < x.level ∨ x.level = y.level ∧
    (earlierAt now (x.e1.getD 0#32) (y.e1.getD 0#32) ∨ x.e1 = y.e1 ∧
      (earlierAt now x.checkIn y.checkIn ∨ x.checkIn = y.checkIn ∧ k < j))

/-- The queue holds queueable records only, each once, in the order of R146. -/
abbrev queueOrdered (now : Time) (trams : Vector (Option TramRec) 8) (q : List TramSlot) : Prop :=
  q.Nodup ∧ (∀ k ∈ q, ∃ x, trams.get k = some x ∧ queueable x = true) ∧
  q.Pairwise fun k j => ∀ x y, trams.get k = some x → trams.get j = some y → standsBefore now k x j y

/-! ### The rows of the table that are frames, by the layout that they share -/

/-- The rows of the head port whose frame is a management frame that names a command (R181, R186, R187), each over the
bytes behind what the row fixes. -/
def managementRows (h : Header) (rest : List Byte) : List Instr := [
  .flashOn h rest, .dark h rest, .start h rest, .stop h rest, .restart h rest, .clearFault h rest,
  .take h rest, .release h rest, .goStage h rest, .hold h rest, .planSelect h rest, .softDemand h rest,
  .priorityEnable h rest, .cancelTram h rest, .keepaliveArm h rest, .keepaliveRefresh h rest,
  .tableWriteGroup h rest, .tableWriteConflict h rest, .tableWriteIntergreen h rest, .tableWriteStage h rest,
  .tableWritePermitted h rest, .tableWritePlan h rest, .tableWriteLoop h rest, .tableWriteAssignment h rest,
  .tableWriteButton h rest, .tableWriteRoute h rest, .tableWriteSettings h rest, .tableRead h rest,
  .queryStatus h rest, .queryCounts h rest, .queryFaultRecord h rest, .queryTramTable h rest]

/-- The number of bytes that R186 step 4 asks for behind what each of `managementRows` fixes, row by row: R178 gives a command
its operands, R188 a write its index, marker and entry, R190 a read its code and index. -/
def restLengths : List Nat :=
  [0, 0, 0, 0, 0, 0] ++ [0, 0, 1, 1, 1, 2, 1, 4, 0, 0] ++ [9, 1, 1, 7, 1, 81, 20, 4, 3, 20, 16].map (3 + ·) ++ [3] ++ [0, 0, 0, 1]

/-- The rows of the field port that a block takes (R181), for a payload of the right length: LOOP_COUNTS and LAMP_STATUS of
16 bytes, a telegram of 9, a press of 1, a reading of 2; the panel keys have no bytes behind the key. -/
def fieldRows (h : Header) (pl : List Byte) : List Instr :=
  (if pl.length = 16 then [.loopCounts h pl, .lampStatus h pl] else []) ++
  (if pl.length = 9 then
    (match pl.getD 1 0#8 with
      | 1#8 => [.telegramDoorClosed h pl]
      | 2#8 => [.telegramCheckOut h pl]
      | 3#8 => [.telegramCancel h pl]
      | _ => [.telegramCheckIn h pl])
    else []) ++
  (if pl.length = 0 then [.flashKey h pl, .manualOn h pl, .manualOff h pl, .stepKey h pl] else []) ++
  (if pl.length = 1 then [.pushButton h pl] else []) ++
  (if pl.length = 2 then [.sensorReading h pl] else [])

end Sys2Proof.Machine
end

