-- ==== Sys2Proof/Certificates/Slice0/Obligations.lean ====
section
/-! DEFINITION. The statements for the provers. `e` is the environment of the state before, `f` the frame of the command,
and `s.part.arrived port` the blocks after that frame's arrival (R179); `answer e f x r` answers the frame with the
result `x` (R185, R186). -/

open Sys2Proof Sys2Proof.Machine

/-! ### The step, reset, invariants -/

/-- A step runs the command at the front of the queue, with the queue's rest waiting ("the part's steps, each whole and
indivisible", chapter 95). -/
def Obligations.StepRunsFrontCommand : Prop :=
  ∀ (c : Instr) (rest : List Instr) (s : State),
    step { s with pending := c :: rest } = exec c { s with pending := rest }

/-- On an empty queue junction time goes on by 0.1 s (R1), and exactly the time-driven commands whose moment has come join the
queue; nothing else changes. That a step on an empty queue is a tick, and that the moments M, H and P are offered at the
tick that reaches them alone, is the model's choice (log entry 4). -/
def Obligations.EmptyQueueTicks : Prop :=
  ∀ s : State, s.pending = [] → ∃ t : State, step s = .next t ∧
    t.part.env = { s.part.env with now := s.part.env.now + 1#32 } ∧ t.part.rt = s.part.rt ∧
    ∀ c : Instr, c ∈ t.pending ↔ timeDue t.part.env s.part.rt c = true ∧ atMoment t.part.env s.part.rt c = true

/-- POWER_ON brings every block, every table and the settings to the values that the "Values after reset" tables state, from
any state, and `State.reset` is POWER_ON with the strap at 0 (log entry 1) and no command waiting. That commands which wait
stay in the queue is the model's choice (log entry 36). -/
def Obligations.PowerOnValues : Prop :=
  (∀ (strap : BitVec 3) (s : State), ∃ t : State, exec (.powerOn strap) s = .next t ∧ t.pending = s.pending ∧
    t.part.env.now = 0#32 ∧ t.part.env.own = 0x20#8 + strap.setWidth 8 ∧
    t.part.rt.mode.mode = .dark ∧ t.part.rt.mode.source = .none ∧ t.part.rt.mode.keep.state = .inactive ∧
    t.part.rt.mode.latch = false ∧ t.part.rt.mode.restartCause = .powerOn ∧ t.part.rt.mode.pendingStep = false ∧
    (∀ g : Group, (t.part.rt.groups.get g).state = .dark ∧ t.part.env.tab.groups.get g = none) ∧
    t.part.rt.stage.phase = .idle ∧ t.part.rt.stage.activePlan = 0 ∧ t.part.rt.stage.current = none ∧
    (∀ l : Loop, (t.part.rt.loops.recs.get l).state = .unused ∧ (t.part.rt.loops.recs.get l).vehicles = 0) ∧
    (∀ g : Group, (t.part.rt.demand.groups.get g).gap = .expired ∧ (t.part.rt.demand.groups.get g).gapTime = 30) ∧
    (∀ k : TramSlot, t.part.rt.trams.get k = none) ∧ t.part.rt.priority.enable = true ∧ t.part.rt.priority.queue = [] ∧
    t.part.rt.lamp.brightness = .bright ∧ t.part.rt.lamp.failed = [] ∧
    t.part.rt.ring.head.up = false ∧ t.part.rt.ring.field.up = false ∧ t.part.rt.ring.crcFlag = false ∧
    t.part.rt.ring.replies = [] ∧ t.part.rt.report.queue = [] ∧ t.part.rt.report.summary = 1#21 ∧
    t.part.rt.report.record = none ∧ t.part.env.tab.settings.keepaliveWindow = 5 ∧
    t.part.env.tab.settings.allowance = 3 ∧ t.part.env.tab.settings.mask = ~~~(8#21) ∧
    t.part = { env := { strap := strap } } ∧ t.part.rt = State.reset.part.rt ∧ t.part.env.tab = State.reset.part.env.tab ∧
    (∀ g : Group, t.part.rt.groups.get g = { state := .dark } ∧ t.part.rt.monitor.get g =
      { passed := none, rightOfWay := false, clearingSeen := none, clearingEnd := none, awaiting := false
        confirmed := none }) ∧
    t.part.rt.mode.sub = .none ∧ t.part.rt.mode.startValues = none ∧ t.part.rt.mode.phaseDue = none ∧
    t.part.rt.mode.keep = ⟨.inactive, none, none, none⟩ ∧ t.part.rt.mode.ownerViolation = false ∧
    t.part.rt.stage.taken = none ∧ t.part.rt.stage.position = 0 ∧ t.part.rt.stage.pendingGo = none ∧
    t.part.rt.stage.hold = false ∧ t.part.rt.stage.inter = none ∧
    (∀ g : Group, t.part.rt.stage.greenEnds.get g = .absent ∧ t.part.rt.lamp.confirms.get g = none ∧
      (t.part.rt.demand.groups.get g).loop = false ∧ (t.part.rt.demand.groups.get g).button = false ∧
      (t.part.rt.demand.groups.get g).soft = false ∧ (t.part.rt.demand.groups.get g).nonLocking = 0) ∧
    (∀ a : Assign, t.part.rt.demand.assigns.get a = ⟨none, false, false⟩ ∧ t.part.env.tab.assigns.get a = none) ∧
    t.part.rt.demand.active = false ∧ t.part.rt.loops.cards = [] ∧ t.part.rt.lamp.modules = [] ∧
    t.part.rt.lamp.settlingDue = none ∧ t.part.rt.lamp.sensorA = ⟨none, none, none⟩ ∧
    t.part.rt.lamp.sensorB = ⟨none, none, none⟩ ∧ t.part.rt.lamp.selected = none ∧ t.part.rt.lamp.run = none ∧
    t.part.rt.priority.lockoutDue = none ∧ t.part.rt.priority.holdOffer = none ∧ t.part.rt.priority.truncOffer = none ∧
    t.part.rt.priority.extensionNoted = false ∧ (∀ i : Fin 3, t.part.rt.priority.served.get i = 0) ∧
    t.part.rt.report.lost = false ∧ t.part.rt.ring.head.queue = [] ∧ t.part.rt.ring.field.queue = [] ∧
    t.part.rt.ring.aspects = [] ∧ t.part.rt.ring.aux = [] ∧ t.part.rt.ring.head.overflow = false ∧
    t.part.rt.ring.field.overflow = false ∧ t.part.rt.ring.head.linkDue = none ∧ t.part.rt.ring.field.linkDue = none ∧
    (∀ i j : Group, (t.part.env.tab.conflict.get i).get j = none ∧ (t.part.env.tab.intergreen.get i).get j = none) ∧
    (∀ i j : Stage, t.part.env.tab.stages.get i = none ∧ (t.part.env.tab.permitted.get i).get j = none) ∧
    (∀ p : Plan, t.part.env.tab.plans.get p = none) ∧
    (∀ n : Entry, t.part.env.tab.loops.get n = none ∧ t.part.env.tab.buttons.get n = none ∧
      t.part.env.tab.routes.get n = none) ∧
    t.part.env.tab.settings.capture = .flashFaults ∧ t.part.env.tab.settings.sensorA = none ∧
    t.part.env.tab.settings.sensorB = none ∧ t.part.env.tab.settings.dimOn = none ∧
    t.part.env.tab.settings.dimOff = none) ∧
  exec (.powerOn 0#3) State.reset = .next State.reset ∧ State.reset.pending = []

/-- The bytes of a frame that passes the checks, behind bytes that hold no first preamble byte, are gathered as that frame,
every field kept. Bytes behind a preamble are gathered as bad when they are fewer than a header, when their length field is
above 240 or disagrees with the payload bytes received, when their destination is 0 or above 127, or when their last two bytes
are not the CRC of the others (R180). That CRC is R178's: with the bytes as a polynomial over GF(2), most significant bit first,
and 0xFFFF upon the first sixteen bits, the bytes followed by their CRC are a multiple of x^16 + x^12 + x^5 + 1. -/
def Obligations.EncodedFramesAreGathered : Prop :=
  (∀ (f : Frame) (junk : List Byte), frameOk f = true → 0xC3#8 ∉ junk → gather (junk ++ encodeFrame f) = .valid f) ∧
  (∀ (junk rest : List Byte), 0xC3#8 ∉ junk →
    (rest.length < 5 → gather (junk ++ 0xC3#8 :: 0x3C#8 :: rest) = .bad) ∧
    ∀ (dst src kind flags len : Byte) (tail : List Byte), rest = dst :: src :: kind :: flags :: len :: tail →
      dst.toNat = 0 ∨ 127 < dst.toNat ∨ 240 < len.toNat ∨ tail.length ≠ len.toNat + 2 ∨
        tail.drop len.toNat ≠ crcBytes (dst :: src :: kind :: flags :: len :: tail.take len.toNat) →
      gather (junk ++ 0xC3#8 :: 0x3C#8 :: rest) = .bad) ∧
  let x : Polynomial (ZMod 2) := Polynomial.X
  let value := fun (bs : List Byte) =>
    bs.foldl (fun p b => p * x ^ 8 + ∑ i : Fin 8, if b.getLsbD i.val then x ^ i.val else 0) 0
  ∀ bs : List Byte, (crcBytes bs).length = 2 ∧
    x ^ 16 + x ^ 12 + x ^ 5 + 1 ∣ value (bs ++ crcBytes bs) + (∑ i : Fin 16, x ^ i.val) * x ^ (8 * bs.length)

/-- Every management row's frame, addressed to the part or broadcast, is decoded from its bytes as that row with its own
header and payload bytes; the rows that carry a whole payload (KEEPALIVE_ARM, KEEPALIVE_REFRESH, TABLE_READ) up to the
longest payload. Every field row's frame is decoded from its bytes at the field port as that row, whatever its destination; an
ASPECT_SET is decoded at either port as FOREIGN_ASPECT. That a telegram of no known type is CHECK_IN's is the model's choice
(log entry 30). -/
def Obligations.FrameRowsRoundTrip : Prop :=
  (∀ (own : Byte) (h : Header) (rest : List Byte), dstOk h.dst = true → h.dst = own ∨ h.dst = 127#8 →
    (rest.length ≤ 239 → ∀ i ∈ managementRows h rest,
      ∃ f, frameOf i = some (.head, f) ∧ decodeRing own .head (encodeFrame f) = some i) ∧
    (rest.length ≤ 240 → ∀ i ∈ [Instr.keepaliveArm h rest, .keepaliveRefresh h rest, .tableRead h rest],
      ∃ f, frameOf i = some (.head, f) ∧ decodeRing own .head (encodeFrame f) = some i)) ∧
  ∀ (own : Byte) (h : Header) (pl : List Byte), dstOk h.dst = true → pl.length ≤ 240 →
    (∀ i ∈ fieldRows h pl, ∃ f, frameOf i = some (.field, f) ∧ decodeRing own .field (encodeFrame f) = some i) ∧
    ∀ p : Port, decodeRing own p (encodeFrame (h.frame kindAspectSet pl)) = some (.foreignAspect p h pl)

/-- Every step keeps within their bounds: the four reply slots, the two forward queues, the two transmit classes and the event
queue; the vehicle and served counts (at most 65,535); the priority queue, which holds exactly the APPROACHING records of level
1 or more while the enable is on, each once and so at most 8 (R146); the cards' wait lists, of loops of the card, each once and
so at most four (R102); the on-count, off-count, invalid run, settling count, recovery run and discarded samples of every loop;
and every group's non-locking count, the number of its entries that give (R118). The loop table's relations (R89) and the
empty records of empty assignment entries are kept with them, as they rest on these; and no fault notice is left untaken: that
notices wait in a field of their own and are taken before the command ends is the model's choice (log entry 5). -/
def Obligations.CapacitiesKeptByStep : Prop :=
  ∀ s t : State, s.part.Bounded → step s = .next t → t.part.Bounded

/-- Every step keeps undefined groups in DARK, every group in DARK while the mode is DARK, and every group in the state of
a flash order while the mode is FLASH or START_FLASH runs. -/
def Obligations.GroupStatesKeptByStep : Prop :=
  ∀ s t : State, s.part.GroupsFitMode → step s = .next t → t.part.GroupsFitMode

/-- Every step keeps the control source within what R51 gives for the mode, DIRECTED only while the keepalive is not
INACTIVE (R58), and the Stage Engine in IDLE outside running stages and out of IDLE in RUNNING. -/
def Obligations.OwnershipKeptByStep : Prop :=
  ∀ s t : State, s.part.rt.OwnershipFitsMode → step s = .next t → t.part.rt.OwnershipFitsMode

/-- Every step keeps one module record for each mapped module, one card record for each card of the loop table, and the
failed-output set free of duplicates and within the slots mapped to a defined group. -/
def Obligations.RecordsFitTablesByStep : Prop :=
  ∀ s t : State, s.part.RecordsFitTables → step s = .next t → t.part.RecordsFitTables

/-- The four invariants hold at reset. -/
def Obligations.InvariantsAtReset : Prop :=
  State.reset.part.Bounded ∧ State.reset.part.GroupsFitMode ∧ State.reset.part.rt.OwnershipFitsMode ∧
    State.reset.part.RecordsFitTables

/-! ### The ring -/

/-- Posting an event adds its kind to the sticky summary; when the mask enables it, it joins the queue of 64, or at a full
queue sets the lost flag (R193). -/
def Obligations.EventsArePosted : Prop :=
  ∀ (e : Env) (k : EventKind) (subject : Byte) (detail : List Byte) (r : Rt),
    let r' := post e k subject detail r
    r' = { r with report := r'.report } ∧ r'.report.record = r.report.record ∧
    (∀ i : Nat, i < 21 → r'.report.summary.getLsbD i = (r.report.summary.getLsbD i || decide (i = k.code))) ∧
    (e.tab.settings.mask.getLsbD k.code = true → r.report.queue.length < 64 →
      r'.report.queue = r.report.queue ++ [⟨k, e.now, subject, detail⟩] ∧ r'.report.lost = r.report.lost) ∧
    (e.tab.settings.mask.getLsbD k.code = true → 64 ≤ r.report.queue.length →
      r'.report.queue = r.report.queue ∧ r'.report.lost = true) ∧
    (e.tab.settings.mask.getLsbD k.code = false →
      r'.report.queue = r.report.queue ∧ r'.report.lost = r.report.lost)

/-- Frames that no block takes: bytes that fail the checks set the CRC flag and do nothing else (R180); a foreign
ASPECT_SET posts FOREIGN_ASPECT and is neither forwarded nor acted on (R37); a frame of no block's kind is forwarded
toward the other port, or dropped when it is a field-side frame for the part (R181). What `forwardTo` does is
FieldFramesForwarded's. -/
def Obligations.FramesNoBlockTakes : Prop :=
  (∀ (s : State) (p : Port) (bytes : List Byte), gather bytes = .bad →
    exec (.crcErrorFrame p bytes) s =
      .next (s.withRt { s.part.rt with ring := { s.part.rt.ring with crcFlag := true } })) ∧
  (∀ (s : State) (p : Port) (h : Header) (pl : List Byte), frameOk (h.frame kindAspectSet pl) = true →
    exec (.foreignAspect p h pl) s =
      .next (s.withRt (post s.part.env .foreignAspect h.src (enc1 (portCode p)) (s.part.arrived p)))) ∧
  (∀ (s : State) (h : Header) (k : Byte) (pl : List Byte), frameOk (h.frame k pl) = true →
    frameCommand s.part.env.own .head (h.frame k pl) = .forwardFrame .head h k pl →
    exec (.forwardFrame .head h k pl) s =
      .next (s.withRt (forwardTo s.part.env .field (h.frame k pl) (s.part.arrived .head)))) ∧
  (∀ (s : State) (h : Header) (k : Byte) (pl : List Byte), frameOk (h.frame k pl) = true →
    frameCommand s.part.env.own .field (h.frame k pl) = .forwardFrame .field h k pl →
    exec (.forwardFrame .field h k pl) s =
      .next (s.withRt (if fieldKindLength k = none ∧ h.dst = s.part.env.own then s.part.arrived .field
        else forwardTo s.part.env .head (h.frame k pl) (s.part.arrived .field))))

/-- Forwarding (R182): a frame joins the tail of the port's queue with its arrival stamp, or at a full queue, of 16 toward the
head port and of 8 toward the field port, is dropped with the overflow flag set, and with FORWARD_OVERFLOW of the queue and the
frame's source and kind when the flag was clear (R194). So is a frame of no block's kind from the head port forwarded toward the
field port (R181), and a frame of a field kind toward the head port, whatever its block does with it (a LOOP_COUNTS frame by
its card's forward flag, or in DARK): `r` is what its block leaves. A LOOP_COUNTS frame of a card whose forward flag is no is
dropped after the Loop Unit has taken it (R92). Junction time, strap and the waiting commands are as before. A frame handed to a
transmit class joins its tail; at a full class, of 48 aspect frames or of 32 LOOP_TUNE and BUTTON_LAMP frames, the oldest is
removed with FORWARD_OVERFLOW of the class and the removed frame's source and kind (R184, R194). -/
def Obligations.FieldFramesForwarded : Prop :=
  (∀ (e : Env) (p : Port) (f : Frame) (r : Rt), let x := r.ring.port p
    let cap := match p with | .head => 16 | .field => 8
    let full := { r with ring := r.ring.setPort p { x with overflow := true } }
    (x.queue.length < cap →
      forwardTo e p f r = { r with ring := r.ring.setPort p { x with queue := x.queue ++ [⟨f, e.now⟩] } }) ∧
    (cap ≤ x.queue.length → x.overflow = true → forwardTo e p f r = full) ∧
    (cap ≤ x.queue.length → x.overflow = false → forwardTo e p f r =
      post e .forwardOverflow (match p with | .head => 0#8 | .field => 1#8) [f.src, f.kind] full)) ∧
  (∀ (e : Env) (f : Frame) (r : Rt) (q rest : List Frame) (old : Frame),
    (r.ring.aspects = q → q.length < 48 → pushAspect e f r = { r with ring := { r.ring with aspects := q ++ [f] } }) ∧
    (r.ring.aspects = old :: rest → 48 ≤ r.ring.aspects.length → pushAspect e f r =
      { post e .forwardOverflow 2#8 [old.src, old.kind] r with ring := { r.ring with aspects := rest ++ [f] } }) ∧
    (r.ring.aux = q → q.length < 32 → pushAux e f r = { r with ring := { r.ring with aux := q ++ [f] } }) ∧
    (r.ring.aux = old :: rest → 32 ≤ r.ring.aux.length → pushAux e f r =
      { post e .forwardOverflow 3#8 [old.src, old.kind] r with ring := { r.ring with aux := rest ++ [f] } }) ∧
    ∀ cap, classTake cap (old :: rest) f = (if (old :: rest).length < cap then old :: rest else rest) ++ [f]) ∧
  (∀ (s : State) (h : Header) (k : Byte) (pl : List Byte), let e := s.part.env; let a := s.part.arrived .head
    let q := s.part.rt.ring.field; let full := { a with ring := { a.ring with field := { q with overflow := true } } }
    frameOk (h.frame k pl) = true → frameCommand e.own .head (h.frame k pl) = .forwardFrame .head h k pl →
    (q.queue.length < 8 → exec (.forwardFrame .head h k pl) s = .next (s.withRt { a with
      ring := { a.ring with field := { q with queue := q.queue ++ [⟨h.frame k pl, e.now⟩] } } })) ∧
    (8 ≤ q.queue.length → exec (.forwardFrame .head h k pl) s =
      .next (s.withRt (if q.overflow then full else post e .forwardOverflow 1#8 [h.src, k] full)))) ∧
  (∀ (s : State) (h : Header) (pl : List Byte) (c : CardRec), dstOk h.dst = true → pl.length = 16 →
    s.part.rt.mode.mode ≠ .dark → s.part.rt.cardRec h.src = some c → c.forward = false →
    ∃ t, exec (.loopCounts h pl) s = .next t ∧ t.pending = s.pending ∧ t.part.env = s.part.env ∧
      t.part.rt.ring.head = s.part.rt.ring.head ∧
      ∀ k ∈ t.part.rt.loops.cards, k.addr = h.src → k.silenceDue = some (s.part.env.now + 10#32)) ∧
  ∀ (s : State) (h : Header) (pl : List Byte), let e := s.part.env; let q := s.part.rt.ring.head
    dstOk h.dst = true → ∀ i ∈ fieldRows h pl,
    (i = .loopCounts h pl → s.part.rt.mode.mode = .dark ∨ ∀ c, s.part.rt.cardRec h.src = some c → c.forward = true) →
    ∃ (f : Frame) (r : Rt), frameOf i = some (.field, f) ∧ r.ring.head = q ∧
      let full := { r with ring := { r.ring with head := { q with overflow := true } } }
      (q.queue.length < 16 → exec i s = .next (s.withRt { r with
        ring := { r.ring with head := { q with queue := q.queue ++ [⟨f, e.now⟩] } } })) ∧
      (16 ≤ q.queue.length → exec i s =
        .next (s.withRt (if q.overflow then full else post e .forwardOverflow 0#8 [f.src, f.kind] full)))

/-- The link timer's expiry makes a port DOWN with LINK_CHANGE, and a valid frame makes it UP with its timer due 1.0 s on
(R179); frames that have waited 1.0 s leave a forward queue, and its overflow flag clears (R182). The detail byte of
LINK_CHANGE, 0 for UP and 1 for DOWN, is the model's (log entry 14). -/
def Obligations.LinkAndAgeExpiry : Prop :=
  (∀ (s : State) (p : Port), isDue s.part.env.now (s.part.rt.ring.port p).linkDue = true →
    ∃ t, exec (.linkTimeout p) s = .next t ∧
      t.part.rt.ring = s.part.rt.ring.setPort p { s.part.rt.ring.port p with up := false, linkDue := none } ∧
      t.part.rt.report = (post s.part.env .linkChange (b8 (portCode p)) [1#8] s.part.rt).report ∧
      t = s.withRt { s.part.rt with ring := t.part.rt.ring, report := t.part.rt.report }) ∧
  (∀ (p : Part) (port : Port),
    (p.arrived port).ring = p.rt.ring.setPort port
      { p.rt.ring.port port with up := true, linkDue := some (p.env.now + 10#32) } ∧
    (p.arrived port).report = (if (p.rt.ring.port port).up then p.rt.report
      else (post p.env .linkChange (b8 (portCode port)) [0#8] p.rt).report) ∧
    p.arrived port = { p.rt with ring := (p.arrived port).ring, report := (p.arrived port).report }) ∧
  (∀ (s : State) (p : Port), (s.part.rt.ring.port p).queue.any (QueuedFrame.aged s.part.env.now) = true →
    ∃ t, exec (.forwardAgeDiscard p) s = .next t ∧ t = s.withRt { s.part.rt with ring := t.part.rt.ring } ∧
      t.part.rt.ring = s.part.rt.ring.setPort p { s.part.rt.ring.port p with
        overflow := false
        queue := (s.part.rt.ring.port p).queue.filter fun q => !reached s.part.env.now (q.stamp + 10#32) })

/-- A grant takes the first class that has something to send: at the head port a reply, a REPORT of up to 8 events with the
lost flag, a forwarded frame (R183, R194); at the field port an aspect frame, a LOOP_TUNE or BUTTON_LAMP, a forwarded
frame (R184). A DOWN port is given nothing (R179). The field `sent`, which holds the frame handed to a port, is the model's
own (log entry 8), the byte of the lost flag is a free value (log entry 13), and that a grant at a DOWN port changes
nothing is read from the rules by inference (log entry 37). -/
def Obligations.PortGrantOrder : Prop :=
  ∀ s : State, ∃ t u : State, exec .headPortGrant s = .next t ∧ exec .fieldPortGrant s = .next u ∧
    (s.part.rt.ring.head.up = false → t = s) ∧ (s.part.rt.ring.field.up = false → u = s) ∧
    (s.part.rt.ring.head.up = true →
      (∀ f rest, s.part.rt.ring.replies = f :: rest → t.part.rt.ring.head.sent = some f ∧
        t.part.rt.ring.replies = rest ∧ t.part.rt.report = s.part.rt.report ∧
        t.part.rt.ring.head.queue = s.part.rt.ring.head.queue) ∧
      (s.part.rt.ring.replies = [] → (s.part.rt.report.queue ≠ [] ∨ s.part.rt.report.lost = true) →
        t.part.rt.ring.head.sent = some (reportFrame s.part.env (s.part.rt.report.queue.take 8) s.part.rt.report.lost) ∧
        t.part.rt.report = { s.part.rt.report with queue := s.part.rt.report.queue.drop 8, lost := false } ∧
        t.part.rt.ring.head.queue = s.part.rt.ring.head.queue) ∧
      (s.part.rt.ring.replies = [] → s.part.rt.report.queue = [] → s.part.rt.report.lost = false →
        ∀ q rest, s.part.rt.ring.head.queue = q :: rest → t.part.rt.ring.head =
          { s.part.rt.ring.head with queue := rest, overflow := false, sent := some q.frame })) ∧
    (s.part.rt.ring.field.up = true →
      (∀ f rest, s.part.rt.ring.aspects = f :: rest → u.part.rt.ring.field.sent = some f ∧
        u.part.rt.ring.aspects = rest ∧ u.part.rt.ring.aux = s.part.rt.ring.aux) ∧
      (s.part.rt.ring.aspects = [] → ∀ f rest, s.part.rt.ring.aux = f :: rest →
        u.part.rt.ring.field.sent = some f ∧ u.part.rt.ring.aux = rest) ∧
      (s.part.rt.ring.aspects = [] → s.part.rt.ring.aux = [] → ∀ q rest, s.part.rt.ring.field.queue = q :: rest →
        u.part.rt.ring.field = { s.part.rt.ring.field with queue := rest, overflow := false, sent := some q.frame })) ∧
    (t = s.withRt { s.part.rt with ring := t.part.rt.ring, report := t.part.rt.report }) ∧
    (u = s.withRt { s.part.rt with ring := u.part.rt.ring })

/-- A frame of no command is answered BAD_KIND, BAD_TABLE or BAD_LENGTH (R186 steps 3 and 4; the answer to a missing code is
log entry 17); a management row whose bytes have another number than R186 step 4 asks for is answered BAD_LENGTH,
KEEPALIVE_ARM, KEEPALIVE_REFRESH, TABLE_READ and the queries included, a TABLE_READ of an unknown table code BAD_TABLE
before its length is judged; a management frame that asks for an answer while the four reply slots are full is given up with
COMMAND_REFUSED of code 14, unless it is RESTART of the right length (R186 step 2; that a RESTART with further bytes is
given up is log entry 19). Nothing else changes. A frame with is-reply set is dropped without an answer or an event (R186
step 1), a broadcast one forwarded all the same (R181). The answer to a command is a REPLY in a free slot when the frame
asks for one, with its flags 0x02 (is-reply from R183; reply-wanted clear by the model's choice, log entry 43), else nothing
for OK and COMMAND_REFUSED for a refusal (R185 to R187). A broadcast management frame is carried out as the same frame to
the part without reply-wanted, and is then forwarded to the field port (R181, R185; what `forwardTo` does is
FieldFramesForwarded's). -/
def Obligations.BadKindAndFullSlots : Prop :=
  (∀ (s : State) (h : Header) (k : Byte) (pl : List Byte), Delivered s.part (h.frame k pl) →
    frameCommand s.part.env.own .head (h.frame k pl) = .badKindFrame h k pl →
    exec (.badKindFrame h k pl) s =
      .next (s.withRt (answer s.part.env (h.frame k pl) ⟨badVerdict (h.frame k pl), []⟩ (s.part.arrived .head)))) ∧
  (∀ (s : State) (h : Header) (rest : List Byte), h.dst = s.part.env.own → isReply (h.frame 0#8 []) = false →
    asks s.part.env (h.frame 0#8 []) = true → Config.replySlots ≤ s.part.rt.ring.replies.length → rest.length ≤ 239 →
    ∀ i ∈ managementRows h rest, i ≠ .restart h [] → ∃ f, frameOf i = some (.head, f) ∧
      exec i s = .next (s.withRt
        (post s.part.env .commandRefused h.src [f.kind, firstByte f, 14#8] (s.part.arrived .head)))) ∧
  (∀ (e : Env) (f : Frame) (x : Result) (r : Rt),
    (asks e f = true ↔ f.dst = e.own ∧ f.flags.getLsbD 0 = true) ∧
    (asks e f = true → answer e f x r = { r with
      ring := { r.ring with replies := r.ring.replies ++
        [⟨f.src, e.own, 0x40#8, 2#8, f.kind :: f.payload.headD 0#8 :: b8 x.code.code :: x.data⟩] } }) ∧
    (asks e f = false → x.code = .ok → answer e f x r = r) ∧
    (asks e f = false → x.code ≠ .ok → answer e f x r =
      post e .commandRefused f.src [f.kind, f.payload.headD 0#8, b8 x.code.code] r)) ∧
  [ResultCode.ok, .wrongMode, .wrongSource, .noKeepalive, .fenced, .badTable, .badIndex, .badEntry, .checkFailed,
    .faultLatched, .notPermitted, .notLoaded, .badKind, .badLength].map ResultCode.code = List.range 14 ∧
  (∀ (s : State) (h : Header) (rest : List Byte), Delivered s.part (h.frame 0#8 []) → rest.length ≤ 239 →
    ∀ row ∈ (managementRows h rest).zip restLengths, rest.length ≠ row.2 → ∃ f, frameOf row.1 = some (.head, f) ∧
      exec row.1 s = .next (s.withRt (answer s.part.env f
        ⟨if row.1 = .tableRead h rest ∧ 10 < (rest.headD 0#8).toNat then .badTable else .badLength, []⟩
        (s.part.arrived .head)))) ∧
  (∀ (s : State) (h : Header) (k : Byte) (rest : List Byte), dstOk h.dst = true → h.flags.getLsbD 1 = true →
    rest.length ≤ 239 →
    ∀ i, i ∈ managementRows h rest ∨
        (i = .badKindFrame h k rest ∧ frameCommand s.part.env.own .head (h.frame k rest) = .badKindFrame h k rest) →
      ∃ f, frameOf i = some (.head, f) ∧
        (h.dst = s.part.env.own → exec i s = .next (s.withRt (s.part.arrived .head))) ∧
        (h.dst = 127#8 → s.part.env.own ≠ 127#8 →
          exec i s = .next (s.withRt (forwardTo s.part.env .field f (s.part.arrived .head))))) ∧
  (∀ (s : State) (h h0 : Header) (rest : List Byte), h.dst = 127#8 → h.flags.getLsbD 1 = false → rest.length ≤ 239 →
    h0 = { h with dst := s.part.env.own, flags := 0#8 } →
    ∀ ij ∈ (managementRows h rest).zip (managementRows h0 rest), ∃ f t0, frameOf ij.1 = some (.head, f) ∧
      exec ij.2 s = .next t0 ∧
      exec ij.1 s = .next (t0.withRt (forwardTo t0.part.env .field f t0.part.rt)))

/-! ### Junction commands (chapter 3) -/

/-- FLASH_ON in DARK with a mapped group (R39): FLASH with a flash order (R5), the Stage Engine in IDLE (R66), the silence
timers of the modules started (R174), the answer OK; latch, source, keepalive, tram table and tables as before. In DARK
without a mapped group it is refused with NOT_LOADED, in STARTUP, RUNNING and SHUTDOWN with WRONG_MODE; in FLASH it is
answered OK; in these it changes nothing and posts no event. -/
def Obligations.FlashOnEntersFlash : Prop :=
  (∀ (s : State) (h : Header), let f := junctionFrame h 0 []
    let answered := fun c => s.withRt (answer s.part.env f ⟨c, []⟩ (s.part.arrived .head))
    Delivered s.part f →
    (s.part.rt.mode.mode = .dark → s.part.env.tab.mappedCount = 0 → exec (.flashOn h []) s = .next (answered .notLoaded)) ∧
    (s.part.rt.mode.mode = .flash → exec (.flashOn h []) s = .next (answered .ok)) ∧
    (s.part.rt.mode.mode = .startup ∨ s.part.rt.mode.mode = .running ∨ s.part.rt.mode.mode = .shutdown →
      exec (.flashOn h []) s = .next (answered .wrongMode))) ∧
  ∀ (s : State) (h : Header), let e := s.part.env; let f := junctionFrame h 0 []
    Delivered s.part f → s.part.rt.mode.mode = .dark → 0 < e.tab.mappedCount →
    ∃ r, exec (.flashOn h []) s = .next (s.withRt (answer e f .accepted r)) ∧
      r.mode = { s.part.rt.mode with mode := .flash, sub := .none, phaseDue := none } ∧
      (∀ g : Group, (r.groups.get g).state = flashState e.tab g) ∧
      r.stage = { s.part.rt.stage with
        phase := .idle, current := none, pendingGo := none, hold := false, inter := none
        greenEnds := Vector.replicate 24 .absent } ∧
      (∀ m ∈ r.lamp.modules, m.silenceDue = some (e.now + 10#32)) ∧ r.demand.active = false ∧
      r.trams = s.part.rt.trams ∧ r.priority.holdOffer = none ∧ r.priority.truncOffer = none

/-- The DARK command in FLASH (R40): DARK with a dark order (R6), every loaded loop waiting for tuning (R111), the tram
table empty (R144), the modules' silence timers stopped (R174), the answer OK; latch, fault record and keepalive kept. In
DARK it is answered OK, in STARTUP, RUNNING and SHUTDOWN refused with WRONG_MODE, and changes nothing. -/
def Obligations.DarkEntersDark : Prop :=
  (∀ (s : State) (h : Header), let f := junctionFrame h 1 []
    let answered := fun c => s.withRt (answer s.part.env f ⟨c, []⟩ (s.part.arrived .head))
    Delivered s.part f →
    (s.part.rt.mode.mode = .dark → exec (.dark h []) s = .next (answered .ok)) ∧
    (s.part.rt.mode.mode = .startup ∨ s.part.rt.mode.mode = .running ∨ s.part.rt.mode.mode = .shutdown →
      exec (.dark h []) s = .next (answered .wrongMode))) ∧
  ∀ (s : State) (h : Header), let e := s.part.env; let f := junctionFrame h 1 []
    Delivered s.part f → s.part.rt.mode.mode = .flash → s.part.rt.notices = [] →
    ∃ r, exec (.dark h []) s = .next (s.withRt (answer e f .accepted r)) ∧
      r.mode = { s.part.rt.mode with mode := .dark, sub := .none, phaseDue := none } ∧
      r.report.record = s.part.rt.report.record ∧
      (∀ g : Group, (r.groups.get g).state = .dark) ∧ (∀ k : TramSlot, r.trams.get k = none) ∧
      (∀ l : Loop, (r.loops.recs.get l).state = (if (e.tab.loops.get l).isSome then .waitingTune else .unused) ∧
        (r.loops.recs.get l).vehicles = (s.part.rt.loops.recs.get l).vehicles) ∧
      (∀ c ∈ r.loops.cards, c.wait = e.tab.cardLoops c.addr ∧ c.silenceDue = none ∧ c.silent = false) ∧
      (∀ m ∈ r.lamp.modules, m.silenceDue = none ∧ m.silent = false) ∧ r.demand.active = false ∧ r.stage.phase = .idle

/-- START (R41): the tests of mode, latch and tables in this order, each refusal changing nothing but the answer. When they
pass, and no module is silent: STARTUP in START_FLASH (R42), source AUTONOMOUS, the start values copied and the start flash
time running, the groups in their FLASH states (R5), the Demand Unit active (R127), the sequence position at 0 (R66). A
start flash time of 0 ends START_FLASH at that moment: ALL_RED is entered, with every defined group in REST, and the
MODE_CHANGE events of both are posted in that order (R42). With a module silent, START is accepted and MODULE_SILENT brings
the junction to FLASH at once with the latch set (R47, R174); that the notice of the lowest address comes first is log entry
42. That FLASH has the Stage Engine in IDLE is OwnershipKeptByStep's. That the silent module's notice is taken before a
start flash time of 0 ends START_FLASH is the model's choice (log entry 5). -/
def Obligations.StartTestsAndEntersStartup : Prop :=
  ∀ (s : State) (h : Header), let e := s.part.env; let f := junctionFrame h 2 []; let r0 := s.part.arrived .head
    Delivered s.part f →
    (s.part.rt.mode.mode ≠ .flash → exec (.start h []) s = .next (s.withRt (answer e f ⟨.wrongMode, []⟩ r0))) ∧
    (s.part.rt.mode.mode = .flash → s.part.rt.mode.latch = true →
      exec (.start h []) s = .next (s.withRt (answer e f ⟨.faultLatched, []⟩ r0))) ∧
    (s.part.rt.mode.mode = .flash → s.part.rt.mode.latch = false →
      ∀ x, consistency e.tab s.part.rt.stage.activePlan = some x →
      exec (.start h []) s = .next (s.withRt (answer e f ⟨.checkFailed, x.bytes⟩ r0))) ∧
    (s.part.rt.mode.mode = .flash → s.part.rt.mode.latch = false → s.part.still → s.part.rt.stage.phase = .idle →
      consistency e.tab s.part.rt.stage.activePlan = none →
      ∀ p, e.tab.plans.get s.part.rt.stage.activePlan = some p →
      (∀ m, s.part.rt.lamp.modules.find? ModuleRec.silent = some m →
        ∃ t r, exec (.start h []) s = .next t ∧ t = s.withRt (answer e f .accepted r) ∧
          r.mode = { s.part.rt.mode with
            mode := .flash, sub := .none, phaseDue := none, source := .none, latch := true, pendingStep := false
            startValues := some ⟨p.startStage, p.startFlash, p.allRed⟩ } ∧
          (∀ g : Group, (r.groups.get g).state = flashState e.tab g) ∧ r.demand.active = false ∧
          r.stage.phase = .idle ∧ r.trams = s.part.rt.trams ∧
          r.report.summary.getLsbD 14 = true ∧
          (s.part.rt.report.record = none → r.report.record = some ⟨.fault .moduleSilent, none, none, none,
            s.part.rt.currentStage, e.now,
            some m.addr⟩)) ∧
      ((∀ m ∈ s.part.rt.lamp.modules, m.silent = false) → p.startFlash = 0 →
        ∃ r, exec (.start h []) s = .next (s.withRt (answer e f .accepted r)) ∧
          r.mode = { s.part.rt.mode with
            mode := .startup, sub := .allRed, source := .autonomous
            startValues := some ⟨p.startStage, p.startFlash, p.allRed⟩
            phaseDue := some (e.now + BitVec.ofNat 32 p.allRed) } ∧
          (∀ g : Group, (r.groups.get g).state = if e.tab.isDefined g then .rest else .dark) ∧ r.demand.active = true ∧
          r.stage = { s.part.rt.stage with position := 0 } ∧ r.trams = s.part.rt.trams ∧
          (e.tab.settings.mask.getLsbD 0 = true → r.report.queue.length < 64 →
            r.report.queue.filter (fun v => v.kind == .modeChange) =
              s.part.rt.report.queue.filter (fun v => v.kind == .modeChange) ++
                [⟨.modeChange, e.now, 255#8, [2#8, 1#8]⟩, ⟨.modeChange, e.now, 255#8, [2#8, 2#8]⟩])) ∧
      ((∀ m ∈ s.part.rt.lamp.modules, m.silent = false) → 0 < p.startFlash →
      ∃ r, exec (.start h []) s = .next (s.withRt (answer e f .accepted r)) ∧
        r.mode = { s.part.rt.mode with
          mode := .startup, sub := .startFlash, source := .autonomous
          startValues := some ⟨p.startStage, p.startFlash, p.allRed⟩
          phaseDue := some (e.now + BitVec.ofNat 32 p.startFlash) } ∧
        (∀ g : Group, (r.groups.get g).state = flashState e.tab g) ∧ r.demand.active = true ∧
        r.stage = { s.part.rt.stage with position := 0 } ∧ r.trams = s.part.rt.trams))

/-- STOP, and the FLASH_KEY panel key, in RUNNING before min-end or in an unfinished interstage (R44): SHUTDOWN in
FINISHING, source NONE, the pending STEP and GO_STAGE and HOLD dropped, both priority offers withdrawn; groups, phase and
stage go on. In STAGE_RUN, past its min-end, CLEARING_ALL is entered at that moment: every group in GREEN takes its
green-end order and clears, or is in REST at once for a clearing time of 0 (R12, R45, R46), and its module is sent the new
aspect (R4, R166). STOP is answered OK; the key is not answered and is forwarded (R181). In SHUTDOWN STOP is answered OK and
changes nothing, in DARK, FLASH and STARTUP it is refused with WRONG_MODE; the key in any mode but RUNNING has no effect and
posts no event (the max-green timer and the offers, which the Stage Engine reads anew at every command, apart). -/
def Obligations.StopAndFlashKeyEnterShutdown : Prop :=
  ∀ (s : State) (h : Header), let e := s.part.env
    let answered := fun c => s.withRt (answer e (junctionFrame h 3 []) ⟨c, []⟩ (s.part.arrived .head))
    (Delivered s.part (junctionFrame h 3 []) →
      (s.part.rt.mode.mode = .shutdown → exec (.stop h []) s = .next (answered .ok)) ∧
      (s.part.rt.mode.mode = .dark ∨ s.part.rt.mode.mode = .flash ∨ s.part.rt.mode.mode = .startup →
        exec (.stop h []) s = .next (answered .wrongMode))) ∧
    (frameOk (keyFrame h 0 []) = true → s.part.rt.mode.mode ≠ .running → s.part.still →
      ∃ r, exec (.flashKey h []) s = .next (s.withRt (forwardTo e .head (keyFrame h 0 []) r)) ∧
        controlAlone (s.part.arrived .field) r ∧ r.mode = s.part.rt.mode ∧
        r.report = (s.part.arrived .field).report ∧ r.stage.pendingGo = s.part.rt.stage.pendingGo ∧
        r.stage.hold = s.part.rt.stage.hold) ∧
    (s.part.rt.mode.mode = .running → s.part.still → s.part.rt.stage.phase ≠ .idle →
      (Delivered s.part (junctionFrame h 3 []) →
        ∃ r, exec (.stop h []) s = .next (s.withRt (answer e (junctionFrame h 3 []) .accepted r)) ∧
          shutdownEntered s.part.rt r) ∧
      (frameOk (keyFrame h 0 []) = true →
        ∃ r, exec (.flashKey h []) s = .next (s.withRt (forwardTo e .head (keyFrame h 0 []) r)) ∧
          shutdownEntered s.part.rt r)) ∧
    (s.part.rt.mode.mode = .running → s.part.rt.notices = [] → s.part.rt.stage.phase = .stageRun →
      s.part.monitorFollows → (∃ g, e.tab.isDefined g = true ∧ s.part.rt.isGreen g = true ∧ 0 < e.tab.clearing g) →
      (∀ g, s.part.rt.isGreen g = true → takesGreenEnd e s.part.rt g = true) →
      (Delivered s.part (junctionFrame h 3 []) →
        ∃ r, exec (.stop h []) s = .next (s.withRt (answer e (junctionFrame h 3 []) .accepted r)) ∧
          clearingAllEntered e s.part.rt r) ∧
      (frameOk (keyFrame h 0 []) = true →
        ∃ r, exec (.flashKey h []) s = .next (s.withRt (forwardTo e .head (keyFrame h 0 []) r)) ∧
          clearingAllEntered e s.part.rt r))

/-- RESTART from any state brings every block to the RESTART column of its "Values after reset" table (R31, R50, R88, R112,
R128, R144, R162, R177, R192, R198): FLASH when a defined group is mapped, else DARK; queues, classes and reply slots
emptied before its own answer and the frames it gives (one for each mapped module, BUTTON_LAMP unlit, LOOP_TUNE); the
latch, the owner-violation flag, the enable, the counts, the active plan, the report queue, the fault record and the
tables kept. It needs no free reply slot (R186 step 2). That commands which wait stay in the queue is log entry 36. -/
def Obligations.RestartReturnsToInitialState : Prop :=
  ∀ (s : State) (h : Header), let e := s.part.env; let f := junctionFrame h 4 []
    frameOk f = true → f.dst = e.own → isReply f = false →
    ∃ r, exec (.restart h []) s = .next (s.withRt (answer e f .accepted r)) ∧
      r.mode = { s.part.rt.mode with
        mode := if e.tab.mappedCount = 0 then .dark else .flash
        sub := .none, startValues := none, phaseDue := none, source := .none, keep := {}, pendingStep := false
        restartCause := .restartFrame } ∧
      (∀ g : Group, (r.groups.get g).state = if e.tab.mappedCount = 0 then .dark else flashState e.tab g) ∧
      r.stage = { s.part.rt.stage with
        phase := .idle, current := none, pendingGo := none, hold := false, inter := none
        greenEnds := Vector.replicate 24 .absent } ∧
      r.priority = { s.part.rt.priority with
        queue := [], lockoutDue := none, holdOffer := none, truncOffer := none, extensionNoted := false } ∧
      (∀ k : TramSlot, r.trams.get k = none) ∧ r.demand.active = false ∧
      (∀ l : Loop, (r.loops.recs.get l).vehicles = (s.part.rt.loops.recs.get l).vehicles) ∧
      r.lamp.failed = [] ∧ r.lamp.brightness = s.part.rt.lamp.brightness ∧
      r.ring.replies = [] ∧ r.ring.head.queue = [] ∧ r.ring.field.queue = [] ∧ r.ring.head.overflow = false ∧
      r.ring.field.overflow = false ∧ r.ring.crcFlag = s.part.rt.ring.crcFlag ∧
      r.ring.aspects.map Frame.dst = e.tab.mappedModules ∧
      (∀ k ∈ r.ring.aux, k.src = e.own ∧ (k.kind = kindButtonLamp ∨ k.kind = kindLoopTune)) ∧
      ((∀ g, (s.part.rt.demand.groups.get g).button = false) → e.tab.mappedCount = 0 → r.ring.aux = []) ∧
      (∀ g : Group, r.monitor.get g = { passed := if (e.tab.slotOf g).isSome then some .off else none }) ∧
      (∀ g : Group, r.demand.groups.get g = { gapTime := (s.part.rt.demand.groups.get g).gapTime }) ∧
      (∀ a : Assign, r.demand.assigns.get a = {}) ∧
      r.loops.cards.map CardRec.addr = e.tab.cardAddrs ∧
      (∀ c ∈ r.loops.cards, c.wait = e.tab.cardLoops c.addr ∧ c.silent = false ∧
        c.forward = e.tab.cardForward c.addr ∧
        c.silenceDue = if e.tab.mappedCount = 0 then none else some (e.now + 10#32)) ∧
      (∀ l : Loop, e.tab.loops.get l = none →
        r.loops.recs.get l = { state := .unused, vehicles := (s.part.rt.loops.recs.get l).vehicles }) ∧
      (∀ (l : Loop) (x : LoopEntry), e.tab.loops.get l = some x → r.loops.recs.get l =
        if e.tab.mappedCount ≠ 0 ∧ (e.tab.cardLoops x.card).head? = some l then
          { state := .tuning, sweep := some ⟨some 0, .awaitingEcho, some (e.now + 10#32)⟩
            vehicles := (s.part.rt.loops.recs.get l).vehicles }
        else { state := .waitingTune, vehicles := (s.part.rt.loops.recs.get l).vehicles }) ∧
      r.lamp.modules.map ModuleRec.addr = e.tab.mappedModules ∧
      (∀ m ∈ r.lamp.modules, m.silent = false ∧ m.noted = Vector.replicate 4 false ∧
        m.refreshDue = some (e.now + 2#32) ∧ m.silenceDue = some (e.now + 10#32) ∧
        m.sentBrightness = some r.lamp.brightness ∧ ∃ v, m.sentAspects = some v ∧ ∀ k : Slot, (v.get k).cls = .off) ∧
      (∀ g : Group, r.lamp.confirms.get g = none) ∧ r.lamp.run = none ∧ r.lamp.settlingDue = none ∧
      r.lamp.selected = none ∧ r.lamp.sensorA = {} ∧ r.lamp.sensorB = {} ∧
      (s.part.rt.notices = [] → r.report.record = s.part.rt.report.record) ∧
      s.part.rt.report.queue <+: r.report.queue ∧ (s.part.rt.report.lost = true → r.report.lost = true) ∧
      (∀ i : Nat, s.part.rt.report.summary.getLsbD i = true → r.report.summary.getLsbD i = true) ∧
      r.report.summary.getLsbD 0 = true ∧ r.notices = []

/-- CLEAR_FAULT in DARK or FLASH clears the fault latch, set or not, and empties the fault record, and is answered OK; it
changes nothing else. In STARTUP, RUNNING and SHUTDOWN it is refused with WRONG_MODE and changes nothing (R49). -/
def Obligations.ClearFaultClearsLatchAndRecord : Prop :=
  ∀ (s : State) (h : Header), let e := s.part.env; let f := junctionFrame h 5 []; let r := s.part.arrived .head
    Delivered s.part f →
    (s.part.rt.mode.mode = .dark ∨ s.part.rt.mode.mode = .flash →
      exec (.clearFault h []) s = .next (s.withRt (answer e f .accepted { r with
        mode := { s.part.rt.mode with latch := false }
        report := { r.report with record := none } }))) ∧
    (s.part.rt.mode.mode = .startup ∨ s.part.rt.mode.mode = .running ∨ s.part.rt.mode.mode = .shutdown →
      exec (.clearFault h []) s = .next (s.withRt (answer e f ⟨.wrongMode, []⟩ r)))

/-! ### Control commands and the keepalive (chapters 3, 4, 6, 7, 8) -/

/-- TAKE: mode, source and keepalive are tested in this order; else the source becomes DIRECTED and the answer is OK (R52),
and the truncation offer is withdrawn (R150). A refused TAKE changes nothing. In STAGE_RUN, with no request pending, the stage
goes on under DIRECTED (R51, R76); what the record of the stage notes of gap-out is the model's own (log entry 46). -/
def Obligations.TakeTestsAndTakesControl : Prop :=
  ∀ (s : State) (h : Header), let e := s.part.env; let f := controlFrame h 0 []; let r0 := s.part.arrived .head
    Delivered s.part f →
    (s.part.rt.mode.mode ≠ .running → exec (.take h []) s = .next (s.withRt (answer e f ⟨.wrongMode, []⟩ r0))) ∧
    (s.part.rt.mode.mode = .running → s.part.rt.mode.source ≠ .autonomous →
      exec (.take h []) s = .next (s.withRt (answer e f ⟨.wrongSource, []⟩ r0))) ∧
    (s.part.rt.mode.mode = .running → s.part.rt.mode.source = .autonomous → s.part.rt.mode.keep.state = .inactive →
      exec (.take h []) s = .next (s.withRt (answer e f ⟨.noKeepalive, []⟩ r0))) ∧
    (s.part.rt.mode.mode = .running → s.part.rt.mode.source = .autonomous → s.part.rt.mode.keep.state ≠ .inactive →
      s.part.still →
      ∃ r, exec (.take h []) s = .next (s.withRt (answer e f .accepted r)) ∧
        r.mode = { s.part.rt.mode with source := .directed } ∧ r.priority.truncOffer = none ∧
        r.groups = s.part.rt.groups ∧ r.stage = { s.part.rt.stage with current := r.stage.current } ∧
        sameStage s.part.rt r ∧ r.trams = s.part.rt.trams) ∧
    (∀ c, s.part.rt.inRun e .autonomous c → s.part.rt.notices = [] → s.part.rt.mode.keep.state ≠ .inactive →
      s.part.rt.stage.pendingGo = none →
      ∃ r, exec (.take h []) s = .next (s.withRt (answer e f .accepted r)) ∧
        r.mode = { s.part.rt.mode with source := .directed } ∧ r.priority.truncOffer = none ∧
        r.groups = s.part.rt.groups ∧ r.trams = s.part.rt.trams ∧
        r.stage = { s.part.rt.stage with current := some { c with gap := r.stage.current.bind StageRec.gap } })

/-- RELEASE in RUNNING under DIRECTED: the source becomes AUTONOMOUS, the pending GO_STAGE and HOLD are dropped, the
keepalive stays. Outside RUNNING it is refused with WRONG_MODE, under another source with WRONG_SOURCE, and the
owner-violation flag stays (R53). In STAGE_RUN the end conditions of AUTONOMOUS apply at that moment (R73): with no tram
queued, demand elsewhere, a next stage and gap-out or max-out end the stage with cause GAP or MAX (R72); without these, and
with max-out not reached, it goes on. Whether gap-out counts is log entry 46's at the moment it comes, read with no
truncation offer, since none stands without a tram in the queue (R150). -/
def Obligations.ReleaseEndsDirected : Prop :=
  ∀ (s : State) (h : Header), let e := s.part.env; let f := controlFrame h 1 []; let r0 := s.part.arrived .head
    Delivered s.part f →
    (s.part.rt.mode.mode ≠ .running → exec (.release h []) s = .next (s.withRt (answer e f ⟨.wrongMode, []⟩ r0))) ∧
    (s.part.rt.mode.mode = .running → s.part.rt.mode.source ≠ .directed →
      exec (.release h []) s = .next (s.withRt (answer e f ⟨.wrongSource, []⟩ r0))) ∧
    (s.part.rt.mode.mode = .running → s.part.rt.mode.source = .directed → s.part.still →
      ∃ r, exec (.release h []) s = .next (s.withRt (answer e f .accepted r)) ∧
        r.mode = { s.part.rt.mode with source := .autonomous } ∧
        r.stage = { s.part.rt.stage with pendingGo := none, hold := false, current := r.stage.current } ∧
        sameStage s.part.rt r ∧ r.groups = s.part.rt.groups ∧ r.trams = s.part.rt.trams) ∧
    (∀ c, let u := s.part.rt; let u1 := { u with mode := { u.mode with source := .autonomous } }
      let u0 := { u with priority := { u.priority with truncOffer := none } }
      u.inRun e .directed c → u.notices = [] → u.priority.queue = [] →
      (∀ x, demandElsewhere e u = true → nextAutonomous e u = some x → gapCounts e u0 = true ∨ maxOutHolds e u = true →
        s.part.endsCleanly c.stage x →
        ∃ r, exec (.release h []) s = .next (s.withRt (answer e f .accepted r)) ∧
          stageEnded e u1 r c.stage x (if maxOutHolds e u then .max else .gap) ∧
          r.stage.pendingGo = none ∧ r.stage.hold = false ∧ r.mode = u1.mode) ∧
      (¬ (demandElsewhere e u = true ∧ nextAutonomous e u ≠ none ∧ gapCounts e u0 = true) → maxOutHolds e u = false →
        ∃ r, exec (.release h []) s = .next (s.withRt (answer e f .accepted r)) ∧ r.mode = u1.mode ∧
          r.groups = u.groups ∧ r.trams = u.trams ∧
          r.stage = { u.stage with
            pendingGo := none, hold := false, current := some { c with gap := r.stage.current.bind StageRec.gap } }))

/-- GO_STAGE and HOLD: WRONG_MODE outside RUNNING; WRONG_SOURCE with the owner-violation flag set under AUTONOMOUS or
MANUAL (R54). Under DIRECTED, GO_STAGE is refused with BAD_INDEX, NOT_LOADED, NOT_PERMITTED in this order (R75) or takes
the pending slot; HOLD on (coded 0) sets the flag and off (coded 1) clears it (R77). In STAGE_RUN a request acts at once
when HOLD is clear and no extension hold is in effect: it ends the stage toward the named one with cause GO_STAGE, and one
that names the current stage is used up (R76); HOLD keeps it pending, and HOLD off lets it act. The codes of on and off
are read from R178 by inference (log entry 14), a HOLD of another value is a free value's (log entry 10), that a request
which acts at once takes the place of one that still waits is log entry 47, and what the stage's record notes of gap-out is
the model's own (log entry 46). -/
def Obligations.GoStageAndHold : Prop :=
  ∀ (s : State) (h : Header) (b : Byte), let e := s.part.env; let r0 := s.part.arrived .head
    let f := controlFrame h 2 [b]; let k := controlFrame h 3 [b]
    Delivered s.part f →
    (s.part.rt.mode.mode ≠ .running →
      exec (.goStage h [b]) s = .next (s.withRt (answer e f ⟨.wrongMode, []⟩ r0)) ∧
      exec (.hold h [b]) s = .next (s.withRt (answer e k ⟨.wrongMode, []⟩ r0))) ∧
    (s.part.rt.mode.mode = .running → s.part.rt.mode.source ≠ .directed →
      let r1 := { r0 with mode := { r0.mode with ownerViolation := true } }
      exec (.goStage h [b]) s = .next (s.withRt (answer e f ⟨.wrongSource, []⟩ r1)) ∧
      exec (.hold h [b]) s = .next (s.withRt (answer e k ⟨.wrongSource, []⟩ r1))) ∧
    (s.part.rt.mode.mode = .running → s.part.rt.mode.source = .directed →
      (stageOf b = none → exec (.goStage h [b]) s = .next (s.withRt (answer e f ⟨.badIndex, []⟩ r0))) ∧
      (∀ x, stageOf b = some x → e.tab.stages.get x = none →
        exec (.goStage h [b]) s = .next (s.withRt (answer e f ⟨.notLoaded, []⟩ r0))) ∧
      (∀ x, stageOf b = some x → e.tab.stages.get x ≠ none → goPermitted e s.part.rt x = false →
        exec (.goStage h [b]) s = .next (s.withRt (answer e f ⟨.notPermitted, []⟩ r0))) ∧
      (∀ x, stageOf b = some x → e.tab.stages.get x ≠ none → goPermitted e s.part.rt x = true → s.part.still →
        ∃ r, exec (.goStage h [b]) s = .next (s.withRt (answer e f .accepted r)) ∧ r.mode = s.part.rt.mode ∧
          r.stage = { s.part.rt.stage with pendingGo := some x, current := r.stage.current } ∧ sameStage s.part.rt r ∧
          r.groups = s.part.rt.groups ∧ r.trams = s.part.rt.trams) ∧
      (b = 0#8 ∨ b = 1#8 → s.part.still →
        ∃ r, exec (.hold h [b]) s = .next (s.withRt (answer e k .accepted r)) ∧ r.mode = s.part.rt.mode ∧
          r.stage = { s.part.rt.stage with hold := decide (b = 0#8), current := r.stage.current } ∧
          sameStage s.part.rt r ∧ r.groups = s.part.rt.groups ∧ r.trams = s.part.rt.trams) ∧
      (b ≠ 0#8 → b ≠ 1#8 → Config.holdOtherValue b = none →
        exec (.hold h [b]) s = .next (s.withRt (answer e k ⟨.badEntry, []⟩ r0))) ∧
      (∀ c x, s.part.rt.inRun e .directed c → s.part.rt.notices = [] → stageOf b = some x →
        e.tab.stages.get x ≠ none → goPermitted e s.part.rt x = true →
        (s.part.rt.stage.hold = true →
          ∃ r, exec (.goStage h [b]) s = .next (s.withRt (answer e f .accepted r)) ∧
            r.stage = { s.part.rt.stage with
              pendingGo := some x, current := some { c with gap := r.stage.current.bind StageRec.gap } } ∧
            r.groups = s.part.rt.groups ∧ r.mode = s.part.rt.mode) ∧
        (s.part.rt.stage.hold = false → holdInEffect e s.part.rt = false →
          (x = c.stage → ∃ r, exec (.goStage h [b]) s = .next (s.withRt (answer e f .accepted r)) ∧
            r.stage = { s.part.rt.stage with
              pendingGo := none, current := some { c with gap := r.stage.current.bind StageRec.gap } } ∧
            r.groups = s.part.rt.groups ∧ r.mode = s.part.rt.mode) ∧
          (x ≠ c.stage → s.part.endsCleanly c.stage x →
            ∃ r, exec (.goStage h [b]) s = .next (s.withRt (answer e f .accepted r)) ∧
              stageEnded e s.part.rt r c.stage x .goStage ∧ r.stage.pendingGo = none))) ∧
      (∀ c x, s.part.rt.inRun e .directed c → s.part.rt.stage.pendingGo = some x → x ≠ c.stage → b = 1#8 →
        holdInEffect e s.part.rt = false → s.part.endsCleanly c.stage x →
        ∃ r, exec (.hold h [b]) s = .next (s.withRt (answer e k .accepted r)) ∧
          stageEnded e s.part.rt r c.stage x .goStage ∧ r.stage.pendingGo = none ∧ r.stage.hold = false))

/-- PLAN_SELECT: BAD_INDEX, NOT_LOADED, and in STARTUP, RUNNING and SHUTDOWN CHECK_FAILED with the inconsistency, in this
order; else the active plan becomes the named plan at once and nothing else changes (R64). -/
def Obligations.PlanSelectTests : Prop :=
  ∀ (s : State) (h : Header) (b : Byte), let e := s.part.env; let f := controlFrame h 4 [b]
    let r0 := s.part.arrived .head
    Delivered s.part f →
    (planOf b = none → exec (.planSelect h [b]) s = .next (s.withRt (answer e f ⟨.badIndex, []⟩ r0))) ∧
    (∀ p, planOf b = some p →
      (e.tab.plans.get p = none → exec (.planSelect h [b]) s = .next (s.withRt (answer e f ⟨.notLoaded, []⟩ r0))) ∧
      (∀ x c, e.tab.plans.get p = some x → stagesRun s.part.rt.mode.mode = true → checkPlan e.tab p (some x) = some c →
        exec (.planSelect h [b]) s = .next (s.withRt (answer e f ⟨.checkFailed, c.bytes⟩ r0))) ∧
      (∀ x, e.tab.plans.get p = some x →
        (stagesRun s.part.rt.mode.mode = true → checkPlan e.tab p (some x) = none) →
        exec (.planSelect h [b]) s = .next (s.withRt (answer e f .accepted
          { r0 with stage := { r0.stage with activePlan := p } }))))

/-- SOFT_DEMAND: BAD_INDEX, WRONG_MODE, NOT_LOADED, BAD_ENTRY in this order; else a set (coded 0) adds SOFT when the group
is not in GREEN, a clear (coded 1) removes it; LOOP, BUTTON and the non-locking count stay, as does every other group
(R122). The codes of set and clear are read from R178 by inference (log entry 14). A set for a group outside the current
stage starts a stopped max-green timer at that moment: M is the max green from it on, a max green below the min stage time
and an M before the min-end raised, and a timer that runs stays (R69); the stage goes on in STAGE_MIN. In STAGE_RUN under
AUTONOMOUS, without offers, it ends the stage at that moment when gap-out counts or M is reached, another stage of the
sequence then has demand and there is a next stage (R72); else the stage goes on. When a gap-out of that very moment counts,
and what the stage's record notes of it, is the model's choice (log entry 46). -/
def Obligations.SoftDemandTests : Prop :=
  ∀ (s : State) (h : Header) (b v : Byte), let e := s.part.env; let f := controlFrame h 5 [b, v]
    let r0 := s.part.arrived .head
    Delivered s.part f →
    (groupOf b = none → exec (.softDemand h [b, v]) s = .next (s.withRt (answer e f ⟨.badIndex, []⟩ r0))) ∧
    (∀ g, groupOf b = some g →
      (stagesRun s.part.rt.mode.mode = false →
        exec (.softDemand h [b, v]) s = .next (s.withRt (answer e f ⟨.wrongMode, []⟩ r0))) ∧
      (stagesRun s.part.rt.mode.mode = true → e.tab.isDefined g = false →
        exec (.softDemand h [b, v]) s = .next (s.withRt (answer e f ⟨.notLoaded, []⟩ r0))) ∧
      (stagesRun s.part.rt.mode.mode = true → e.tab.isDefined g = true → v ≠ 0#8 → v ≠ 1#8 →
        exec (.softDemand h [b, v]) s = .next (s.withRt (answer e f ⟨.badEntry, []⟩ r0))) ∧
      (stagesRun s.part.rt.mode.mode = true → e.tab.isDefined g = true → v = 0#8 ∨ v = 1#8 → s.part.still →
        ∃ r, exec (.softDemand h [b, v]) s = .next (s.withRt (answer e f .accepted r)) ∧
          r.demand.groups.get g = { s.part.rt.demand.groups.get g with
            soft := if v = 1#8 then false
              else if (s.part.rt.groups.get g).state = .green then (s.part.rt.demand.groups.get g).soft else true } ∧
          (∀ k : Group, k ≠ g → r.demand.groups.get k = s.part.rt.demand.groups.get k) ∧
          r.demand.assigns = s.part.rt.demand.assigns ∧ r.groups = s.part.rt.groups ∧ r.mode = s.part.rt.mode) ∧
      ∀ (c : StageRec) (w : Taken) (u1 : Rt) (m : Time), stagesRun s.part.rt.mode.mode = true → e.tab.isDefined g = true →
        v = 0#8 → (s.part.rt.groups.get g).state ≠ .green → s.part.rt.notices = [] → s.part.rt.stage.current = some c →
        e.tab.inStage c.stage g = false → s.part.rt.stage.taken = some w →
        u1 = { r0 with demand := { r0.demand with groups := upd r0.demand.groups g fun d => { d with soft := true } } } →
        m = c.maxOut.getD (laterOf e.now
          (e.now + BitVec.ofNat 32 (max (w.maxGreen.get c.stage) (e.tab.minStage c.stage))) c.minEnd) →
        (s.part.rt.stage.phase = .stageMin →
          ∃ r, exec (.softDemand h [b, v]) s = .next (s.withRt (answer e f .accepted r)) ∧ r.stage.phase = .stageMin ∧
            r.stage.current = some { c with maxOut := some m, gap := r.stage.current.bind StageRec.gap }) ∧
        (s.part.rt.stage.phase = .stageRun → s.part.rt.mode.mode = .running → s.part.rt.mode.source = .autonomous →
          s.part.rt.priority.queue = [] → s.part.rt.priority.holdOffer = none → s.part.rt.priority.truncOffer = none →
          let ripe := gapCounts e u1 = true ∨ reached e.now m = true
          (∀ x, ripe → demandElsewhere e u1 = true → nextAutonomous e u1 = some x → s.part.endsCleanly c.stage x →
            ∃ r, exec (.softDemand h [b, v]) s = .next (s.withRt (answer e f .accepted r)) ∧
              stageEnded e u1 r c.stage x (if reached e.now m then .max else .gap)) ∧
          (reached e.now m = false → ¬ (ripe ∧ demandElsewhere e u1 = true ∧ nextAutonomous e u1 ≠ none) →
            ∃ r, exec (.softDemand h [b, v]) s = .next (s.withRt (answer e f .accepted r)) ∧
              goesOn u1 r { c with maxOut := some m })))

/-- PRIORITY_ENABLE: a value other than on (coded 0) and off (coded 1) is refused with BAD_ENTRY. Off from on empties the
queue and withdraws both offers, on from off rebuilds the queue from the tram table, a repeated value leaves it; the
records, the lockout and the served counts stay (R148); the codes of on and off are read from R178 by inference (log entry
14). A rebuilt queue holds exactly the queueable records, in the order of R146, stamps being compared by their ages at the
present time (log entry 2), and a record notice for a slot keeps that order (R147). The offers as recomputed (R150): absent
outside a stage of RUNNING under AUTONOMOUS or DIRECTED; the truncation under AUTONOMOUS alone, present exactly when R153
says so, at the later of min-end and E1 minus the lead (R151), toward the target of R152; the hold at the latest hold moment
of the covered records (R154, R155). The junction of the off, on and repeated values is one where the Stage Engine has nothing to
act on (`Part.still`); what they do in STAGE_RUN is RunningStageReadsConditions'. -/
def Obligations.PriorityEnableTests : Prop :=
  (∀ (s : State) (h : Header) (b : Byte), let e := s.part.env; let f := controlFrame h 6 [b]
    Delivered s.part f →
    (b ≠ 0#8 → b ≠ 1#8 →
      exec (.priorityEnable h [b]) s = .next (s.withRt (answer e f ⟨.badEntry, []⟩ (s.part.arrived .head)))) ∧
    (b = 0#8 ∨ b = 1#8 → s.part.still →
      ∃ r, exec (.priorityEnable h [b]) s = .next (s.withRt (answer e f .accepted r)) ∧
        r.priority.enable = decide (b = 0#8) ∧
        (b = 1#8 → s.part.rt.priority.enable = true →
          r.priority.queue = [] ∧ r.priority.holdOffer = none ∧ r.priority.truncOffer = none) ∧
        (b = 0#8 → s.part.rt.priority.enable = false → r.priority.queue = rebuildQueue e.now true s.part.rt.trams) ∧
        (s.part.rt.priority.enable = decide (b = 0#8) → r.priority.queue = s.part.rt.priority.queue) ∧
        r.priority.served = s.part.rt.priority.served ∧ r.priority.lockoutDue = s.part.rt.priority.lockoutDue ∧
        r.trams = s.part.rt.trams ∧ r.mode = s.part.rt.mode ∧ r.groups = s.part.rt.groups)) ∧
  (∀ (now : Time) (trams : Vector (Option TramRec) 8), windowed trams →
    queueOrdered now trams (rebuildQueue now true trams) ∧
    (∀ k x, trams.get k = some x → queueable x = true → k ∈ rebuildQueue now true trams) ∧
    ∀ (q : List TramSlot) (k : TramSlot), queueOrdered now trams (q.filter (· ≠ k)) →
      queueOrdered now trams (requeue now true trams k q) ∧ (∀ j, j ≠ k → (j ∈ requeue now true trams k q ↔ j ∈ q)) ∧
      ∀ x, trams.get k = some x → queueable x = true → k ∈ requeue now true trams k q) ∧
  (∀ (e : Env) (r : Rt), let o := recomputeOffers e r
    o = { r with priority := { r.priority with holdOffer := o.priority.holdOffer, truncOffer := o.priority.truncOffer } } ∧
    (r.mode.mode ≠ .running ∨ r.inStagePhase = false ∨ r.mode.source = .manual ∨ r.mode.source = .none →
      o.priority.holdOffer = none ∧ o.priority.truncOffer = none) ∧
    (r.mode.source ≠ .autonomous ∨ r.priority.queue = [] → o.priority.truncOffer = none) ∧
    ∀ c, r.mode.mode = .running → r.inStagePhase = true → r.stage.current = some c →
      (r.mode.source = .autonomous → ∀ k x e1 lead, r.priority.queue.head? = some k → r.trams.get k = some x →
        x.e1 = some e1 →
        let crossing := (e.tab.greenSet c.stage).filter fun i => e.tab.conflicts i x.group
        let times := e.tab.ra x.group :: crossing.map fun i => e.tab.ig i x.group
        let fits := fun s => e.tab.isDefined x.group && e.tab.inStage s x.group && e.tab.permits c.stage s
        lead ∈ times → (∀ n ∈ times, n ≤ lead) →
        (e.tab.inStage c.stage x.group = true ∨ r.priority.lockoutDue ≠ none ∧ x.level ≠ 3 →
          o.priority.truncOffer = none) ∧
        (e.tab.inStage c.stage x.group = false → r.priority.lockoutDue = none ∨ x.level = 3 →
          o.priority.truncOffer = (((searchOrder r).find? fits).or (x.priorityStage.filter fits)).map fun s =>
            ⟨laterOf e.now c.minEnd (e1 - BitVec.ofNat 32 (lead + e.tab.settings.allowance)), s, k, x.level⟩)) ∧
      (r.mode.source = .autonomous ∨ r.mode.source = .directed →
        let covered := fun k (x : TramRec) => k ∈ r.priority.queue ∧ r.trams.get k = some x ∧
          e.tab.inStage c.stage x.group = true ∧ ∀ t, o.priority.truncOffer = some t → t.level ≤ x.level
        let limit := match r.stage.taken with | some v => v.extLimit | none => 0
        let moment := fun (x : TramRec) => x.e2.map fun e2 =>
          match c.maxOut with | some m => earlierOf e.now e2 (m + BitVec.ofNat 32 (min x.maxExt limit)) | none => e2
        (∀ w, o.priority.holdOffer = some w → ∃ x, covered w.slot x ∧ moment x = some w.holdTo ∧ w.level = x.level ∧
          ∀ k y t, covered k y → moment y = some t → back e.now w.holdTo ≤ back e.now t) ∧
        (o.priority.holdOffer = none → ∀ k x, covered k x → x.e2 = none))) ∧
  ∀ now a b : Time, (laterOf now a b = a ∨ laterOf now a b = b) ∧ (earlierOf now a b = a ∨ earlierOf now a b = b) ∧
    back now (laterOf now a b) = min (back now a) (back now b) ∧
    back now (earlierOf now a b) = max (back now a) (back now b)

/-- CANCEL_TRAM: a line outside 1 to 999 or a run outside 1 to 9999 is refused with BAD_ENTRY, a line and run that no record
holds with NOT_LOADED; else the record leaves its slot and the queue, and TRAM_CHECKOUT is posted with the cause COMMAND
and the record's green given; every other record stays (R140, R141, R143, R147). The event's codes, COMMAND 2 and green given 0
for yes, are read from R178 by inference (log entry 14). The removal is stated where the Stage Engine has nothing to act on
(`Part.still`); in STAGE_RUN it is RunningStageReadsConditions'. -/
def Obligations.CancelTramRemovesRecord : Prop :=
  ∀ (s : State) (h : Header) (l1 l0 n1 n0 : Byte), let e := s.part.env; let f := controlFrame h 7 [l1, l0, n1, n0]
    let r0 := s.part.arrived .head
    Delivered s.part f →
    (¬ (1 ≤ num [l1, l0] ∧ num [l1, l0] ≤ 999 ∧ 1 ≤ num [n1, n0] ∧ num [n1, n0] ≤ 9999) →
      exec (.cancelTram h [l1, l0, n1, n0]) s = .next (s.withRt (answer e f ⟨.badEntry, []⟩ r0))) ∧
    (1 ≤ num [l1, l0] ∧ num [l1, l0] ≤ 999 ∧ 1 ≤ num [n1, n0] ∧ num [n1, n0] ≤ 9999 →
      (tramSlot s.part.rt (num [l1, l0]) (num [n1, n0]) = none →
        exec (.cancelTram h [l1, l0, n1, n0]) s = .next (s.withRt (answer e f ⟨.notLoaded, []⟩ r0))) ∧
      (∀ k x, tramSlot s.part.rt (num [l1, l0]) (num [n1, n0]) = some k → s.part.rt.trams.get k = some x →
        s.part.still →
        ∃ r, exec (.cancelTram h [l1, l0, n1, n0]) s = .next (s.withRt (answer e f .accepted r)) ∧
          r.trams.get k = none ∧ (∀ j : TramSlot, j ≠ k → r.trams.get j = s.part.rt.trams.get j) ∧
          k ∉ r.priority.queue ∧
          r.report = (post e .tramCheckout (b8 k.val) ([0#8, 2#8] ++ encFirst x.greenGiven) r0).report ∧
          r.mode = s.part.rt.mode ∧ r.groups = s.part.rt.groups))

/-- KEEPALIVE_ARM is accepted in every keepalive state and answered OK: from INACTIVE or ACTIVE it becomes ARMED, remembers
the state it left and starts the arm timer, due 2.0 s after the arrival; in ARMED the arm timer restarts and the
remembered state is kept. The window timer is neither started, stopped nor restarted (R56). KEEPALIVE_REFRESH in ARMED:
ACTIVE, the arm timer stopped, the remembered state dropped, the window timer due the window length after the arrival. In
INACTIVE or ACTIVE: NO_KEEPALIVE, the keepalive as it was, the owner-violation flag set (R55, R57). -/
def Obligations.KeepaliveFrames : Prop :=
  (∀ (s : State) (h : Header), let e := s.part.env; let f := h.frame kindKeepaliveArm []; let k := s.part.rt.mode.keep
    Delivered s.part f →
    exec (.keepaliveArm h []) s = .next (s.withRt (answer e f .accepted { s.part.arrived .head with
      mode := { s.part.rt.mode with
        keep :=
          { state := .armed, windowDue := k.windowDue, armDue := some (e.now + 20#32)
            remembered := if k.state = .armed then k.remembered else some k.state } } }))) ∧
  ∀ (s : State) (h : Header), let e := s.part.env; let f := h.frame kindKeepaliveRefresh []
    let r0 := s.part.arrived .head
    Delivered s.part f →
    (s.part.rt.mode.keep.state = .armed →
      exec (.keepaliveRefresh h []) s = .next (s.withRt (answer e f .accepted { r0 with
        mode := { r0.mode with
          keep :=
            { state := .active, armDue := none, remembered := none
              windowDue := some (e.now + BitVec.ofNat 32 (10 * e.tab.settings.keepaliveWindow)) } } }))) ∧
    (s.part.rt.mode.keep.state ≠ .armed →
      exec (.keepaliveRefresh h []) s = .next (s.withRt (answer e f ⟨.noKeepalive, []⟩
        { r0 with mode := { r0.mode with ownerViolation := true } })))

/-- The keepalive's timers (R58): the window timer's expiry, and the arm timer's when the remembered state is not ACTIVE,
make the keepalive INACTIVE, post KEEPALIVE_LAPSE and return DIRECTED to AUTONOMOUS with the pending GO_STAGE and HOLD
dropped; an arm timer that returns to ACTIVE is no lapse and leaves the window running. They are stated where the Stage Engine has
nothing to act on (`Part.still`); in STAGE_RUN they are RunningStageReadsConditions'. -/
def Obligations.KeepaliveTimersLapse : Prop :=
  (∀ s : State, s.part.rt.mode.keep.state ≠ .inactive →
    isDue s.part.env.now s.part.rt.mode.keep.windowDue = true → s.part.still →
    ∃ t, exec .keepaliveWindowExpiry s = .next t ∧ keepaliveLapsed s t ∧ t.part.rt.report.summary.getLsbD 15 = true) ∧
  (∀ s : State, s.part.rt.mode.keep.state = .armed → isDue s.part.env.now s.part.rt.mode.keep.armDue = true →
    s.part.still → s.part.rt.mode.keep.remembered ≠ some .active →
    ∃ t, exec .keepaliveArmExpiry s = .next t ∧ keepaliveLapsed s t ∧ t.part.rt.report.summary.getLsbD 15 = true) ∧
  (∀ s : State, s.part.rt.mode.keep.state = .armed → isDue s.part.env.now s.part.rt.mode.keep.armDue = true →
    s.part.still → s.part.rt.mode.keep.remembered = some .active →
    ∃ t, exec .keepaliveArmExpiry s = .next t ∧ t.pending = s.pending ∧ t.part.env = s.part.env ∧
      t.part.rt.mode = { s.part.rt.mode with
        keep := ⟨.active, s.part.rt.mode.keep.windowDue, none, none⟩ } ∧
      t.part.rt.report = s.part.rt.report ∧ t.part.rt.groups = s.part.rt.groups)

/-! ### Tables and queries (chapters 2, 10, 11) -/

/-- In STARTUP, RUNNING and SHUTDOWN a TABLE_WRITE of any safety table is refused with FENCED, whatever its index and entry,
and changes nothing (R22, R23, R189). -/
def Obligations.SafetyWritesAreFenced : Prop :=
  ∀ (s : State) (h : Header) (rest : List Byte), let e := s.part.env; let r0 := s.part.arrived .head
    let fenced := fun c => s.withRt (answer e (h.frame kindTableWrite (b8 c :: rest)) ⟨.fenced, []⟩ r0)
    s.part.rt.mode.mode = .startup ∨ s.part.rt.mode.mode = .running ∨ s.part.rt.mode.mode = .shutdown →
    Delivered s.part (h.frame kindTableWrite (0#8 :: rest)) →
    (rest.length = 12 → exec (.tableWriteGroup h rest) s = .next (fenced 0)) ∧
    (rest.length = 4 → exec (.tableWriteConflict h rest) s = .next (fenced 1) ∧
      exec (.tableWriteIntergreen h rest) s = .next (fenced 2) ∧
      exec (.tableWritePermitted h rest) s = .next (fenced 4)) ∧
    (rest.length = 10 → exec (.tableWriteStage h rest) s = .next (fenced 3))

/-- In DARK and FLASH an accepted write of a conflict pair, an intergreen, a stage or a permitted transition stores the
entry it carries, or empties it (marker 0), leaves every other entry of that table and every other table as it was, and
changes no block but by the answer OK (R18 to R22, R188, R189). A write whose index is out of range is refused with
BAD_INDEX, else one whose marker or entry is not the table's with BAD_ENTRY, and a refused write changes nothing. Which bytes
`markedEntry` takes for an entry, range by range, is StoredEntriesReadBack's. -/
def Obligations.SafetyWritesStore : Prop :=
  (∀ (s : State) (h : Header) (i1 i2 m : Byte) (entry : List Byte), let e := s.part.env
    let w : WriteOperand := ⟨i1, i2, m, entry⟩; let rest := i1 :: i2 :: m :: entry
    let refused := fun (c : Nat) (x : ResultCode) =>
      s.withRt (answer e (h.frame kindTableWrite (b8 c :: rest)) ⟨x, []⟩ (s.part.arrived .head))
    s.part.rt.mode.mode = .dark ∨ s.part.rt.mode.mode = .flash → Delivered s.part (h.frame kindTableWrite (0#8 :: rest)) →
    (entry.length = 1 →
      (groupOf i1 = none ∨ groupOf i2 = none →
        exec (.tableWriteConflict h rest) s = .next (refused 1 .badIndex) ∧
        exec (.tableWriteIntergreen h rest) s = .next (refused 2 .badIndex)) ∧
      (stageOf i1 = none ∨ stageOf i2 = none → exec (.tableWritePermitted h rest) s = .next (refused 4 .badIndex)) ∧
      (groupOf i1 ≠ none → groupOf i2 ≠ none →
        (markedEntry w parseFlag = none → exec (.tableWriteConflict h rest) s = .next (refused 1 .badEntry)) ∧
        (markedEntry w parseIntergreen = none → exec (.tableWriteIntergreen h rest) s = .next (refused 2 .badEntry))) ∧
      (stageOf i1 ≠ none → stageOf i2 ≠ none → markedEntry w parseFlag = none →
        exec (.tableWritePermitted h rest) s = .next (refused 4 .badEntry))) ∧
    (entry.length = 7 →
      (stageOf i1 = none ∨ i2 ≠ 0#8 → exec (.tableWriteStage h rest) s = .next (refused 3 .badIndex)) ∧
      (stageOf i1 ≠ none → i2 = 0#8 → markedEntry w parseStage = none →
        exec (.tableWriteStage h rest) s = .next (refused 3 .badEntry)))) ∧
  ∀ (s : State) (h : Header) (i1 i2 m : Byte) (entry : List Byte), let e := s.part.env; let r0 := s.part.arrived .head
    let w : WriteOperand := ⟨i1, i2, m, entry⟩
    s.part.rt.mode.mode = .dark ∨ s.part.rt.mode.mode = .flash →
    Delivered s.part (h.frame kindTableWrite (0#8 :: i1 :: i2 :: m :: entry)) →
    (∀ a b x, groupOf i1 = some a → groupOf i2 = some b → markedEntry w parseFlag = some x → entry.length = 1 →
      ∃ v, exec (.tableWriteConflict h (i1 :: i2 :: m :: entry)) s = .next { s with
        part :=
          { env := { e with tab := { e.tab with conflict := v } }
            rt := answer e (h.frame kindTableWrite (1#8 :: i1 :: i2 :: m :: entry)) .accepted r0 } } ∧
        ∀ i j : Group, (v.get i).get j = if i = a ∧ j = b then x else (e.tab.conflict.get i).get j) ∧
    (∀ a b x, groupOf i1 = some a → groupOf i2 = some b → markedEntry w parseIntergreen = some x → entry.length = 1 →
      ∃ v, exec (.tableWriteIntergreen h (i1 :: i2 :: m :: entry)) s = .next { s with
        part :=
          { env := { e with tab := { e.tab with intergreen := v } }
            rt := answer e (h.frame kindTableWrite (2#8 :: i1 :: i2 :: m :: entry)) .accepted r0 } } ∧
        ∀ i j : Group, (v.get i).get j = if i = a ∧ j = b then x else (e.tab.intergreen.get i).get j) ∧
    (∀ a x, stageOf i1 = some a → i2 = 0#8 → markedEntry w parseStage = some x → entry.length = 7 →
      ∃ v, exec (.tableWriteStage h (i1 :: i2 :: m :: entry)) s = .next { s with
        part :=
          { env := { e with tab := { e.tab with stages := v } }
            rt := answer e (h.frame kindTableWrite (3#8 :: i1 :: i2 :: m :: entry)) .accepted r0 } } ∧
        ∀ i : Stage, v.get i = if i = a then x else e.tab.stages.get i) ∧
    (∀ a b x, stageOf i1 = some a → stageOf i2 = some b → markedEntry w parseFlag = some x → entry.length = 1 →
      ∃ v, exec (.tableWritePermitted h (i1 :: i2 :: m :: entry)) s = .next { s with
        part :=
          { env := { e with tab := { e.tab with permitted := v } }
            rt := answer e (h.frame kindTableWrite (4#8 :: i1 :: i2 :: m :: entry)) .accepted r0 } } ∧
        ∀ i j : Stage, (v.get i).get j = if i = a ∧ j = b then x else (e.tab.permitted.get i).get j)

/-- An accepted write of a group entry in DARK or FLASH (R2, R8, R164): the entry stored, every other table entry as it was;
in DARK no group changes state, in FLASH the group takes the state a flash order would give it and no other group
changes; the module records are those of the mapped modules in ascending address; mode, stage, demand, loops and trams
are as before. A write of an index out of range is refused with BAD_INDEX, else one of a marker or entry that is not a
group's with BAD_ENTRY, and changes nothing (R189). The ranges by type are StoredEntriesReadBack's. -/
def Obligations.GroupWriteStores : Prop :=
  (∀ (s : State) (h : Header) (i1 i2 m : Byte) (entry : List Byte), let e := s.part.env
    let rest := i1 :: i2 :: m :: entry; let f := h.frame kindTableWrite (0#8 :: rest)
    s.part.rt.mode.mode = .dark ∨ s.part.rt.mode.mode = .flash → Delivered s.part f → entry.length = 9 →
    (groupOf i1 = none ∨ i2 ≠ 0#8 →
      exec (.tableWriteGroup h rest) s = .next (s.withRt (answer e f ⟨.badIndex, []⟩ (s.part.arrived .head)))) ∧
    (groupOf i1 ≠ none → i2 = 0#8 → markedEntry ⟨i1, i2, m, entry⟩ (parseGroup e.own) = none →
      exec (.tableWriteGroup h rest) s = .next (s.withRt (answer e f ⟨.badEntry, []⟩ (s.part.arrived .head))))) ∧
  ∀ (s : State) (h : Header) (i1 m : Byte) (entry : List Byte) (g : Group) (x : Option GroupEntry)
    (tab' : Tables), let e := s.part.env
    let f := h.frame kindTableWrite (0#8 :: i1 :: 0#8 :: m :: entry)
    s.part.rt.mode.mode = .dark ∨ s.part.rt.mode.mode = .flash → Delivered s.part f → entry.length = 9 →
    groupOf i1 = some g → markedEntry ⟨i1, 0#8, m, entry⟩ (parseGroup e.own) = some x →
    tab' = { e.tab with groups := tab'.groups } →
    (∀ k : Group, tab'.groups.get k = if k = g then x else e.tab.groups.get k) →
    ∃ r, exec (.tableWriteGroup h (i1 :: 0#8 :: m :: entry)) s = .next { s with
        part := { env := { e with tab := tab' }, rt := answer { e with tab := tab' } f .accepted r } } ∧
      (∀ k : Group, (r.groups.get k).state =
        if k = g ∧ s.part.rt.mode.mode = .flash then flashState tab' g else (s.part.rt.groups.get k).state) ∧
      r.lamp.modules.map ModuleRec.addr = tab'.mappedModules ∧ r.mode = s.part.rt.mode ∧ r.stage = s.part.rt.stage ∧
      r.demand = s.part.rt.demand ∧ r.loops = s.part.rt.loops ∧ r.trams = s.part.rt.trams ∧
      r.priority = s.part.rt.priority

/-- Accepted writes of the operating tables and the settings store one entry and leave every other as it was. A plan
(outside STARTUP, RUNNING and SHUTDOWN, or not the active one: R62, R63) and a route (R132) change no block; the settings
change the Lamp Interface alone (R175, R191); a button the transmit class of its BUTTON_LAMP alone (R123); an assignment,
while the Stage Engine has nothing else to act on, the Demand Unit, the max-green timer and the offers (R113, R115). A write
of the active plan in STARTUP, RUNNING and SHUTDOWN is refused with CHECK_FAILED and the inconsistency that steps 5 and 6
find in the entry carried, and is stored when they find none (R63). A write whose index is out of range is refused with
BAD_INDEX, else one whose marker or entry is not the table's, or that repeats another entry's key, with BAD_ENTRY (R113,
R123, R132, R175, R189); a refused write changes nothing. The ranges are StoredEntriesReadBack's; what a stored assignment or
button does to demand and lamps is AssignmentAndButtonWritesTakeEffect's. -/
def Obligations.OperatingWritesStore : Prop :=
  (∀ (s : State) (h : Header) (i1 i2 m : Byte) (entry : List Byte), let e := s.part.env
    let w : WriteOperand := ⟨i1, i2, m, entry⟩; let rest := i1 :: i2 :: m :: entry
    let refused := fun (c : Nat) (x : ResultCode) =>
      s.withRt (answer e (h.frame kindTableWrite (b8 c :: rest)) ⟨x, []⟩ (s.part.arrived .head))
    Delivered s.part (h.frame kindTableWrite (0#8 :: rest)) →
    (entry.length = 81 → let i := .tableWritePlan h rest
      (planOf i1 = none ∨ i2 ≠ 0#8 → exec i s = .next (refused 5 .badIndex)) ∧
      (planOf i1 ≠ none → i2 = 0#8 → markedEntry w parsePlan = none → exec i s = .next (refused 5 .badEntry))) ∧
    (entry.length = 4 → let i := .tableWriteAssignment h rest
      (assignOf i1 = none ∨ i2 ≠ 0#8 → exec i s = .next (refused 7 .badIndex)) ∧
      (∀ a, assignOf i1 = some a → i2 = 0#8 → markedEntry w parseAssign = none ∨
        (∃ y, markedEntry w parseAssign = some (some y) ∧ assignUnique e.tab a y = false) →
        exec i s = .next (refused 7 .badEntry))) ∧
    (entry.length = 3 → let i := .tableWriteButton h rest
      (entryOf i1 = none ∨ i2 ≠ 0#8 → exec i s = .next (refused 8 .badIndex)) ∧
      (∀ n, entryOf i1 = some n → i2 = 0#8 → markedEntry w (parseButton e.own) = none ∨
        (∃ y, markedEntry w (parseButton e.own) = some (some y) ∧ buttonUnique e.tab n y = false) →
        exec i s = .next (refused 8 .badEntry))) ∧
    (entry.length = 20 → let i := .tableWriteRoute h rest
      (entryOf i1 = none ∨ i2 ≠ 0#8 → exec i s = .next (refused 9 .badIndex)) ∧
      (∀ n, entryOf i1 = some n → i2 = 0#8 → markedEntry w parseRoute = none ∨
        (∃ y, markedEntry w parseRoute = some (some y) ∧ routeUnique e.tab n y = false) →
        exec i s = .next (refused 9 .badEntry))) ∧
    (entry.length = 16 → let i := .tableWriteSettings h rest
      (i1 ≠ 0#8 ∨ i2 ≠ 0#8 → exec i s = .next (refused 10 .badIndex)) ∧
      (i1 = 0#8 → i2 = 0#8 → m ≠ 1#8 ∨ parseSettings e.own entry = none → exec i s = .next (refused 10 .badEntry)))) ∧
  (∀ (s : State) (h : Header) (i1 m : Byte) (entry : List Byte) (p : Plan) (x : Option PlanEntry), let e := s.part.env
    let r0 := s.part.arrived .head; let rest := i1 :: 0#8 :: m :: entry; let f := h.frame kindTableWrite (5#8 :: rest)
    Delivered s.part f → planOf i1 = some p → markedEntry ⟨i1, 0#8, m, entry⟩ parsePlan = some x → entry.length = 81 →
    stagesRun s.part.rt.mode.mode = true → p = s.part.rt.stage.activePlan →
    (∀ c, checkPlan e.tab p x = some c →
      exec (.tableWritePlan h rest) s = .next (s.withRt (answer e f ⟨.checkFailed, c.bytes⟩ r0))) ∧
    (checkPlan e.tab p x = none →
      ∃ v, exec (.tableWritePlan h rest) s = .next { s with
        part := { env := { e with tab := { e.tab with plans := v } }, rt := answer e f .accepted r0 } } ∧
        ∀ k : Plan, v.get k = if k = p then x else e.tab.plans.get k)) ∧
  ∀ (s : State) (h : Header) (i1 m : Byte) (entry : List Byte), let e := s.part.env; let r0 := s.part.arrived .head
    let f := fun c => h.frame kindTableWrite (b8 c :: i1 :: 0#8 :: m :: entry)
    let w : WriteOperand := ⟨i1, 0#8, m, entry⟩; let rest := i1 :: 0#8 :: m :: entry
    Delivered s.part (f 0) →
    (∀ p x, planOf i1 = some p → markedEntry w parsePlan = some x → entry.length = 81 →
      stagesRun s.part.rt.mode.mode = false ∨ p ≠ s.part.rt.stage.activePlan →
      ∃ v, exec (.tableWritePlan h rest) s = .next { s with
        part := { env := { e with tab := { e.tab with plans := v } }, rt := answer e (f 5) .accepted r0 } } ∧
        ∀ k : Plan, v.get k = if k = p then x else e.tab.plans.get k) ∧
    (∀ n x, entryOf i1 = some n → markedEntry w parseRoute = some x → entry.length = 20 →
      (∀ y, x = some y → routeUnique e.tab n y = true) →
      ∃ v, exec (.tableWriteRoute h rest) s = .next { s with
        part := { env := { e with tab := { e.tab with routes := v } }, rt := answer e (f 9) .accepted r0 } } ∧
        ∀ k : Entry, v.get k = if k = n then x else e.tab.routes.get k) ∧
    (∀ x, i1 = 0#8 → m = 1#8 → parseSettings e.own entry = some x → entry.length = 16 →
      ∃ lamp, exec (.tableWriteSettings h rest) s = .next { s with
        part :=
          { env := { e with tab := { e.tab with settings := x } }
            rt := answer e (f 10) .accepted { r0 with lamp := lamp } } } ∧
        lamp.modules = s.part.rt.lamp.modules ∧ lamp.brightness = s.part.rt.lamp.brightness ∧
        (e.tab.settings.sensorA ≠ x.sensorA → lamp.sensorA = {}) ∧ (e.tab.settings.sensorB ≠ x.sensorB → lamp.sensorB = {})) ∧
    (∀ n x, entryOf i1 = some n → markedEntry w (parseButton e.own) = some x → entry.length = 3 →
      (∀ y, x = some y → buttonUnique e.tab n y = true) →
      ∃ v r, exec (.tableWriteButton h rest) s = .next { s with
        part := { env := { e with tab := { e.tab with buttons := v } }, rt := answer e (f 8) .accepted r } } ∧
        (∀ k : Entry, v.get k = if k = n then x else e.tab.buttons.get k) ∧
        r = { r0 with ring := { r0.ring with aux := r.ring.aux }, report := r.report }) ∧
    (∀ a x, assignOf i1 = some a → markedEntry w parseAssign = some x → entry.length = 4 →
      (∀ y, x = some y → assignUnique e.tab a y = true) → s.part.still →
      ∃ v r, exec (.tableWriteAssignment h rest) s = .next { s with
        part := { env := { e with tab := { e.tab with assigns := v } }, rt := answer e (f 7) .accepted r } } ∧
        (∀ k : Assign, v.get k = if k = a then x else e.tab.assigns.get k) ∧
        r = { r0 with
          demand := r.demand
          stage := { r0.stage with current := r.stage.current }
          priority := { r0.priority with holdOffer := r.priority.holdOffer, truncOffer := r.priority.truncOffer } } ∧
        sameStage s.part.rt r)

/-- What a stored assignment and a stored button entry do at once. How an assignment sees its loop is R114's table. An accepted
assignment write first withdraws the old entry (R115): its delay timer stops; where it gave, it stops and its group's
non-locking count falls by one (R118); where it held the gap timer and no other extension entry of the group holds, the timer
runs from now (R120); what it has latched stays. The new entry is then evaluated, while the Demand Unit is active and its
group defined, against its loop's condition and its group's state as if just reached: with the group not in GREEN, a demand
entry on an occupied loop starts its delay, or acts at once for a delay of 0, and on a fault-occupied loop acts at once,
latching LOOP, or giving and counted for a non-locking entry (R116 to R118); an extension entry on an occupied loop restarts the
gap timer unless HELD, and on a fault-occupied one holds it (R120). That the loop's other assignments stay as they are is the model's
choice (log entry 50). In STAGE_RUN the end conditions are then read (R72; gap-out of that very moment is log entry 46). The
premise that an empty entry has an empty record is CapacitiesKeptByStep's. A button write that changes its entry hands an unlit
BUTTON_LAMP to the old button and a lit one to the new, where their groups' indicators are lit, and no frame else (R123);
their order is log entry 42, lit coded 0 is read from R178 by inference (log entry 14), and the frames' flags are log entry 43. -/
def Obligations.AssignmentAndButtonWritesTakeEffect : Prop :=
  (∀ (e : Env) (r : Rt) (l : Loop), let x := (r.loops.recs.get l).state
    (x = .unused → loopView e r l = .absent) ∧ (x = .occupied → loopView e r l = .occupied) ∧
    (x = .clear → loopView e r l = .clear) ∧
    ∀ y, e.tab.loops.get l = some y → x = .waitingTune ∨ x = .tuning ∨ x = .settling ∨ x = .fault →
      loopView e r l = if y.faultMode = .demand then .faultOccupied else .clear) ∧
  (∀ (s : State) (h : Header) (i1 m : Byte) (entry : List Byte) (a : Assign) (x : Option AssignEntry), let e := s.part.env
    let u := s.part.rt; let r0 := s.part.arrived .head
    let rest := i1 :: 0#8 :: m :: entry; let f := h.frame kindTableWrite (7#8 :: rest)
    let extends' := fun (z : AssignEntry) => z.function == .extend || z.function == .lockingAndExtend
    Delivered s.part f → assignOf i1 = some a → markedEntry ⟨i1, 0#8, m, entry⟩ parseAssign = some x → entry.length = 4 →
    (∀ y, x = some y → assignUnique e.tab a y = true) → (e.tab.assigns.get a = none → u.demand.assigns.get a = {}) →
    ∃ (e' : Env) (r u1 : Rt) (d : DemandUnit),
      exec (.tableWriteAssignment h rest) s = .next { s with part := { env := e', rt := answer e' f .accepted r } } ∧
      e' = { e with tab := { e.tab with assigns := e'.tab.assigns } } ∧
      (∀ k : Assign, e'.tab.assigns.get k = if k = a then x else e.tab.assigns.get k) ∧
      u1 = { r0 with demand := u1.demand } ∧
      -- the old entry withdrawn
      d.active = u.demand.active ∧ d.assigns.get a = {} ∧
      (∀ k : Assign, k ≠ a → d.assigns.get k = u.demand.assigns.get k) ∧
      (let old := u.demand.assigns.get a
        let ofOld := fun (g : Group) => (e.tab.assigns.get a).any fun z => z.group == g
        let othersHold := fun (g : Group) => (List.finRange 64).any fun k => k != a && (u.demand.assigns.get k).holding &&
          (e.tab.assigns.get k).any fun z => z.group == g && extends' z
        ∀ g : Group, d.groups.get g = { u.demand.groups.get g with
          nonLocking := (u.demand.groups.get g).nonLocking - if ofOld g && old.giving then 1 else 0
          gap := if ofOld g && old.holding && !othersHold g
            then .running (e.now + BitVec.ofNat 32 (u.demand.groups.get g).gapTime) else (u.demand.groups.get g).gap }) ∧
      -- the new entry evaluated
      (u.demand.active = false ∨ x = none ∨ (∃ y, x = some y ∧ e.tab.isDefined y.group = false) → u1.demand = d) ∧
      (∀ y, x = some y → u.demand.active = true → e.tab.isDefined y.group = true →
        let occupied := loopView e u y.loop == .occupied; let faulty := loopView e u y.loop == .faultOccupied
        let wants := y.function != .extend && !u.isGreen y.group; let gives := y.function == .demandNonlocking
        let atOnce := wants && (faulty || (occupied && y.delay == 0))
        u1.demand.active = true ∧ (∀ k : Assign, k ≠ a → u1.demand.assigns.get k = d.assigns.get k) ∧
        u1.demand.assigns.get a =
          { delayDue := if wants && occupied && y.delay != 0 then some (e.now + BitVec.ofNat 32 y.delay) else none
            giving := atOnce && gives
            holding := extends' y && faulty } ∧
        (∀ g : Group, g ≠ y.group → u1.demand.groups.get g = d.groups.get g) ∧
        let was := d.groups.get y.group
        u1.demand.groups.get y.group = { was with
          loop := was.loop || (atOnce && !gives)
          nonLocking := was.nonLocking + if atOnce && gives then 1 else 0
          gap := if extends' y && faulty then .held
            else if extends' y && occupied && was.gap != .held then .running (e.now + BitVec.ofNat 32 was.gapTime)
            else was.gap }) ∧
      (s.part.still → r.demand = u1.demand) ∧
      ∀ c, u.runsStage c → conditionsRead e' u1 r c) ∧
  ∀ (s : State) (h : Header) (i1 m : Byte) (entry : List Byte) (n : Entry) (x : Option ButtonEntry), let e := s.part.env
    let u := s.part.rt; let r0 := s.part.arrived .head
    let rest := i1 :: 0#8 :: m :: entry; let f := h.frame kindTableWrite (8#8 :: rest)
    Delivered s.part f → entryOf i1 = some n → markedEntry ⟨i1, 0#8, m, entry⟩ (parseButton e.own) = some x →
    entry.length = 3 → (∀ y, x = some y → buttonUnique e.tab n y = true) →
    ∃ (e' : Env) (r : Rt),
      exec (.tableWriteButton h rest) s = .next { s with part := { env := e', rt := answer e' f .accepted r } } ∧
      e' = { e with tab := { e.tab with buttons := e'.tab.buttons } } ∧
      (∀ k : Entry, e'.tab.buttons.get k = if k = n then x else e.tab.buttons.get k) ∧
      (e.tab.buttons.get n = x → r = r0) ∧
      (e.tab.buttons.get n ≠ x →
        let lamp := fun (b : ButtonEntry) (code : Byte) (q : List Frame) => if (u.demand.groups.get b.group).button
          then classTake 32 q ⟨b.addr, e.own, kindButtonLamp, 0#8, [b8 b.index.val, code]⟩ else q
        let unlit := match e.tab.buttons.get n with | some b => lamp b 1#8 u.ring.aux | none => u.ring.aux
        r = { r0 with ring := { r0.ring with aux := r.ring.aux }, report := r.report } ∧
        r.ring.aux = (match x with | some b => lamp b 0#8 unlit | none => unlit) ∧
        (u.ring.aux.length + 2 ≤ 32 → r.report = r0.report))

/-- An accepted write of a loop entry in DARK, with no card silent (R90): the entry stored; the loop in WAITING_TUNE at its
card's wait list, or UNUSED for an empty entry, with everything else of its record absent or 0 but the vehicle count; no
other loop's record changes. Outside DARK a loop of a silent card, whose wait list R108 has emptied, goes to FAULT with
CARD_SILENT (R90, R108), and a loop that is alone on its card begins its sweep at once with setting 0 (R103, R104), at a
card new to the table with the silence timer started (R107). A write whose index is out of range is refused with BAD_INDEX,
else one whose marker or entry is not a loop's, or that another entry rules out, with BAD_ENTRY (R89, R189). The moment of
the write, `writtenAt`, is the model's own field (log entry 39), and the flags of LOOP_TUNE are log entry 43. The ranges of the
entry's own fields are StoredEntriesReadBack's. -/
def Obligations.LoopWriteResetsLoop : Prop :=
  (∀ (s : State) (h : Header) (i1 i2 m : Byte) (entry : List Byte), let e := s.part.env
    let w : WriteOperand := ⟨i1, i2, m, entry⟩; let rest := i1 :: i2 :: m :: entry
    let f := h.frame kindTableWrite (6#8 :: rest); let r0 := s.part.arrived .head
    Delivered s.part f → entry.length = 20 →
    (loopOf i1 = none ∨ i2 ≠ 0#8 → exec (.tableWriteLoop h rest) s = .next (s.withRt (answer e f ⟨.badIndex, []⟩ r0))) ∧
    (∀ l, loopOf i1 = some l → i2 = 0#8 → markedEntry w (parseLoop e.own) = none ∨
      (∃ y, markedEntry w (parseLoop e.own) = some (some y) ∧ loopRelationsOk e.tab l y = false) →
      exec (.tableWriteLoop h rest) s = .next (s.withRt (answer e f ⟨.badEntry, []⟩ r0)))) ∧
  (∀ (s : State) (h : Header) (i1 : Byte) (entry : List Byte) (l : Loop) (x : LoopEntry), let e := s.part.env
    let rest := i1 :: 0#8 :: 1#8 :: entry; let f := h.frame kindTableWrite (6#8 :: rest); let u := s.part.rt
    Delivered s.part f → u.mode.mode ≠ .dark → s.part.still → entry.length = 20 → loopOf i1 = some l →
    parseLoop e.own entry = some x → loopRelationsOk e.tab l x = true → e.tab.loops.get l = none →
    ((∃ c, u.cardRec x.card = some c ∧ c.silent = true ∧ c.wait = []) ∨ ((∀ c, u.cardRec x.card = some c → c.silent = false ∧ c.wait = []) ∧
      ∀ k, k ∉ e.tab.cardLoops x.card)) →
    ∃ v r, exec (.tableWriteLoop h rest) s = .next { s with
        part := { env := { e with tab := { e.tab with loops := v } }, rt := answer e f .accepted r } } ∧
      (∀ k : Loop, v.get k = if k = l then some x else e.tab.loops.get k) ∧
      (∀ k : Loop, k ≠ l → r.loops.recs.get k = u.loops.recs.get k) ∧ r.mode = u.mode ∧ r.groups = u.groups ∧
      (∀ c, u.cardRec x.card = some c → c.silent = true → r.loops.recs.get l =
        { state := .fault, cause := some .cardSilent, vehicles := (u.loops.recs.get l).vehicles } ∧
        r.report.summary.getLsbD 4 = true) ∧
      ((∀ c, u.cardRec x.card = some c → c.silent = false) → r.loops.recs.get l =
        { state := .tuning, sweep := some ⟨some 0, .awaitingEcho, some (e.now + 10#32)⟩
          vehicles := (u.loops.recs.get l).vehicles, writtenAt := some e.now } ∧
        r.ring.aux = classTake 32 u.ring.aux ⟨x.card, e.own, kindLoopTune, 0#8, [b8 x.channel.val, 0#8]⟩ ∧
        ∃ c, r.cardRec x.card = some c ∧ c.wait = [l] ∧ c.forward = x.forwardRaw ∧
          (u.cardRec x.card = none → c.silenceDue = some (e.now + 10#32)))) ∧
  ∀ (s : State) (h : Header) (i1 m : Byte) (entry : List Byte) (l : Loop) (x : Option LoopEntry), let e := s.part.env
    let f := h.frame kindTableWrite (6#8 :: i1 :: 0#8 :: m :: entry)
    Delivered s.part f → s.part.rt.mode.mode = .dark → s.part.still → entry.length = 20 →
    loopOf i1 = some l → markedEntry ⟨i1, 0#8, m, entry⟩ (parseLoop e.own) = some x →
    (∀ y, x = some y → loopRelationsOk e.tab l y = true) → (∀ c ∈ s.part.rt.loops.cards, c.silent = false) →
    ∃ v r, exec (.tableWriteLoop h (i1 :: 0#8 :: m :: entry)) s = .next { s with
        part := { env := { e with tab := { e.tab with loops := v } }, rt := answer e f .accepted r } } ∧
      (∀ k : Loop, v.get k = if k = l then x else e.tab.loops.get k) ∧
      r.loops.recs.get l =
        { state := if x.isSome then .waitingTune else .unused, vehicles := (s.part.rt.loops.recs.get l).vehicles
          writtenAt := if x.isSome then some e.now else none } ∧
      (∀ k : Loop, k ≠ l → r.loops.recs.get k = s.part.rt.loops.recs.get k) ∧
      (∀ y, x = some y → ∃ c ∈ r.loops.cards, c.addr = y.card ∧ l ∈ c.wait) ∧
      r.mode = s.part.rt.mode ∧ r.groups = s.part.rt.groups

/-- TABLE_READ that asks for an answer is answered with the marker and entry as stored, with BAD_INDEX for an index out of
range, with BAD_TABLE for an unknown table code; one that asks for none is discarded. It changes nothing (R186, R190). The
entry is, table by table (R188), marker 1 and the stored entry at the index, or marker 0 and as many zero bytes as the
table's entry has; the settings have marker 1 always. A number outside the table's rows or columns, 0 included, or a second
byte other than 0 for a table of one dimension, is out of range. -/
def Obligations.TableReadAnswers : Prop :=
  ∀ (s : State) (h : Header) (c i1 i2 : Byte), let e := s.part.env; let f := h.frame kindTableRead [c, i1, i2]
    let r0 := s.part.arrived .head
    Delivered s.part f →
    (c.toNat ≤ 10 →
      (asks e f = false → exec (.tableRead h [c, i1, i2]) s = .next (s.withRt r0)) ∧
      (asks e f = true → exec (.tableRead h [c, i1, i2]) s = .next (s.withRt (answer e f
        (match readEntry e.tab c.toNat i1 i2 with | some bs => ⟨.ok, bs⟩ | none => ⟨.badIndex, []⟩) r0)))) ∧
    (10 < c.toNat → exec (.tableRead h [c, i1, i2]) s = .next (s.withRt (answer e f ⟨.badTable, []⟩ r0))) ∧
    let t := e.tab
    let read := fun (code i1 i2 len : Nat) (entry : Option (List Byte)) =>
      readEntry t code (BitVec.ofNat 8 i1) (BitVec.ofNat 8 i2) =
        some (match entry with | some bs => 1#8 :: bs | none => 0#8 :: List.replicate len 0#8)
    (∀ g k : Group, read 0 (g.val + 1) 0 9 ((t.groups.get g).map encGroup) ∧
      read 1 (g.val + 1) (k.val + 1) 1 (((t.conflict.get g).get k).map encFirst) ∧
      read 2 (g.val + 1) (k.val + 1) 1 (((t.intergreen.get g).get k).map enc1)) ∧
    (∀ x y : Stage, read 3 (x.val + 1) 0 7 ((t.stages.get x).map encStage) ∧
      read 4 (x.val + 1) (y.val + 1) 1 (((t.permitted.get x).get y).map encFirst)) ∧
    (∀ p : Plan, read 5 (p.val + 1) 0 81 ((t.plans.get p).map encPlan)) ∧
    (∀ l : Loop, read 6 (l.val + 1) 0 20 ((t.loops.get l).map encLoop)) ∧
    (∀ a : Assign, read 7 (a.val + 1) 0 4 ((t.assigns.get a).map encAssign)) ∧
    (∀ n : Entry, read 8 (n.val + 1) 0 3 ((t.buttons.get n).map encButton) ∧
      read 9 (n.val + 1) 0 20 ((t.routes.get n).map encRoute)) ∧
    read 10 0 0 16 (some (encSettings t.settings)) ∧
    (∀ x ∈ [(0, 24), (3, 16), (5, 4), (6, 32), (7, 64), (8, 32), (9, 32)],
      i1 = 0#8 ∨ x.2 < i1.toNat ∨ i2 ≠ 0#8 → readEntry t x.1 i1 i2 = none) ∧
    (∀ x ∈ [(1, 24), (2, 24), (4, 16)],
      i1 = 0#8 ∨ x.2 < i1.toNat ∨ i2 = 0#8 ∨ x.2 < i2.toNat → readEntry t x.1 i1 i2 = none) ∧
    (i1 ≠ 0#8 ∨ i2 ≠ 0#8 → readEntry t 10 i1 i2 = none)

/-- Which entries a TABLE_WRITE stores, table by table, and what it stores of them: marker 0 asks for an empty entry, marker 1 for
the entry that the bytes carry, and another marker is BAD_ENTRY (R189); the bytes carry an entry exactly when every field lies in
its range (R2, R18 to R21, R62, R89, R113, R123, R132, R175, R191). Where bytes that are to be sent as 0 (an absent field's, the
unused places of a sequence, an empty marker's) are not 0, the spec does not say whether the write is refused (log entry 11),
and no acceptance is stated. What TABLE_READ encodes of a stored entry is the bytes that TABLE_WRITE carried (R178, R188, R190):
for stage, loop, assignment, button, intergreen and flag entries; for group, plan, route and settings entries it is bytes that a
TABLE_WRITE stores as the same entry. The relations of an entry to the other loaded ones are the writes' own statements'. -/
def Obligations.StoredEntriesReadBack : Prop :=
  (∀ (own : Byte) (bs : List Byte),
    (∀ x, parseStage bs = some x → encStage x = bs) ∧ (∀ x, parseLoop own bs = some x → encLoop x = bs) ∧
    (∀ x, parseAssign bs = some x → encAssign x = bs) ∧ (∀ x, parseButton own bs = some x → encButton x = bs) ∧
    (∀ x, parseIntergreen bs = some x → enc1 x = bs) ∧ (∀ x, parseFlag bs = some x → encFirst x = bs) ∧
    (∀ x, parseGroup own bs = some x → parseGroup own (encGroup x) = some x) ∧
    (∀ x, parsePlan bs = some x → parsePlan (encPlan x) = some x) ∧
    (∀ x, parseRoute bs = some x → parseRoute (encRoute x) = some x) ∧
    (∀ x, parseSettings own bs = some x → parseSettings own (encSettings x) = some x)) ∧
  (∀ (α : Type) (w : WriteOperand) (parse : List Byte → Option α),
    (w.marker = 0#8 → (∀ b ∈ w.entry, b = 0#8) → markedEntry w parse = some none) ∧
    (w.marker = 0#8 → markedEntry w parse = some none ∨ markedEntry w parse = none) ∧
    (w.marker = 1#8 → markedEntry w parse = (parse w.entry).map some) ∧
    (w.marker ≠ 0#8 → w.marker ≠ 1#8 → markedEntry w parse = none)) ∧
  let n2 := fun (a b : Byte) => a.toNat * 256 + b.toNat
  let n3 := fun (a b c : Byte) => a.toNat * 65536 + b.toNat * 256 + c.toNat
  let within := fun (lo hi n : Nat) => lo ≤ n ∧ n ≤ hi
  let station := fun (own b : Byte) => within 2 126 b.toNat ∧ b ≠ own
  let yesNo := fun (b : Byte) => b = 0#8 ∨ b = 1#8
  let optional := fun (presence : Byte) (fits : Prop) => presence = 0#8 ∨ presence = 1#8 ∧ fits
  -- conflict pairs, permitted transitions, intergreens
  (∀ b : Byte, parseFlag [b] = (if b = 0#8 then some true else if b = 1#8 then some false else none) ∧
    ∀ n, parseIntergreen [b] = some n ↔ n = b.toNat ∧ within 1 250 n) ∧
  -- stages
  (∀ (g2 g1 g0 m1 m0 sk po : Byte) (x : StageEntry), parseStage [g2, g1, g0, m1, m0, sk, po] = some x ↔
    g2 ++ g1 ++ g0 ≠ 0#24 ∧ n2 m1 m0 ≤ 600 ∧ yesNo sk ∧ yesNo po ∧
      x = ⟨g2 ++ g1 ++ g0, n2 m1 m0, decide (sk = 0#8), decide (po = 0#8)⟩) ∧
  -- groups
  (∀ (own t m1 m0 ra c1 c0 pr ad sl : Byte), let bs := [t, m1, m0, ra, c1, c0, pr, ad, sl]
    let fits := optional pr (station own ad ∧ sl.toNat < 4) ∧
      ((t = 0#8 ∧ n2 m1 m0 = 0 ∧ ra = 0#8 ∧ n2 c1 c0 = 0 ∧ pr = 0#8) ∨
        (t = 1#8 ∧ within 30 600 (n2 m1 m0) ∧ ra.toNat ≤ 30 ∧ within 30 60 (n2 c1 c0)) ∨
        (t = 2#8 ∧ within 40 600 (n2 m1 m0) ∧ ra = 0#8 ∧ n2 c1 c0 ≤ 300) ∨
        (t = 3#8 ∧ within 20 600 (n2 m1 m0) ∧ ra.toNat ≤ 30 ∧ within 20 60 (n2 c1 c0)))
    (fits → pr = 1#8 ∨ (ad = 0#8 ∧ sl = 0#8) → parseGroup own bs ≠ none) ∧
    ∀ x, parseGroup own bs = some x → fits ∧ x.type.code = t.toNat ∧ x.minGreen = n2 m1 m0 ∧ x.ra = ra.toNat ∧
      x.clearing = n2 c1 c0 ∧ (x.mapping = none ↔ pr = 0#8) ∧ ∀ m, x.mapping = some m → m.addr = ad ∧ m.slot.val = sl.toNat) ∧
  -- plans
  (∀ bs : List Byte, bs.length = 81 → let b := fun (i : Nat) => (bs.getD i 0#8).toNat
    let fits := within 1 16 (b 0) ∧ (∀ i, i < b 0 → within 1 16 (b (1 + i)) ∧ ∀ j, j < i → b (1 + j) ≠ b (1 + i)) ∧
      (∀ s : Stage, within 50 1200 (b (17 + 2 * s.val) * 256 + b (18 + 2 * s.val))) ∧
      (∀ g : Group, within 5 100 (b (49 + g.val))) ∧ within 1 16 (b 73) ∧ b 74 * 256 + b 75 ≤ 300 ∧
      within 20 100 (b 76) ∧ b 77 * 256 + b 78 ≤ 600 ∧ b 79 * 256 + b 80 ≤ 1200
    (fits → (∀ i, b 0 ≤ i → i < 16 → b (1 + i) = 0) → parsePlan bs ≠ none) ∧
    ∀ x, parsePlan bs = some x → fits ∧ x.sequence.length = b 0 ∧
      (∀ i s, x.sequence[i]? = some s → s.val + 1 = b (1 + i)) ∧
      (∀ s : Stage, x.maxGreen.get s = b (17 + 2 * s.val) * 256 + b (18 + 2 * s.val)) ∧
      (∀ g : Group, x.gapTime.get g = b (49 + g.val)) ∧ x.startStage.val + 1 = b 73 ∧ x.startFlash = b 74 * 256 + b 75 ∧
      x.allRed = b 76 ∧ x.extLimit = b 77 * 256 + b 78 ∧ x.lockout = b 79 * 256 + b 80) ∧
  -- loops, by their own fields; assignments; buttons
  (∀ (own ca ch n1 n0 f1 f0 dn df k p1 p0 fm rc a2 a1 a0 z2 z1 z0 fw : Byte) (x : LoopEntry),
    parseLoop own [ca, ch, n1, n0, f1, f0, dn, df, k, p1, p0, fm, rc, a2, a1, a0, z2, z1, z0, fw] = some x ↔
    station own ca ∧ within 20 20000 (n2 n1 n0) ∧ within 10 (n2 n1 n0 - 1) (n2 f1 f0) ∧ within 1 15 dn.toNat ∧
      within 1 15 df.toNat ∧ within 4 12 k.toNat ∧ (n2 p1 p0 = 0 ∨ within 10 3600 (n2 p1 p0)) ∧ yesNo fm ∧
      within 16 255 rc.toNat ∧ 1 ≤ n3 a2 a1 a0 ∧ n3 a2 a1 a0 < n3 z2 z1 z0 ∧ yesNo fw ∧ ∃ channel : Slot,
      channel.val = ch.toNat ∧ x = ⟨ca, channel, n2 n1 n0, n2 f1 f0, dn.toNat, df.toNat, k.toNat, n2 p1 p0,
        if fm = 0#8 then .demand else .ignore, rc.toNat, n3 a2 a1 a0, n3 z2 z1 z0, decide (fw = 0#8)⟩) ∧
  (∀ (l g f d : Byte) (x : AssignEntry), parseAssign [l, g, f, d] = some x ↔
    x.loop.val + 1 = l.toNat ∧ x.group.val + 1 = g.toNat ∧ x.function.code = f.toNat ∧ x.delay = d.toNat) ∧
  (∀ (own a i g : Byte) (x : ButtonEntry), parseButton own [a, i, g] = some x ↔
    station own a ∧ x.addr = a ∧ x.index.val = i.toNat ∧ x.group.val + 1 = g.toNat) ∧
  -- routes
  (∀ (co ci dp dv ck g sp sv t1 t0 w bl l1 l0 e1 e0 x1 x0 u1 u0 : Byte),
    let bs := [co, ci, dp, dv, ck, g, sp, sv, t1, t0, w, bl, l1, l0, e1, e0, x1, x0, u1, u0]
    let fits := co ≠ 0#8 ∧ ci ≠ 0#8 ∧ ck ≠ 0#8 ∧ optional dp (dv ≠ 0#8) ∧ within 1 24 g.toNat ∧
      optional sp (within 1 16 sv.toNat) ∧ within 10 1200 (n2 t1 t0) ∧ w.toNat ≤ 100 ∧ bl.toNat ≤ 3 ∧
      within 10 600 (n2 l1 l0) ∧ n2 e1 e0 ≤ 600 ∧ n2 x1 x0 ≤ 300 ∧ n2 u1 u0 ≤ 300
    (fits → dp = 1#8 ∨ dv = 0#8 → sp = 1#8 ∨ sv = 0#8 → parseRoute bs ≠ none) ∧
    ∀ x, parseRoute bs = some x → fits ∧ x.code = co ∧ x.checkIn = ci ∧ x.checkOut = ck ∧
      x.door = (if dp = 1#8 then some dv else none) ∧ x.group.val + 1 = g.toNat ∧
      x.priorityStage.map (fun s => s.val + 1) = (if sp = 1#8 then some sv.toNat else none) ∧ x.travel = n2 t1 t0 ∧
      x.spread = w.toNat ∧ x.baseLevel = bl.toNat ∧ x.late = n2 l1 l0 ∧ x.early = n2 e1 e0 ∧ x.maxExt = n2 x1 x0 ∧
      x.guardTime = n2 u1 u0) ∧
  -- the settings
  ∀ (own kw al k2 k1 k0 cp pa sa pb sb pn n1 n0 pf f1 f0 : Byte),
    let bs := [kw, al, k2, k1, k0, cp, pa, sa, pb, sb, pn, n1, n0, pf, f1, f0]
    let fits := within 1 60 kw.toNat ∧ al.toNat ≤ 10 ∧ n3 k2 k1 k0 < 2 ^ 21 ∧ yesNo cp ∧ optional pa (station own sa) ∧
      optional pb (station own sb) ∧ ¬ (pa = 1#8 ∧ pb = 1#8 ∧ sa = sb) ∧
      (pn = 0#8 ∧ pf = 0#8 ∨ pn = 1#8 ∧ pf = 1#8 ∧ n2 n1 n0 < n2 f1 f0)
    (fits → pa = 1#8 ∨ sa = 0#8 → pb = 1#8 ∨ sb = 0#8 → pn = 1#8 ∨ (n1 = 0#8 ∧ n0 = 0#8 ∧ f1 = 0#8 ∧ f0 = 0#8) →
      parseSettings own bs ≠ none) ∧
    ∀ x, parseSettings own bs = some x → fits ∧ x.keepaliveWindow = kw.toNat ∧ x.allowance = al.toNat ∧
      x.mask = BitVec.ofNat 21 (n3 k2 k1 k0) ∧ x.capture = (if cp = 0#8 then .allFaults else .flashFaults) ∧
      x.sensorA = (if pa = 1#8 then some sa else none) ∧ x.sensorB = (if pb = 1#8 then some sb else none) ∧
      x.dimOn = (if pn = 1#8 then some (n2 n1 n0) else none) ∧ x.dimOff = (if pf = 1#8 then some (n2 f1 f0) else none)

/-- Step 1 of the consistency check (R25): it finds nothing exactly when every pair marked conflicting passes the three
tests, and else reports the first marked pair, row by row, that fails one, with the first test that it fails. So step 2
with the intergreens of the marked pairs (R26). Step 3 reports the first loaded stage with an undefined group in its green
set, or else with a conflicting pair in it (R27); step 4 the first defined group without a mapping, or else the first pair
that shares one (R28); step 5 an empty plan, the first stage of its sequence that is empty, or an empty start stage (R29);
step 6 the first consecutive pair of the sequence, taken cyclically, that is not permitted (R30). The steps run in turn, each
only when those before it found nothing (R24). -/
def Obligations.ConflictStepFindsFirst : Prop :=
  (∀ (t : Tables) (p : Plan) (entry : Option PlanEntry) (x : Inconsistency),
    let short := fun (i j : Group) => match (t.intergreen.get i).get j with
      | none => some (⟨2, .igMissing, i.val + 1, j.val + 1, 0⟩ : Inconsistency)
      | some n => if n < t.clearing i + t.ra j then some ⟨2, .igTooShort, i.val + 1, j.val + 1, t.clearing i + t.ra j⟩ else none
    let undef := fun (s : Stage) (g : Group) => t.inStage s g = true ∧ t.isDefined g = false
    let clash := fun (s : Stage) (g h : Group) =>
      g < h ∧ t.inStage s g = true ∧ t.inStage s h = true ∧ t.conflicts g h = true
    let bad := fun (s : Stage) => (∃ g, undef s g) ∨ ∃ g h, clash s g h
    let bare := fun (g : Group) => t.isDefined g = true ∧ t.mapping g = none
    let shared := fun (g h : Group) => g < h ∧ t.isDefined g = true ∧ t.isDefined h = true ∧ t.mapping g = t.mapping h
    (checkIntergreens t = some x ↔ ∃ i j : Group, t.conflicts i j = true ∧ short i j = some x ∧
      ∀ i' j' : Group, t.conflicts i' j' = true → i' < i ∨ (i' = i ∧ j' < j) → short i' j' = none) ∧
    (checkStages t = some x ↔ ∃ s, (∀ s' : Stage, s' < s → ¬ bad s') ∧
      ((∃ g, undef s g ∧ (∀ g' : Group, g' < g → ¬ undef s g') ∧ x = ⟨3, .stageGroupUndefined, s.val + 1, g.val + 1, 0⟩) ∨
        (∀ g, ¬ undef s g) ∧ ∃ g h, clash s g h ∧
          (∀ g' h' : Group, g' < g ∨ (g' = g ∧ h' < h) → ¬ clash s g' h') ∧
          x = ⟨3, .stageConflict, s.val + 1, g.val + 1, h.val + 1⟩)) ∧
    (checkMappings t = some x ↔
      (∃ g, bare g ∧ (∀ g' : Group, g' < g → ¬ bare g') ∧ x = ⟨4, .groupUnmapped, g.val + 1, 0, 0⟩) ∨
      (∀ g, ¬ bare g) ∧ ∃ g h, shared g h ∧ (∀ g' h' : Group, g' < g ∨ (g' = g ∧ h' < h) → ¬ shared g' h') ∧
        x = ⟨4, .mappingShared, g.val + 1, h.val + 1, 0⟩) ∧
    (checkPlanStages t p entry = some x ↔
      (entry = none ∧ x = ⟨5, .planEmpty, p.val + 1, 0, 0⟩) ∨ ∃ q, entry = some q ∧
        ((∃ pre s post, q.sequence = pre ++ s :: post ∧ t.stages.get s = none ∧ (∀ s' ∈ pre, t.stages.get s' ≠ none) ∧
            x = ⟨5, .planStageUndefined, p.val + 1, s.val + 1, 0⟩) ∨
          (∀ s ∈ q.sequence, t.stages.get s ≠ none) ∧ t.stages.get q.startStage = none ∧
            x = ⟨5, .startStageUndefined, p.val + 1, q.startStage.val + 1, 0⟩)) ∧
    (checkTransitions t p entry = some x ↔ ∃ q k s s', entry = some q ∧ q.sequence[k]? = some s ∧
      q.sequence[(k + 1) % q.sequence.length]? = some s' ∧ t.permits s s' = false ∧
      (∀ j a b, j < k → q.sequence[j]? = some a → q.sequence[j + 1]? = some b → t.permits a b = true) ∧
      x = ⟨6, .transitionNotPermitted, p.val + 1, s.val + 1, s'.val + 1⟩) ∧
    checkPlan t p entry = [checkPlanStages t p entry, checkTransitions t p entry].findSome? id ∧
    consistency t p = [checkConflicts t, checkIntergreens t, checkStages t, checkMappings t,
      checkPlanStages t p (t.plans.get p), checkTransitions t p (t.plans.get p)].findSome? id) ∧
  ∀ t : Tables,
    let verdict := fun (i j : Group) => if i = j then some (⟨1, .selfConflict, i.val + 1, 0, 0⟩ : Inconsistency)
      else if t.isDefined i = false ∨ t.isDefined j = false then some ⟨1, .conflictUndefined, i.val + 1, j.val + 1, 0⟩
      else if t.conflicts j i = false then some ⟨1, .asymmetric, i.val + 1, j.val + 1, 0⟩ else none
    (checkConflicts t = none ↔ ∀ i j : Group, t.conflicts i j = true → verdict i j = none) ∧
    ∀ x, checkConflicts t = some x ↔ ∃ i j : Group, t.conflicts i j = true ∧ verdict i j = some x ∧
      ∀ i' j' : Group, t.conflicts i' j' = true → i' < i ∨ (i' = i ∧ j' < j) → verdict i' j' = none

/-- The queries that ask for an answer: STATUS answers and then empties the summary and clears the two flags (R195); COUNTS
answers the 32 vehicle counts in loop order and then the three served counts, two bytes each, and then sets the 35 counts to
0 (R101, R159, R196); FAULT_RECORD and TRAM_TABLE change nothing, and a slot above 7 is BAD_INDEX (R145, R196). One that
asks for no answer is discarded (R186). The layouts that `statusBytes`, `FaultRec.bytes` and `TramRec.bytes` give these
answers are the model's (log entries 14 to 16). -/
def Obligations.QueriesAnswerAndClear : Prop :=
  ∀ (s : State) (h : Header) (b : Byte), let e := s.part.env; let r := s.part.arrived .head
    Delivered s.part (queryFrame h 0 []) →
    (asks e (queryFrame h 0 []) = false →
      exec (.queryStatus h []) s = .next (s.withRt r) ∧ exec (.queryCounts h []) s = .next (s.withRt r) ∧
      exec (.queryFaultRecord h []) s = .next (s.withRt r) ∧ exec (.queryTramTable h [b]) s = .next (s.withRt r)) ∧
    (asks e (queryFrame h 0 []) = true →
      exec (.queryStatus h []) s = .next (s.withRt (answer e (queryFrame h 0 []) ⟨.ok, statusBytes r⟩ { r with
        report := { r.report with summary := 0#21 }
        mode := { r.mode with ownerViolation := false }
        ring := { r.ring with crcFlag := false } })) ∧
      (∃ r', exec (.queryCounts h []) s = .next (s.withRt (answer e (queryFrame h 1 []) ⟨.ok, countsBytes r⟩ r')) ∧
        r' = { r with
          loops := { r.loops with recs := r'.loops.recs }
          priority := { r.priority with served := r'.priority.served } } ∧
        (∀ l : Loop, r'.loops.recs.get l = { r.loops.recs.get l with vehicles := 0 }) ∧
        ∀ i : Fin 3, r'.priority.served.get i = 0) ∧
      (let pair := fun (n : Nat) => ((countsBytes r).drop (2 * n)).take 2;
        (countsBytes r).length = 70 ∧
        (∀ l : Loop, pair l.val =
          [BitVec.ofNat 8 ((r.loops.recs.get l).vehicles / 256), BitVec.ofNat 8 (r.loops.recs.get l).vehicles]) ∧
        ∀ i : Fin 3, pair (32 + i.val) =
          [BitVec.ofNat 8 (r.priority.served.get i / 256), BitVec.ofNat 8 (r.priority.served.get i)]) ∧
      exec (.queryFaultRecord h []) s = .next (s.withRt (answer e (queryFrame h 2 [])
        ⟨.ok, encOpt 16 (r.report.record.map FaultRec.bytes)⟩ r)) ∧
      (∀ k, tramSlotOf b = some k → exec (.queryTramTable h [b]) s = .next (s.withRt (answer e (queryFrame h 3 [b])
        ⟨.ok, encOpt 41 ((r.trams.get k).map TramRec.bytes)⟩ r))) ∧
      (8 ≤ b.toNat → exec (.queryTramTable h [b]) s =
        .next (s.withRt (answer e (queryFrame h 3 [b]) ⟨.badIndex, []⟩ r))))

/-! ### Field frames (chapters 3, 5, 6, 7, 9) -/

/-- A LOOP_COUNTS frame from a card that is not silent restarts its silence timer (R107) and gives each channel's sample to
its loop (R91). For a loop in CLEAR with a valid sample above the rise limit: a deviation below the on-threshold tracks
the baseline and empties the on-count (R95); one at or above it raises the on-count, and at the debounce the loop is
OCCUPIED from now with its vehicle count raised, saturating at 65,535 (R96, R101). A loop in OCCUPIED becomes SETTLING at
its presence limit (R98), CLEAR at the off-debounce (R97), and else counts below the off-threshold or empties that count;
one in SETTLING tracks fast and becomes CLEAR at the 32nd sample (R99); a rise puts each of them in FAULT (R98), and so
does the third invalid sample in a row (R93). -/
def Obligations.ClearLoopJudgesSample : Prop :=
  (∀ (s : State) (h : Header) (pl : List Byte) (l : Loop) (x : LoopEntry) (c : CardRec) (bf : Nat), let e := s.part.env
    let y := s.part.rt.loops.recs.get l; let v := channelSample pl x.channel; let d := deviation (bf / 256) v.count
    dstOk h.dst = true → pl.length = 16 → s.part.rt.mode.mode ≠ .dark →
    s.part.rt.cardRec h.src = some c → c.silent = false → e.tab.loops.get l = some x →
    channelLoop e.tab h.src x.channel = some (l, x) → y.state = .clear → y.bf = some bf →
    v.count ≠ 0 → x.cmin ≤ v.count → v.count ≤ x.cmax → y.setting = some v.echo → -20000 < d →
    ∃ t, exec (.loopCounts h pl) s = .next t ∧ t.pending = s.pending ∧ t.part.env = e ∧
      (∀ k ∈ t.part.rt.loops.cards, k.addr = h.src → k.silenceDue = some (e.now + 10#32)) ∧
      (d < (x.onThreshold : Int) → t.part.rt.loops.recs.get l = { y with
        invalidRun := 0, onCount := 0
        bf := some (track (if d < -(x.onThreshold : Int) then 2 else x.trackShift) bf v.count) }) ∧
      ((x.onThreshold : Int) ≤ d → y.onCount + 1 < x.debounceOn →
        t.part.rt.loops.recs.get l = { y with invalidRun := 0, onCount := y.onCount + 1 }) ∧
      ((x.onThreshold : Int) ≤ d → x.debounceOn ≤ y.onCount + 1 →
        t.part.rt.loops.recs.get l = { y with
          state := .occupied, invalidRun := 0, onCount := 0, offCount := 0, occupiedAt := some e.now
          vehicles := min (y.vehicles + 1) 65535 })) ∧
  (∀ (s : State) (h : Header) (pl : List Byte) (l : Loop) (x : LoopEntry) (bf : Nat), let e := s.part.env
    let y := s.part.rt.loops.recs.get l; let v := channelSample pl x.channel; let d := deviation (bf / 256) v.count
    s.part.takesSample h pl l x → y.bf = some bf → x.inside v → y.setting = some v.echo →
    ∃ t, exec (.loopCounts h pl) s = .next t ∧ t.pending = s.pending ∧ t.part.env = e ∧
      let z := t.part.rt.loops.recs.get l; let noted := fun i => t.part.rt.report.summary.getLsbD i = true
      (y.state = .settling ∨ y.state = .clear ∨ y.state = .occupied → d ≤ -20000 →
        z = { state := .fault, cause := some .rise, setting := y.setting, vehicles := y.vehicles } ∧ noted 4) ∧
      (y.state = .occupied → -20000 < d → ∀ since, y.occupiedAt = some since →
        (0 < x.maxPresence → 10 * x.maxPresence ≤ (e.now - since).toNat →
          z = { state := .settling, setting := y.setting, bf := some (v.count * 256), vehicles := y.vehicles } ∧ noted 6) ∧
        (x.maxPresence = 0 ∨ (e.now - since).toNat < 10 * x.maxPresence →
          ((x.offThreshold : Int) ≤ d → z = { y with invalidRun := 0, offCount := 0 }) ∧
          (d < (x.offThreshold : Int) → y.offCount + 1 < x.debounceOff →
            z = { y with invalidRun := 0, offCount := y.offCount + 1 }) ∧
          (d < (x.offThreshold : Int) → x.debounceOff ≤ y.offCount + 1 →
            z = { y with
              state := .clear, invalidRun := 0, onCount := 0, offCount := 0, settlingCount := 0, occupiedAt := none } ∧
            noted 3))) ∧
      (y.state = .settling → -20000 < d →
        (y.settlingCount + 1 < 32 →
          z = { y with invalidRun := 0, settlingCount := y.settlingCount + 1, bf := some (track 2 bf v.count) }) ∧
        (32 ≤ y.settlingCount + 1 →
          z = { y with
            state := .clear, invalidRun := 0, onCount := 0, offCount := 0, settlingCount := 0, occupiedAt := none
            bf := some (track 2 bf v.count) } ∧ noted 3))) ∧
  ∀ (s : State) (h : Header) (pl : List Byte) (l : Loop) (x : LoopEntry)
    (y : LoopRec), y = s.part.rt.loops.recs.get l → let v := channelSample pl x.channel
    s.part.takesSample h pl l x → y.state = .settling ∨ y.state = .clear ∨ y.state = .occupied →
    ¬ (x.inside v ∧ y.setting = some v.echo) →
    ∃ t, exec (.loopCounts h pl) s = .next t ∧ t.pending = s.pending ∧ t.part.env = s.part.env ∧
      (y.invalidRun + 1 < 3 → t.part.rt.loops.recs.get l = { y with invalidRun := y.invalidRun + 1 }) ∧
      (3 ≤ y.invalidRun + 1 → t.part.rt.loops.recs.get l =
          { state := .fault, cause := some (if v.count = 0 then .noOsc else .outOfWindow), setting := y.setting
            vehicles := y.vehicles } ∧ t.part.rt.report.summary.getLsbD 4 = true)

/-- The deviation is the exact quotient in ppm truncated toward zero and saturated (R94). A tracking step is the difference of
the count times 256 and the baseline divided by 2^k, truncated toward zero, and at least 1 toward the count while they differ;
for k of at least 2 it moves the baseline strictly toward the count and never past it (R95). -/
def Obligations.DeviationAndTracking : Prop :=
  (∀ b c : Nat, 0 < b → let q := Int.tdiv (((b : Int) - c) * 1000000) b
    (-32767 ≤ deviation b c ∧ deviation b c ≤ 32767) ∧ (-32767 ≤ q → q ≤ 32767 → deviation b c = q) ∧
    (32767 < q → deviation b c = 32767) ∧ (q < -32767 → deviation b c = -32767)) ∧
  (∀ k bf c : Nat,
    (bf < c * 256 → track k bf c = bf + max 1 ((c * 256 - bf) / 2 ^ k)) ∧
    (c * 256 < bf → track k bf c = bf - max 1 ((bf - c * 256) / 2 ^ k)) ∧
    (bf = c * 256 → track k bf c = bf)) ∧
  (∀ k bf c : Nat, 2 ≤ k →
    (bf < c * 256 → bf < track k bf c ∧ track k bf c ≤ c * 256) ∧
    (c * 256 < bf → track k bf c < bf ∧ c * 256 ≤ track k bf c) ∧ (bf = c * 256 → track k bf c = bf))

/-- A valid CHECK_IN or DOOR_CLOSED outside DARK puts its record into the slot that holds its line and run, or the lowest
free slot (R134): AT_STOP or APPROACHING by the route's door point (R135), APPROACHING with the check-in stamp kept (R136),
the lateness clamped (R130), level by R138 (the base level, 2 more from twice the late threshold on, else 1 more from the
late threshold on, 1 less from minus the early threshold down when that is not 0, within 0 to 3), ETA window by R137, the
record timer by R139. Others stay. A telegram outside DARK is refused with TRAM_REFUSED, from its receiver, and changes no
record: with BAD_FIELD for a field out of range (R130), else with UNKNOWN_ROUTE, else with WRONG_POINT (R131), else, where
it would need a ninth record, with TABLE_FULL (R134). The codes of these, 0 to 3, are read from R178 by inference (log entry
14), and that a telegram of no type is CHECK_IN's row is log entry 30. The junction is one where the Stage Engine has nothing
to act on (`Part.still`); what a telegram does in STAGE_RUN is RunningStageReadsConditions'. -/
def Obligations.TelegramPlacesRecord : Prop :=
  (∀ (s : State) (h : Header) (pl : List Byte) (x : Telegram) (i : Instr) (c : Nat), let e := s.part.env; let u := s.part.rt
    dstOk h.dst = true → telegramOf pl = some x → u.mode.mode ≠ .dark → s.part.still → i ∈ fieldRows h pl →
    telegramRefusedWith e u x c →
    ∃ t, exec i s = .next t ∧ t.pending = s.pending ∧ t.part.env = e ∧ t.part.rt.trams = u.trams ∧
      t.part.rt.priority.queue = u.priority.queue ∧ t.part.rt.mode = u.mode ∧ t.part.rt.groups = u.groups ∧
      (u.ring.head.queue.length < 16 →
        t.part.rt.report = (post e .tramRefused h.src [b8 c] (s.part.arrived .field)).report)) ∧
  (∀ (route : RouteEntry) (l : Int),
    let up : Int := if 2 * (route.late : Int) ≤ l then 2 else if (route.late : Int) ≤ l then 1 else 0
    let down : Int := if route.early ≠ 0 ∧ l ≤ -(route.early : Int) then 1 else 0
    let n : Int := route.baseLevel + up - down
    (n < 0 → levelOf route l = 0) ∧ (0 ≤ n → n ≤ 3 → (levelOf route l : Int) = n) ∧ (3 < n → levelOf route l = 3)) ∧
  ∀ (s : State) (h : Header) (pl : List Byte) (x : Telegram) (route : RouteEntry) (k : TramSlot), let e := s.part.env
    dstOk h.dst = true → telegramOf pl = some x → telegramFieldsOk x = true → s.part.rt.mode.mode ≠ .dark →
    routeOf e.tab x.route = some route →
    (tramSlot s.part.rt x.line x.run).or (freeSlot s.part.rt) = some k → s.part.still →
    (x.typeCode = 0#8 → x.point = route.checkIn →
      ∃ t y, exec (.telegramCheckIn h pl) s = .next t ∧ t.pending = s.pending ∧ t.part.env = e ∧
        t.part.rt.trams.get k = some y ∧ (∀ j : TramSlot, j ≠ k → t.part.rt.trams.get j = s.part.rt.trams.get j) ∧
        checkInGives e s.part.rt x route y) ∧
    (x.typeCode = 1#8 → route.door = some x.point →
      ∃ t y, exec (.telegramDoorClosed h pl) s = .next t ∧ t.pending = s.pending ∧ t.part.env = e ∧
        t.part.rt.trams.get k = some y ∧ (∀ j : TramSlot, j ≠ k → t.part.rt.trams.get j = s.part.rt.trams.get j) ∧
        doorClosedGives e s.part.rt x route k y)

/-- A valid CHECK_OUT or CANCEL outside DARK removes the record that holds its line and run from the table and the queue and
posts TRAM_CHECKOUT with its cause; one that no record holds leaves the table and posts TRAM_CHECKOUT without a slot
(R140, R143). The event's codes, CHECK_OUT 0, CANCEL 1, green given 0 for yes, are read from R178 by inference (log entry
14). The junction is one where the Stage Engine has nothing to act on (`Part.still`); what these do in STAGE_RUN is
RunningStageReadsConditions'. -/
def Obligations.TelegramRemovesRecord : Prop :=
  ∀ (s : State) (h : Header) (pl : List Byte) (x : Telegram) (route : RouteEntry) (i : Instr) (cause : Nat)
    (e : Env), e = s.part.env →
    dstOk h.dst = true → telegramOf pl = some x → telegramFieldsOk x = true → s.part.rt.mode.mode ≠ .dark →
    routeOf e.tab x.route = some route → s.part.still →
    (x.typeCode = 2#8 ∧ x.point = route.checkOut ∧ i = .telegramCheckOut h pl ∧ cause = 0) ∨
      (x.typeCode = 3#8 ∧ i = .telegramCancel h pl ∧ cause = 1) →
    ∃ t, exec i s = .next t ∧ t.pending = s.pending ∧ t.part.env = e ∧ t.part.rt.mode = s.part.rt.mode ∧
      t.part.rt.groups = s.part.rt.groups ∧
      (∀ k y, tramSlot s.part.rt x.line x.run = some k → s.part.rt.trams.get k = some y →
        t.part.rt.trams.get k = none ∧ (∀ j : TramSlot, j ≠ k → t.part.rt.trams.get j = s.part.rt.trams.get j) ∧
        k ∉ t.part.rt.priority.queue ∧
        (s.part.rt.ring.head.queue.length < 16 → t.part.rt.report =
          (post e .tramCheckout (b8 k.val) ([0#8, b8 cause] ++ encFirst y.greenGiven) (s.part.arrived .field)).report)) ∧
      (tramSlot s.part.rt x.line x.run = none → t.part.rt.trams = s.part.rt.trams ∧
        (s.part.rt.ring.head.queue.length < 16 → t.part.rt.report =
          (post e .tramCheckout 255#8 [1#8] (s.part.arrived .field)).report))

/-- A LAMP_STATUS from a mapped module with no output reported failed and no go lamp lit restarts the silence timer outside
DARK and ends the silence (R169, R174); the first status that echoes a green-end aspect of a group whose green end was
commanded confirms it (R14, R170): the confirmation record goes, and the arrival becomes the confirmed green end in the
Conflict Monitor's record that awaits one (R33) and in the Stage Engine's (R80). Groups and mode are as before. In an
interstage, a gaining group without a green start whose constraining groups are now all confirmed gets t_j, the latest of
their confirmed green ends plus intergreen, and its green-start order (R81); one with another group still unconfirmed
waits on. The constraining groups stand for R81's losing groups (log entry 20). -/
def Obligations.LampStatusConfirmsGreenEnd : Prop :=
  (∀ (s : State) (h : Header) (pl : List Byte) (m : ModuleRec) (k : Slot) (g : Group), let e := s.part.env
    dstOk h.dst = true → pl.length = 16 → s.part.rt.moduleRec h.src = some m → s.part.rt.notices = [] →
    s.part.rt.stage.phase ≠ .interstage → s.part.rt.stage.inter = none →
    (∀ (a : Slot) (o : Fin 3), (slotOutput pl a o).toNat < 2) →
    e.tab.holder h.src k = some g → (s.part.rt.lamp.confirms.get g).isSome = true →
    confirmsGreenEnd (e.tab.gtype g) (e.tab.clearing g) (slotEcho pl k) = true →
    ∃ t, exec (.lampStatus h pl) s = .next t ∧ t.pending = s.pending ∧ t.part.env = e ∧
      t.part.rt.lamp.confirms.get g = none ∧
      t.part.rt.stage.greenEnds.get g =
        (if s.part.rt.stage.greenEnds.get g = .awaiting then .confirmed e.now else s.part.rt.stage.greenEnds.get g) ∧
      ((s.part.rt.monitor.get g).awaiting = true →
        (∀ seen, (s.part.rt.monitor.get g).clearingSeen = some seen → reached e.now seen = true) →
        t.part.rt.monitor.get g = { s.part.rt.monitor.get g with confirmed := some e.now, awaiting := false }) ∧
      (∀ n ∈ t.part.rt.lamp.modules, n.addr = h.src → n.silent = false ∧
        (s.part.rt.mode.mode ≠ .dark → n.silenceDue = some (e.now + 10#32))) ∧
      t.part.rt.groups = s.part.rt.groups ∧ t.part.rt.mode = s.part.rt.mode) ∧
  ∀ (s : State) (h : Header) (pl : List Byte) (m : ModuleRec) (k : Slot) (g : Group) (q : Interstage), let e := s.part.env
    let u := s.part.rt
    dstOk h.dst = true → pl.length = 16 → u.moduleRec h.src = some m → u.notices = [] →
    u.stage.phase = .interstage → u.stage.inter = some q → q.complete = false →
    (∀ (a : Slot) (o : Fin 3), (slotOutput pl a o).toNat < 2) → e.tab.holder h.src k = some g →
    (∀ (a : Slot) (i : Group), e.tab.holder h.src a = some i → (u.lamp.confirms.get i).isSome = true → i = g) →
    (u.lamp.confirms.get g).isSome = true → u.stage.greenEnds.get g = .awaiting →
    confirmsGreenEnd (e.tab.gtype g) (e.tab.clearing g) (slotEcho pl k) = true →
    let ended := fun (i : Group) (c : Time) => (i = g ∧ c = e.now) ∨ (i ≠ g ∧ u.stage.greenEnds.get i = .confirmed c)
    let waits := fun (x : Gaining) => ∃ i ∈ x.constraining, i ≠ g ∧ ∀ c, u.stage.greenEnds.get i ≠ .confirmed c
    (q.gaining.map Gaining.group).Nodup →
    (∀ x ∈ q.gaining, x.greenAt = none → ¬ waits x →
      g ∈ x.constraining ∧ e.tab.ra x.group < e.tab.ig g x.group ∧ e.tab.ig g x.group ≤ 36000 ∧
      (u.groups.get x.group).state = .rest ∧ (u.groups.get x.group).pendingGreen = none) →
    ∃ t q', exec (.lampStatus h pl) s = .next t ∧ t.pending = s.pending ∧ t.part.env = e ∧ t.part.rt.mode = u.mode ∧
      t.part.rt.stage = { u.stage with inter := some q', greenEnds := t.part.rt.stage.greenEnds } ∧
      (∀ i : Group, t.part.rt.stage.greenEnds.get i = if i = g then .confirmed e.now else u.stage.greenEnds.get i) ∧
      q' = { q with
        losing := q.losing.map fun x => if x.group = g ∧ x.confirmed = none then { x with confirmed := some e.now } else x
        gaining := q'.gaining } ∧
      q'.gaining.map Gaining.group = q.gaining.map Gaining.group ∧
      (∀ x ∈ q.gaining, x.greenAt ≠ none ∨ waits x → x ∈ q'.gaining ∧
        t.part.rt.groups.get x.group = u.groups.get x.group) ∧
      (∀ x ∈ q.gaining, x.greenAt = none → ¬ waits x → ∃ tj, { x with greenAt := some tj } ∈ q'.gaining ∧
        t.part.rt.groups.get x.group = { u.groups.get x.group with pendingGreen := some tj } ∧
        (∃ i ∈ x.constraining, ∃ c, ended i c ∧ tj = c + BitVec.ofNat 32 (e.tab.ig i x.group)) ∧
        ∀ i ∈ x.constraining, ∀ c, ended i c → back e.now tj ≤ back e.now (c + BitVec.ofNat 32 (e.tab.ig i x.group))) ∧
      ∀ i : Group, i ∉ q.gaining.map Gaining.group → t.part.rt.groups.get i = u.groups.get i

/-- The panel keys in RUNNING (R59, R60): MANUAL_ON makes the source MANUAL, from DIRECTED dropping the pending GO_STAGE and
HOLD; MANUAL_OFF under MANUAL makes it AUTONOMOUS and drops the pending STEP; STEP under MANUAL leaves a pending STEP. In
other modes, and MANUAL_OFF and STEP under another source, they change nothing and post no event (the max-green timer and
the offers, which the Stage Engine reads anew at every command, apart). Each is forwarded (R181). STEP under MANUAL in
STAGE_RUN acts at once: the stage ends toward the next stage of the MANUAL test with cause STEP, and a STEP that finds none
is used up (R60, R74). A change of source posts SOURCE_CHANGE with the new source as its detail and no subject, coded 255
(R51, R194); the codes MANUAL 3 and AUTONOMOUS 1 are read from R178 by inference (log entry 14). What the stage's record
notes of gap-out is the model's own (log entry 46). MANUAL_ON and MANUAL_OFF are stated where the Stage Engine has nothing to act on
(`Part.still`); in STAGE_RUN they are RunningStageReadsConditions'. -/
def Obligations.PanelKeysSetSource : Prop :=
  (∀ (s : State) (h : Header), let e := s.part.env; let u := s.part.rt; let a := s.part.arrived .field
    dstOk h.dst = true → s.part.still →
    ∃ ron roff rstep,
      exec (.manualOn h []) s = .next (s.withRt (forwardTo e .head (keyFrame h 1 []) ron)) ∧
      exec (.manualOff h []) s = .next (s.withRt (forwardTo e .head (keyFrame h 2 []) roff)) ∧
      exec (.stepKey h []) s = .next (s.withRt (forwardTo e .head (keyFrame h 3 []) rstep)) ∧
      (ron.groups = u.groups ∧ ron.trams = u.trams ∧ roff.groups = u.groups ∧ roff.trams = u.trams ∧
        rstep.groups = u.groups ∧ rstep.trams = u.trams) ∧
      (controlAlone a ron ∧ controlAlone a roff ∧ controlAlone a rstep ∧ rstep.report = a.report ∧
        rstep.stage.pendingGo = u.stage.pendingGo ∧ rstep.stage.hold = u.stage.hold ∧
        roff.stage.pendingGo = u.stage.pendingGo ∧ roff.stage.hold = u.stage.hold ∧
        (u.mode.mode ≠ .running ∨ u.mode.source = .manual → ron.report = a.report) ∧
        (u.mode.mode = .running → u.mode.source ≠ .manual →
          ron.report = (post e .sourceChange 255#8 [3#8] a).report ∧ roff.report = a.report) ∧
        (u.mode.mode = .running → u.mode.source = .manual →
          roff.report = (post e .sourceChange 255#8 [1#8] a).report) ∧
        (u.mode.mode ≠ .running → ron.stage.hold = u.stage.hold ∧ roff.report = a.report)) ∧
      (u.mode.mode = .running → ron.mode = { u.mode with source := .manual } ∧
        ron.stage.pendingGo = (if u.mode.source = .directed then none else u.stage.pendingGo) ∧
        ron.stage.hold = (if u.mode.source = .directed then false else u.stage.hold)) ∧
      (u.mode.mode ≠ .running → ron.mode = u.mode ∧ ron.stage.pendingGo = u.stage.pendingGo) ∧
      (u.mode.mode = .running → u.mode.source = .manual →
        roff.mode = { u.mode with source := .autonomous, pendingStep := false } ∧
        rstep.mode = { u.mode with pendingStep := true }) ∧
      (u.mode.mode ≠ .running ∨ u.mode.source ≠ .manual → roff.mode = u.mode ∧ rstep.mode = u.mode)) ∧
  ∀ (s : State) (h : Header) (c : StageRec), let e := s.part.env; let u := s.part.rt
    dstOk h.dst = true → u.inRun e .manual c → u.notices = [] →
    ∃ r, exec (.stepKey h []) s = .next (s.withRt (forwardTo e .head (keyFrame h 3 []) r)) ∧
      (nextManual e u = none → r.mode = { u.mode with pendingStep := false } ∧ r.groups = u.groups ∧
        r.stage = { u.stage with current := some { c with gap := r.stage.current.bind StageRec.gap } }) ∧
      ∀ x, nextManual e u = some x → s.part.endsCleanly c.stage x →
        stageEnded e u r c.stage x .step ∧ r.mode = { u.mode with pendingStep := false }

/-- A press for a pedestrian group not in GREEN while the Demand Unit is active latches BUTTON (R124); pressed again it gives
one more BUTTON_LAMP lit to the pressed button and latches nothing new (R125); the first press gives one to every button of
the group, in ascending entry. A repeated press at a full class of 32 posts FORWARD_OVERFLOW of the frame that it removes (R184),
and with room posts nothing. For another group, a group in GREEN, or an inactive Demand Unit, demand and frames stay. The junction
is one where the Stage Engine has nothing to act on (`Part.still`); what a press does in STAGE_RUN is RunningStageReadsConditions'.
That lit is coded 0 is read from R178 by inference (log entry 14), and the frame's flags are log entry 43. -/
def Obligations.PushButtonLatchesDemand : Prop :=
  ∀ (s : State) (h : Header) (b : Byte) (x : ButtonEntry), let e := s.part.env; let u := s.part.rt
    dstOk h.dst = true → s.part.still → buttonOf e.tab h.src b = some x →
    ∃ t, exec (.pushButton h [b]) s = .next t ∧ t.pending = s.pending ∧ t.part.env = e ∧
      t.part.rt.groups = u.groups ∧ t.part.rt.mode = u.mode ∧ t.part.rt.demand.assigns = u.demand.assigns ∧
      (∀ g : Group, g ≠ x.group → t.part.rt.demand.groups.get g = u.demand.groups.get g) ∧
      (u.demand.active = true → e.tab.gtype x.group = .pedestrian → (u.groups.get x.group).state ≠ .green →
        t.part.rt.demand.groups.get x.group = { u.demand.groups.get x.group with button := true } ∧
        ((u.demand.groups.get x.group).button = true → t.part.rt.ring.aux =
          classTake 32 u.ring.aux ⟨x.addr, e.own, kindButtonLamp, 0#8, [b8 x.index.val, 0#8]⟩ ∧
          (u.ring.head.queue.length < 16 →
            (u.ring.aux.length < 32 → t.part.rt.report = (s.part.arrived .field).report) ∧
            ∀ old rest, u.ring.aux = old :: rest → 32 ≤ u.ring.aux.length → t.part.rt.report =
              (post e .forwardOverflow 3#8 [old.src, old.kind] (s.part.arrived .field)).report)) ∧
        ((u.demand.groups.get x.group).button = false → t.part.rt.ring.aux =
          ((List.finRange 32).filterMap fun n => (e.tab.buttons.get n).filter fun b => b.group = x.group).foldl
            (fun q b => classTake 32 q ⟨b.addr, e.own, kindButtonLamp, 0#8, [b8 b.index.val, 0#8]⟩) u.ring.aux)) ∧
      (u.demand.active = false ∨ e.tab.gtype x.group ≠ .pedestrian ∨ (u.groups.get x.group).state = .green →
        t.part.rt.demand = u.demand ∧ t.part.rt.ring.aux = u.ring.aux)

/-- Dimming (R173, R175, R176): a reading is kept with its stamp and a freshness timer of 10 s; a stale sensor keeps its
reading; the qualification timer turns the brightness, ends the run and opens a settling window of 2.0 s, which its own
timer closes. Sensor A is selected while its reading is fresh, else B, and a change of selection clears the run (R175). With
both thresholds set, a reading of the selected sensor beyond the threshold of the present brightness begins the run, due 60 s
after its stamp, or keeps it, and any other clears it; without them, or from the other sensor, it leaves the run (R176). -/
def Obligations.DimmingSteps : Prop :=
  (∀ (s : State) (h : Header) (v1 v0 : Byte) (x : Sensor), let e := s.part.env; let u := s.part.rt.lamp
    let v := num [v1, v0]; let chosen := if x = .b ∧ u.sensorA.freshDue.isSome = true then Sensor.a else x
    let run := if u.selected = some chosen then u.run else none
    let beyond := fun (on off : Nat) => (u.brightness = .bright ∧ v < on) ∨ (u.brightness = .dim ∧ off < v)
    dstOk h.dst = true → sensorOf e.tab.settings h.src = some x →
    ∃ t, exec (.sensorReading h [v1, v0]) s = .next t ∧ t.part.rt.lamp.selected = some chosen ∧
      (chosen ≠ x ∨ e.tab.settings.dimOn = none ∨ e.tab.settings.dimOff = none → t.part.rt.lamp.run = run) ∧
      ∀ on off, chosen = x → e.tab.settings.dimOn = some on → e.tab.settings.dimOff = some off →
        (beyond on off → t.part.rt.lamp.run = some (run.getD ⟨e.now, e.now + 600#32⟩)) ∧
        (¬ beyond on off → t.part.rt.lamp.run = none)) ∧
  (∀ (s : State) (h : Header) (v1 v0 : Byte) (x : Sensor), dstOk h.dst = true →
    sensorOf s.part.env.tab.settings h.src = some x →
    ∃ t, exec (.sensorReading h [v1, v0]) s = .next t ∧ t.pending = s.pending ∧ t.part.env = s.part.env ∧
      (match x with | .a => t.part.rt.lamp.sensorA | .b => t.part.rt.lamp.sensorB) =
        ⟨some (num [v1, v0]), some s.part.env.now, some (s.part.env.now + 100#32)⟩ ∧
      t.part.rt.lamp.brightness = s.part.rt.lamp.brightness ∧ t.part.rt.lamp.modules = s.part.rt.lamp.modules) ∧
  (∀ s : State, isDue s.part.env.now s.part.rt.lamp.sensorA.freshDue = true →
    ∃ t, exec (.sensorFreshnessExpiry .a) s = .next t ∧
      t = s.withRt { s.part.rt with lamp := t.part.rt.lamp } ∧
      t.part.rt.lamp.sensorA = { s.part.rt.lamp.sensorA with freshDue := none } ∧
      t.part.rt.lamp.selected = (if s.part.rt.lamp.sensorB.freshDue.isSome then some .b else none)) ∧
  (∀ s : State, isDue s.part.env.now s.part.rt.lamp.sensorB.freshDue = true →
    ∃ t, exec (.sensorFreshnessExpiry .b) s = .next t ∧
      t = s.withRt { s.part.rt with lamp := t.part.rt.lamp } ∧
      t.part.rt.lamp.sensorB = { s.part.rt.lamp.sensorB with freshDue := none } ∧
      t.part.rt.lamp.selected = (if s.part.rt.lamp.sensorA.freshDue.isSome then some .a else none)) ∧
  (∀ (s : State) (q : QualifyRun), s.part.rt.lamp.run = some q → reached s.part.env.now q.due = true →
    ∃ t, exec .qualificationTimerExpiry s = .next t ∧ t.pending = s.pending ∧ t.part.env = s.part.env ∧
      t.part.rt.lamp.brightness ≠ s.part.rt.lamp.brightness ∧ t.part.rt.lamp.run = none ∧
      t.part.rt.lamp.settlingDue = some (s.part.env.now + 20#32)) ∧
  (∀ s : State, isDue s.part.env.now s.part.rt.lamp.settlingDue = true →
    exec .settlingWindowEnd s = .next (s.withRt { s.part.rt with
      lamp := { s.part.rt.lamp with settlingDue := none } }))

/-! ### Moments (chapters 1, 3 to 9) -/

/-- START_FLASH_END: STARTUP goes to ALL_RED for the all-red time copied at START, every defined group in DARK or FLASHING
to REST (R7, R42). SHUTDOWN_ALL_RED_END: FLASH with a flash order, the latch as it is, the Stage Engine in IDLE (R46). The
CLEARING_END that brings the last defined group to REST in CLEARING_ALL enters ALL_RED of SHUTDOWN for the all-red time
taken at the last stage start (R46, R65). -/
def Obligations.PhaseEndsOfStartupAndShutdown : Prop :=
  (∀ (s : State) (v : StartValues), phaseOver s.part.env s.part.rt .startup .startFlash = true →
    s.part.rt.mode.startValues = some v → s.part.still → s.part.rt.stage.phase = .idle →
    (∀ g : Group, (s.part.rt.groups.get g).state = flashState s.part.env.tab g) →
    ∃ t, exec .startFlashEnd s = .next t ∧ t.pending = s.pending ∧ t.part.env = s.part.env ∧
      t.part.rt.mode = { s.part.rt.mode with
        sub := .allRed, phaseDue := some (s.part.env.now + BitVec.ofNat 32 v.allRed) } ∧
      (∀ g : Group, (t.part.rt.groups.get g).state = if s.part.env.tab.isDefined g then .rest else .dark) ∧
      t.part.rt.stage = s.part.rt.stage ∧ t.part.rt.trams = s.part.rt.trams) ∧
  (∀ s : State, phaseOver s.part.env s.part.rt .shutdown .allRed = true →
    ∃ t, exec .shutdownAllRedEnd s = .next t ∧ t.pending = s.pending ∧ t.part.env = s.part.env ∧
      t.part.rt.mode = { s.part.rt.mode with mode := .flash, sub := .none, phaseDue := none } ∧
      (∀ g : Group, (t.part.rt.groups.get g).state = flashState s.part.env.tab g) ∧
      t.part.rt.stage.phase = .idle ∧ t.part.rt.demand.active = false ∧ t.part.rt.trams = s.part.rt.trams) ∧
  (∀ (s : State) (g : Group) (v : Taken), let u := s.part.rt
    u.mode.mode = .shutdown → u.mode.sub = .clearingAll → u.stage.phase = .idle → u.notices = [] →
    u.stage.taken = some v → (u.groups.get g).state = .clearing → isDue s.part.env.now (u.groups.get g).clearingDue = true →
    (∀ k : Group, k ≠ g → s.part.env.tab.isDefined k = true → (u.groups.get k).state = .rest) →
    ∃ t, exec (.clearingEnd g) s = .next t ∧ t.pending = s.pending ∧ t.part.env = s.part.env ∧
      t.part.rt.mode = { u.mode with sub := .allRed, phaseDue := some (s.part.env.now + BitVec.ofNat 32 v.allRed) } ∧
      t.part.rt.groups.get g = { u.groups.get g with state := .rest, clearingDue := none } ∧
      (∀ k : Group, k ≠ g → s.part.env.tab.isDefined k = true → t.part.rt.groups.get k = u.groups.get k) ∧
      t.part.rt.stage = { u.stage with inter := t.part.rt.stage.inter } ∧ t.part.rt.trams = u.trams ∧
      t.part.rt.report.summary.getLsbD 0 = true)

/-- STARTUP_ALL_RED_END: FIRST_START is entered, and the Stage Engine composes the first interstage into the start stage
copied at START, with no losing group and the stage's green set gaining (R43, R84), each gaining group in REST taking its
green-start order for t0 + RA at once (R9): STARTING, or GREEN for an RA of 0 (R10). Then, in `finish`, the fault notices
of frames that failed are taken and the Stage Engine reads its conditions; that they are taken there, how often the
conditions are read, and when, is the model's choice (log entries 5, 6, 33). -/
def Obligations.StartupAllRedEndBeginsFirstInterstage : Prop :=
  ∀ (s : State) (v : StartValues), phaseOver s.part.env s.part.rt .startup .allRed = true →
    s.part.rt.mode.startValues = some v →
    ∃ r k, exec .startupAllRedEnd s = .next (s.withRt (finish s.part.env r)) ∧
      r.mode = { s.part.rt.mode with sub := .firstStart, phaseDue := none } ∧
      r.stage.phase = .interstage ∧ r.stage.inter = some k ∧ k.fromStage = none ∧ k.toStage = v.stage ∧
      k.t0 = s.part.env.now ∧ k.losing = [] ∧ k.continuing = [] ∧ k.cause = .first ∧
      k.gaining.map Gaining.group = s.part.env.tab.greenSet v.stage ∧
      (∀ x ∈ k.gaining, x.constraining = [] ∧
        x.greenAt = some (s.part.env.now + BitVec.ofNat 32 (s.part.env.tab.ra x.group))) ∧
      (∀ g ∈ s.part.env.tab.greenSet v.stage, ∀ x tj, x = s.part.rt.groups.get g →
        tj = s.part.env.now + BitVec.ofNat 32 (s.part.env.tab.ra g) →
        x.state = .rest → x.pendingGreen = none → s.part.env.tab.ra g ≤ 36000 →
        (0 < s.part.env.tab.ra g → r.groups.get g = { x with
          state := .starting, pendingGreen := some tj, startingDue := some tj }) ∧
        (s.part.env.tab.ra g = 0 → r.groups.get g = { x with
          state := .green, pendingGreen := none, greenStart := some tj, minMet := false, startingDue := none
          minGreenDue := some (tj + BitVec.ofNat 32 (s.part.env.tab.minGreen g)) })) ∧
      ∀ g : Group, g ∉ s.part.env.tab.greenSet v.stage → r.groups.get g = s.part.rt.groups.get g

/-- The moments of a group: STARTING at t_j − RA (R9), GREEN at t_j with its min green running and its demand emptied (R10,
R119), min-green-met (R11), REST at the end of its clearing (R13); no other group changes by the moment itself. Each change
of state hands the new aspect on: a frame of the group's module that carries, slot by slot, what R4's table gives for type
and state, and dark for a slot that no group holds (R165); it joins the aspect class and becomes the module's sent record
when the Monitor passes it, and changes neither when it does not (R36, R166). What a frame that failed brings about is then
taken by `takeFaults` or `finish`, and `finish` also reads the Stage Engine's conditions; which moments end in which, and
when, is the model's choice (log entries 5, 6, 33). Where the moment completes the interstage (R82), the stage starts at it
(R67): the CLEARING_END of the last losing group in RUNNING, and the GROUP_ENTER_GREEN of the last gaining group of the
first interstage, which enters RUNNING (R43). -/
def Obligations.GroupMoments : Prop :=
  (∀ (s : State) (g : Group), let e := s.part.env; let x := s.part.rt.groups.get g
    (startingNow e s.part.rt g = true → ∃ r,
      exec (.groupEnterStarting g) s = .next (s.withRt (takeFaults e r)) ∧
      r.groups.get g = { x with state := .starting, startingDue := x.pendingGreen } ∧ handsAspect e s.part.rt r g ∧
      (∀ k : Group, k ≠ g → r.groups.get k = s.part.rt.groups.get k) ∧ r.mode = s.part.rt.mode ∧
      r.stage = s.part.rt.stage ∧ r.demand = s.part.rt.demand) ∧
    (∀ tj, greenNow e s.part.rt g = some tj → ∃ r,
      exec (.groupEnterGreen g) s = .next (s.withRt (finish e r)) ∧
      r.groups.get g = { x with
        state := .green, pendingGreen := none, greenStart := some tj, minMet := false, startingDue := none
        minGreenDue := some (tj + BitVec.ofNat 32 (e.tab.minGreen g)) } ∧
      handsAspect e s.part.rt r g ∧ (∀ k : Group, k ≠ g → r.groups.get k = s.part.rt.groups.get k) ∧ r.mode = s.part.rt.mode ∧
      hasDemand r g = false ∧ (∀ k y, r.trams.get k = some y → y.group = g → y.state ≠ .atStop → y.greenGiven = true)) ∧
    (x.state = .green → isDue e.now x.minGreenDue = true → ∃ v,
      exec (.minGreenMet g) s = .next (s.withRt { s.part.rt with groups := v }) ∧
      v.get g = { x with minMet := true, minGreenDue := none } ∧ ∀ k : Group, k ≠ g → v.get k = s.part.rt.groups.get k) ∧
    (x.state = .clearing → isDue e.now x.clearingDue = true → ∃ r,
      exec (.clearingEnd g) s = .next (s.withRt (finish e r)) ∧
      r.groups.get g = { x with state := .rest, clearingDue := none } ∧ handsAspect e s.part.rt r g ∧
      (∀ k : Group, k ≠ g → r.groups.get k = s.part.rt.groups.get k) ∧ r.mode = s.part.rt.mode ∧
      r.demand = s.part.rt.demand ∧ r.stage = { s.part.rt.stage with inter := r.stage.inter })) ∧
  (∀ (s : State) (g : Group) (k : Interstage) (p : PlanEntry), let e := s.part.env; let u := s.part.rt
    u.mode.mode = .running → u.notices = [] → u.stage.phase = .interstage → u.stage.inter = some k →
    (u.groups.get g).state = .clearing → isDue e.now (u.groups.get g).clearingDue = true →
    (∀ x ∈ k.gaining, x.green = true) → (∀ x ∈ k.losing, x.group ≠ g → x.rest = true) → s.part.monitorFollows →
    e.tab.plans.get u.stage.activePlan = some p → 0 < e.tab.minStage k.toStage → e.tab.minStage k.toStage ≤ 36000 →
    ∃ t, exec (.clearingEnd g) s = .next t ∧ t.pending = s.pending ∧ t.part.env = e ∧
      stageStarted e u t.part.rt k p ∧ t.part.rt.mode = u.mode ∧
      t.part.rt.groups.get g = { u.groups.get g with state := .rest, clearingDue := none } ∧
      (∀ i : Group, i ≠ g → t.part.rt.groups.get i = u.groups.get i) ∧ t.part.rt.trams = u.trams) ∧
  ∀ (s : State) (g : Group) (k : Interstage) (p : PlanEntry) (tj : Time) (u1 : Rt), let e := s.part.env; let u := s.part.rt
    u.mode.mode = .startup → u.mode.sub = .firstStart → u.notices = [] → u.stage.phase = .interstage →
    u.stage.inter = some k → k.losing = [] → (∀ x ∈ k.gaining, x.group ≠ g → x.green = true) →
    greenNow e u g = some tj → u1 = { u with groups := upd u.groups g (GroupRec.enterGreen tj (e.tab.minGreen g)) } →
    (∀ m, e.tab.slotOf g = some m → monitorCheck e u1 ⟨m.addr, slotAspects e u1 m.addr, u.lamp.brightness⟩ = none) →
    e.tab.plans.get u.stage.activePlan = some p → 0 < e.tab.minStage k.toStage → e.tab.minStage k.toStage ≤ 36000 →
    ∃ t, exec (.groupEnterGreen g) s = .next t ∧ t.pending = s.pending ∧ t.part.env = e ∧
      stageStarted e u t.part.rt k p ∧ t.part.rt.mode = { u.mode with mode := .running, sub := .none, phaseDue := none } ∧
      t.part.rt.groups = u1.groups ∧ t.part.rt.report.summary.getLsbD 0 = true

/-- The Stage Engine's moments: MIN_END makes STAGE_MIN STAGE_RUN (R68), and then, as at the max-out moment M, the hold's end H
and the truncation point P, the end conditions of the source are acted on. Under AUTONOMOUS: with no hold in effect, demand
elsewhere, a stage to go to and gap-out or max-out end the stage toward the truncation's target, or else the next stage, with
cause GAP or MAX (R72); without these a truncation point reached ends it toward its target with cause TRUNCATE, counted and
starting the lockout (R86, R157, R158); max-out without demand outside lets the timer lapse (R73); otherwise, and while a hold
is in effect (R85), the stage goes on. A hold that keeps a stage with demand elsewhere, a stage to go to and gap-out or max-out,
be they of this very moment, is noted once (R156). Under DIRECTED a pending GO_STAGE, under MANUAL a pending STEP acts or is
used up (R74, R76), a GO_STAGE that a hold keeps waiting being noted (R85, R156), and in FINISHING of SHUTDOWN CLEARING_ALL is
entered (R45). A stopped max-green timer with demand outside the stage starts before the reading (R69). A gap-out under a hold
that ends at H counts with every demand at EXTENSION_HOLD_END (R85). When else gap-out counts at the moment it comes, and what
the stage's record notes of it, is the model's choice (log entry 46). -/
def Obligations.StageMomentsReadConditions : Prop :=
  ∀ (s : State) (i : Instr) (c c1 : StageRec), let e := s.part.env; let u := s.part.rt
    let reread := i = .extensionHoldEnd ∧ u.priority.holdOffer.map HoldOffer.holdTo = some e.now
    u.stage.current = some c → u.notices = [] →
    (reread → c1 = { c with gap := c.gap.map fun x => { x with standing := none } }) → (¬ reread → c1 = c) →
    (i = .minEnd ∧ u.stage.phase = .stageMin ∧ reached e.now c.minEnd = true) ∨
      (i = .maxOut ∧ u.stage.phase = .stageRun ∧ isDue e.now c.maxOut = true) ∨
      (i = .extensionHoldEnd ∧ u.stage.phase = .stageRun ∧ ∃ o, u.priority.holdOffer = some o ∧ reached e.now o.holdTo = true) ∨
      (i = .truncationPointReached ∧ u.stage.phase = .stageRun ∧
        ∃ o, u.priority.truncOffer = some o ∧ reached e.now o.point = true) →
    ∃ r, exec i s = .next (s.withRt r) ∧
      conditionsRead e { u with stage := { u.stage with phase := .stageRun, current := some c1 } } r c1

/-- In STAGE_RUN a command that can change an end condition has its own effect and then has the conditions read at that moment
(R72, R73, R76, R85, R86): `u1` is what the command itself brings about, and `conditionsRead` says what the Stage Engine then
makes of it, be it that the stage ends, is truncated, lapses its timer, acts on a GO_STAGE or STEP, or goes on. So for
SOFT_DEMAND (R122), the write of a loop entry (R90), PRIORITY_ENABLE (R148), CANCEL_TRAM (R141), the keepalive's lapse and the
arm timer that returns to ACTIVE (R58), MANUAL_ON and MANUAL_OFF (R59), the telegrams, accepted and refused (R134 to R136,
R140), a press (R124), the demand delay, the lockout and the gap timer (R117, R118, R120, R158), the record timers (R139), and
the frames and timers of the Loop Unit, which change loops, demand, transmit class and report alone. SoftDemandTests,
PriorityEnableTests, CancelTramRemovesRecord, KeepaliveTimersLapse, TelegramPlacesRecord, TelegramRemovesRecord,
PanelKeysSetSource, PushButtonLatchesDemand, DemandAndLockoutTimers and TramTimersExpire say of these commands what can be said
in full where the Stage Engine has nothing to act on; the write of an assignment in STAGE_RUN is
AssignmentAndButtonWritesTakeEffect's, and what TAKE, RELEASE, GO_STAGE, HOLD, STEP and STOP do there is their own statements'.
The codes of events are log entry 14, that a record notice recomputes the offers is log entry 48, and what gap-out's reading is,
log entry 46; that the conditions are read once the command's blocks have acted, and after which commands, is the model's choice
(log entries 5, 6, 33). -/
def Obligations.RunningStageReadsConditions : Prop :=
  ∀ (s : State) (c : StageRec), let e := s.part.env; let u := s.part.rt; let head := s.part.arrived .head
    let field := s.part.arrived .field
    let moment := fun (i : Instr) (u1 : Rt) =>
      ∃ r, exec i s = .next (s.withRt r) ∧ conditionsRead e u1 r c
    let fromField := fun (i : Instr) (f : Frame) (u1 : Rt) =>
      ∃ r, exec i s = .next (s.withRt (forwardTo e .head f r)) ∧ conditionsRead e u1 r c
    u.runsStage c →
    -- SOFT_DEMAND and the write of a loop entry
    (∀ (h : Header) (b v : Byte) (g : Group), let f := controlFrame h 5 [b, v]
      Delivered s.part f → stagesRun u.mode.mode = true → groupOf b = some g → e.tab.isDefined g = true → v = 0#8 ∨ v = 1#8 →
      ∃ r, exec (.softDemand h [b, v]) s = .next (s.withRt (answer e f .accepted r)) ∧
        conditionsRead e { head with demand := { u.demand with groups := upd u.demand.groups g fun d => { d with
          soft := if v = 1#8 then false else d.soft || !u.isGreen g } } } r c) ∧
    (∀ (h : Header) (i1 m : Byte) (entry : List Byte) (l : Loop) (x : Option LoopEntry)
      (f : Frame), f = h.frame kindTableWrite (6#8 :: i1 :: 0#8 :: m :: entry) →
      Delivered s.part f → entry.length = 20 → loopOf i1 = some l →
      markedEntry ⟨i1, 0#8, m, entry⟩ (parseLoop e.own) = some x → (∀ y, x = some y → loopRelationsOk e.tab l y = true) →
      ∃ e' r u1, exec (.tableWriteLoop h (i1 :: 0#8 :: m :: entry)) s =
          .next { s with part := { env := e', rt := answer e' f .accepted r } } ∧
        e' = { e with tab := { e.tab with loops := e'.tab.loops } } ∧
        (∀ k : Loop, e'.tab.loops.get k = if k = l then x else e.tab.loops.get k) ∧
        u1 = { head with
          loops := u1.loops, demand := u1.demand, ring := { head.ring with aux := u1.ring.aux }, report := u1.report } ∧
        conditionsRead e' u1 r c) ∧
    -- PRIORITY_ENABLE and CANCEL_TRAM
    (∀ (h : Header) (b : Byte), let f := controlFrame h 6 [b]; let on := decide (b = 0#8)
      Delivered s.part f → b = 0#8 ∨ b = 1#8 →
      ∃ r, exec (.priorityEnable h [b]) s = .next (s.withRt (answer e f .accepted r)) ∧
        conditionsRead e (if u.priority.enable = on then head else recomputeOffers e { head with
          priority := { head.priority with
            enable := on, queue := if on then rebuildQueue e.now true u.trams else [] } }) r c) ∧
    (∀ (h : Header) (l1 l0 n1 n0 : Byte) (k : TramSlot) (x : TramRec), let f := controlFrame h 7 [l1, l0, n1, n0]
      Delivered s.part f → 1 ≤ num [l1, l0] ∧ num [l1, l0] ≤ 999 ∧ 1 ≤ num [n1, n0] ∧ num [n1, n0] ≤ 9999 →
      tramSlot u (num [l1, l0]) (num [n1, n0]) = some k → u.trams.get k = some x →
      ∃ r, exec (.cancelTram h [l1, l0, n1, n0]) s = .next (s.withRt (answer e f .accepted r)) ∧
        conditionsRead e (post e .tramCheckout (b8 k.val) ([0#8, 2#8] ++ encFirst x.greenGiven)
          (withRecord e k none head)) r c) ∧
    -- the keepalive's timers
    (u.mode.keep.state ≠ .inactive → isDue e.now u.mode.keep.windowDue = true →
      moment .keepaliveWindowExpiry (lapseOf e 0#8 u)) ∧
    (u.mode.keep.state = .armed → isDue e.now u.mode.keep.armDue = true →
      (u.mode.keep.remembered ≠ some .active → moment .keepaliveArmExpiry (lapseOf e 1#8 u)) ∧
      (u.mode.keep.remembered = some .active → moment .keepaliveArmExpiry { u with
        mode := { u.mode with keep := ⟨.active, u.mode.keep.windowDue, none, none⟩ } })) ∧
    -- the panel keys that give or take MANUAL
    (∀ h : Header, dstOk h.dst = true → u.mode.mode = .running →
      (u.mode.source ≠ .manual → fromField (.manualOn h []) (keyFrame h 1 [])
        (recomputeOffers e (post e .sourceChange 255#8 [3#8] { field with
          mode := { u.mode with source := .manual }
          stage := if u.mode.source = .directed then { u.stage with pendingGo := none, hold := false } else u.stage }))) ∧
      (u.mode.source = .manual → fromField (.manualOff h []) (keyFrame h 2 [])
        (recomputeOffers e (post e .sourceChange 255#8 [1#8] { field with
          mode := { u.mode with source := .autonomous, pendingStep := false } })))) ∧
    -- telegrams
    (∀ (h : Header) (pl : List Byte) (x : Telegram), let f := h.frame kindTramTelegram pl
      dstOk h.dst = true → telegramOf pl = some x → u.mode.mode ≠ .dark →
      (∀ i ∈ fieldRows h pl, ∀ code, telegramRefusedWith e u x code →
        fromField i f (post e .tramRefused h.src [b8 code] field)) ∧
      ∀ route, telegramFieldsOk x = true → routeOf e.tab x.route = some route →
        (∀ k, (tramSlot u x.line x.run).or (freeSlot u) = some k →
          (x.typeCode = 0#8 → x.point = route.checkIn → ∃ y, checkInGives e u x route y ∧
            fromField (.telegramCheckIn h pl) f
              (post e .tramCheckin (b8 k.val) [b8 y.state.code, b8 y.level] (withRecord e k (some y) field))) ∧
          (x.typeCode = 1#8 → route.door = some x.point → ∃ y, doorClosedGives e u x route k y ∧
            fromField (.telegramDoorClosed h pl) f
              (post e .tramCheckin (b8 k.val) [b8 y.state.code, b8 y.level] (withRecord e k (some y) field)))) ∧
        ∀ (i : Instr) (cause : Nat),
          (x.typeCode = 2#8 ∧ x.point = route.checkOut ∧ i = .telegramCheckOut h pl ∧ cause = 0) ∨
            (x.typeCode = 3#8 ∧ i = .telegramCancel h pl ∧ cause = 1) →
          (∀ k y, tramSlot u x.line x.run = some k → u.trams.get k = some y → fromField i f
            (post e .tramCheckout (b8 k.val) ([0#8, b8 cause] ++ encFirst y.greenGiven) (withRecord e k none field))) ∧
          (tramSlot u x.line x.run = none → fromField i f (post e .tramCheckout 255#8 [1#8] field))) ∧
    -- a press
    (∀ (h : Header) (b : Byte) (x : ButtonEntry), let f := h.frame kindPushButton [b]
      dstOk h.dst = true → buttonOf e.tab h.src b = some x →
      (u.demand.active = true → e.tab.gtype x.group = .pedestrian → (u.groups.get x.group).state ≠ .green →
        ∃ u1, u1 = { field with
            demand := { u.demand with groups := upd u.demand.groups x.group fun d => { d with button := true } }
            ring := { field.ring with aux := u1.ring.aux }, report := u1.report } ∧
          fromField (.pushButton h [b]) f u1) ∧
      (u.demand.active = false ∨ e.tab.gtype x.group ≠ .pedestrian ∨ (u.groups.get x.group).state = .green →
        fromField (.pushButton h [b]) f field)) ∧
    -- the timers of demand and lockout
    (∀ (a : Assign) (x : AssignEntry), isDue e.now (u.demand.assigns.get a).delayDue = true →
      e.tab.assigns.get a = some x →
      let acts := loopView e u x.loop == .occupied && !u.isGreen x.group && x.function != .extend
      let gives := x.function == .demandNonlocking
      moment (.demandDelayExpiry a) { u with demand := { u.demand with
        assigns := upd u.demand.assigns a fun y => { y with delayDue := none, giving := y.giving || (acts && gives) }
        groups := upd u.demand.groups x.group fun d => { d with
          loop := d.loop || (acts && !gives)
          nonLocking := d.nonLocking + if acts && gives && !(u.demand.assigns.get a).giving then 1 else 0 } } }) ∧
    (∀ (g : Group) (due : Time), (u.demand.groups.get g).gap = .running due → reached e.now due = true →
      moment (.gapTimerExpiry g) { u with demand := { u.demand with
        groups := upd u.demand.groups g fun d => { d with gap := .expired } } }) ∧
    (isDue e.now u.priority.lockoutDue = true →
      moment .lockoutExpiry (recomputeOffers e { u with priority := { u.priority with lockoutDue := none } })) ∧
    -- the record timers
    (∀ (k : TramSlot) (x : TramRec), u.trams.get k = some x → reached e.now x.timerDue = true →
      let lost := fun (x : TramRec) => post e .tramLost (b8 k.val) (enc1 x.state.code ++ encFirst x.greenGiven)
        (withRecord e k none u)
      let guardEnd := x.timerDue + BitVec.ofNat 32 x.guardTime
      (x.timer = .stopLimit → moment (.stopLimitExpiry k) (lost x)) ∧
      (x.timer = .guardEnd → moment (.guardEndExpiry k) (lost x)) ∧
      (x.timer = .windowEnd → moment (.windowEndExpiry k) (if reached e.now guardEnd then lost { x with state := .overdue }
        else withRecord e k (some { x with state := .overdue, timer := .guardEnd, timerDue := guardEnd }) u))) ∧
    -- the Loop Unit's frames and timers
    (∀ (h : Header) (pl : List Byte), dstOk h.dst = true → pl.length = 16 → u.mode.mode ≠ .dark →
      ∃ r u1, exec (.loopCounts h pl) s = .next (s.withRt (if ∀ k, u.cardRec h.src = some k → k.forward = true
          then forwardTo e .head (h.frame kindLoopCounts pl) r else r)) ∧
        u1 = { field with
          loops := u1.loops, demand := u1.demand, ring := { field.ring with aux := u1.ring.aux }, report := u1.report } ∧
        conditionsRead e u1 r c) ∧
    ∀ i, (∃ a k, i = .cardSilenceExpiry a ∧ u.cardRec a = some k ∧ isDue e.now k.silenceDue = true) ∨
        (∃ l w, i = .tuneEchoExpiry l ∧ (u.loops.recs.get l).sweep = some w ∧ isDue e.now w.echoDue = true) ∨
        (∃ l, i = .tuneRetryExpiry l ∧ isDue e.now (u.loops.recs.get l).retryDue = true) →
      ∃ u1, u1 = { u with
          loops := u1.loops, demand := u1.demand, ring := { u.ring with aux := u1.ring.aux }, report := u1.report } ∧
        moment i u1

/-- The end conditions in STAGE_RUN under AUTONOMOUS. The next stage is the first of the taken sequence, from behind the
sequence position on and cyclically, that is not the current stage, is loaded and not priority-only, has a permitted
transition from it, and, in the AUTONOMOUS test, has demand or is not skippable; the MANUAL test leaves demand out; a stage
has demand through its groups not in GREEN (R71). Gap-out holds while every extension group of the stage has its gap timer
expired, and of a stage without one from its min-end (R70). With no hold in effect: demand elsewhere, a next stage and
gap-out or max-out end the stage toward it (R72); a truncation point reached ends it toward the offer's target (R86);
max-out without demand elsewhere lets the timer lapse (R73); else the stage goes on. Under a hold (R85) the stage goes on,
with the extension notice of R156 when demand elsewhere, a stage to go to and gap-out or max-out hold, whenever they came. A
stage end writes the interstage record of R79: its losing groups are those of the ending stage that the next one lacks.
Gap-out counts while it holds; one that came at this very moment, and has been read where it can end the stage (in STAGE_RUN
under AUTONOMOUS with no hold in effect: R70, R72, R85), counts when demand elsewhere and a next stage or an offer are there
without the demands taken after that reading, which leave the stage running (R72): how the groups whose demand stood then
are kept for that, and that gap-out counts again from the next moment on, is the model's choice (log entry 46). -/
def Obligations.StageEndConditions : Prop :=
  (∀ (e : Env) (r : Rt) (c : StageRec), r.stage.current = some c →
    let extends' := fun (g : Group) => e.tab.inStage c.stage g = true ∧ ∃ (a : Assign) (x : AssignEntry),
      e.tab.assigns.get a = some x ∧ x.group = g ∧ (x.function = .extend ∨ x.function = .lockingAndExtend)
    ((∃ g, extends' g) → (gapOut e r = true ↔ ∀ g, extends' g → (r.demand.groups.get g).gap = .expired)) ∧
    ((∀ g, ¬ extends' g) → (gapOut e r = true ↔ r.stage.phase = .stageRun)) ∧
    (gapOut e r = false → gapCounts e r = false) ∧
    ((∀ v l, c.gap = some v → v.standing = some l → v.since ≠ e.now) → gapCounts e r = gapOut e r) ∧
    ∀ v l u, c.gap = some v → v.standing = some l → v.since = e.now → u = { r with demand := { r.demand with groups := u.demand.groups } } →
      (∀ g ∈ l, u.demand.groups.get g = r.demand.groups.get g) →
      (∀ g : Group, g ∉ l → u.demand.groups.get g = { r.demand.groups.get g with
        loop := false, button := false, soft := false, nonLocking := 0 }) →
      (gapCounts e r = true ↔ gapOut e r = true ∧ demandElsewhere e u = true ∧
        (u.priority.truncOffer ≠ none ∨ nextAutonomous e u ≠ none))) ∧
  (∀ (e : Env) (r : Rt) (c : StageRec), r.stage.current = some c → r.stage.phase = .stageMin ∨ r.stage.phase = .stageRun →
    ∃ v, noteGap e r = { r with stage := { r.stage with current := some { c with gap := v } } } ∧
      (gapOut e r = false → v = none) ∧
      (gapOut e r = true → ∃ w, v = some w ∧ w.since = (c.gap.map GapReading.since).getD e.now ∧
        let acts := r.stage.phase = .stageRun ∧ r.mode.mode = .running ∧ r.mode.source = .autonomous ∧ holdInEffect e r = false
        (¬ acts → w.standing = none) ∧
        (acts → c.gap.bind GapReading.standing = none → w.standing = some ((List.finRange 24).filter (hasDemand r))) ∧
        (acts → ∀ l, c.gap.bind GapReading.standing = some l → w.standing = some (l.filter (hasDemand r))))) ∧
  (∀ (e : Env) (r : Rt) (c : StageRec) (w : Taken), r.stage.current = some c → r.stage.taken = some w →
    let n := w.sequence.length
    let start := if n < r.stage.position then 0 else r.stage.position
    let place := fun (k : Nat) => w.sequence[(start + k) % n]?
    let wanted := fun (x : Stage) => ∃ g : Group, e.tab.inStage x g = true ∧ (r.groups.get g).state ≠ .green ∧
      ((r.demand.groups.get g).loop = true ∨ (r.demand.groups.get g).button = true ∨ (r.demand.groups.get g).soft = true ∨
        0 < (r.demand.groups.get g).nonLocking)
    let manual := fun (x : Stage) => x ≠ c.stage ∧ (∃ y, e.tab.stages.get x = some y ∧ y.priorityOnly = false) ∧
      (e.tab.permitted.get c.stage).get x = some true
    let autonomous := fun (x : Stage) => manual x ∧
      (wanted x ∨ ∃ y, e.tab.stages.get x = some y ∧ y.skippable = false)
    let first := fun (test : Stage → Prop) (x : Stage) => ∃ k, k < n ∧ place k = some x ∧ test x ∧
      ∀ j y, j < k → place j = some y → ¬ test y
    (∀ x, nextAutonomous e r = some x ↔ first autonomous x) ∧ (∀ x, nextManual e r = some x ↔ first manual x) ∧
    (demandElsewhere e r = true ↔ ∃ x ∈ w.sequence, x ≠ c.stage ∧ wanted x ∧
      ∃ y, e.tab.stages.get x = some y ∧ y.priorityOnly = false)) ∧
  (∀ (e : Env) (r : Rt), holdInEffect e r = true →
    let kept := demandElsewhere e r = true ∧ (r.priority.truncOffer ≠ none ∨ nextAutonomous e r ≠ none) ∧
      (gapOut e r = true ∨ maxOutHolds e r = true)
    (¬ kept → autonomousStep e r = (r, false)) ∧ (kept → autonomousStep e r = (extensionNotice e r, false))) ∧
  (∀ (e : Env) (r : Rt), holdInEffect e r = false →
    (∀ x, r.priority.truncOffer = none → demandElsewhere e r = true → nextAutonomous e r = some x →
      gapCounts e r = true ∨ maxOutHolds e r = true →
      autonomousStep e r = (endStage e x (if maxOutHolds e r then .max else .gap) false false r, true)) ∧
    (∀ o, r.priority.truncOffer = some o → reached e.now o.point = true →
      ¬ (demandElsewhere e r = true ∧ (gapCounts e r = true ∨ maxOutHolds e r = true)) →
      autonomousStep e r = (endStage e o.target .truncate true (outOfOrder e r o.target) r, true)) ∧
    (r.priority.truncOffer = none → demandElsewhere e r = false → maxOutHolds e r = true →
      ∃ r', autonomousStep e r = (r', true) ∧ r'.groups = r.groups ∧
        r'.stage = { r.stage with current := r.stage.current.map fun c => { c with maxOut := none } }) ∧
    (r.priority.truncOffer = none → gapCounts e r = false → maxOutHolds e r = false → autonomousStep e r = (r, false))) ∧
  (∀ (e : Env) (r : Rt) (c : StageRec) (x : Stage) (cause : EndCause) (tr late : Bool), r.stage.current = some c →
    ∃ k, (endStage e x cause tr late r).stage.phase = .interstage ∧
      (endStage e x cause tr late r).stage.inter = some k ∧ k.fromStage = some c.stage ∧ k.toStage = x ∧
      k.t0 = e.now ∧ k.cause = cause ∧
      k.losing.map Losing.group = (e.tab.greenSet c.stage).filter (fun g => !e.tab.inStage x g) ∧
      k.gaining.map Gaining.group = (e.tab.greenSet x).filter (fun g => !r.isGreen g) ∧
      (endStage e x cause tr late r).priority.holdOffer = none ∧ (endStage e x cause tr late r).mode = r.mode)

/-- The timers of demand and lockout, where the Stage Engine has nothing else to act on: a gap timer becomes EXPIRED (R120);
a demand delay that runs out with the loop occupied and the group not in GREEN latches LOOP for a locking entry and sets
a non-locking one giving (R117, R118); the lockout ends (R158). Nothing else of the Demand Unit changes. In STAGE_RUN under
AUTONOMOUS, with no offer, a gap timer's expiry that leaves gap-out holding ends the stage with demand elsewhere and a next
stage (R72); without them, and with max-out not reached, the stage goes on, and what its record notes of gap-out is the
model's own (log entry 46). What the demand delay, the lockout and the gap timer do in STAGE_RUN under every source, with or
without offers, is RunningStageReadsConditions'. -/
def Obligations.DemandAndLockoutTimers : Prop :=
  (∀ (s : State) (g : Group) (due : Time) (c : StageRec) (u1 : Rt), let e := s.part.env; let u := s.part.rt
    (u.demand.groups.get g).gap = .running due → reached e.now due = true → u.inRun e .autonomous c → u.notices = [] →
    u.priority.holdOffer = none → u.priority.truncOffer = none → c.gap = none →
    u1 = { u with demand := { u.demand with groups := upd u.demand.groups g fun d => { d with gap := .expired } } } →
    gapOut e u1 = true →
    (∀ x, demandElsewhere e u = true → nextAutonomous e u = some x → s.part.endsCleanly c.stage x →
      ∃ t, exec (.gapTimerExpiry g) s = .next t ∧ t.pending = s.pending ∧ t.part.env = e ∧
        stageEnded e u t.part.rt c.stage x (if maxOutHolds e u then .max else .gap)) ∧
    (demandElsewhere e u = false ∨ nextAutonomous e u = none → maxOutHolds e u = false →
      ∃ t, exec (.gapTimerExpiry g) s = .next t ∧ t.pending = s.pending ∧ t.part.env = e ∧ goesOn u1 t.part.rt c ∧
        t.part.rt.stage.current = some { c with gap := some ⟨e.now, some ((List.finRange 24).filter (hasDemand u))⟩ })) ∧
  (∀ (s : State) (g : Group) (due : Time), (s.part.rt.demand.groups.get g).gap = .running due →
    reached s.part.env.now due = true → s.part.still →
    ∃ t, exec (.gapTimerExpiry g) s = .next t ∧ t.pending = s.pending ∧ t.part.env = s.part.env ∧
      t.part.rt.demand.groups.get g = { s.part.rt.demand.groups.get g with gap := .expired } ∧
      (∀ k : Group, k ≠ g → t.part.rt.demand.groups.get k = s.part.rt.demand.groups.get k) ∧
      t.part.rt.demand.active = s.part.rt.demand.active ∧
      t.part.rt.demand.assigns = s.part.rt.demand.assigns ∧ t.part.rt.groups = s.part.rt.groups) ∧
  (∀ (s : State) (a : Assign) (x : AssignEntry), isDue s.part.env.now (s.part.rt.demand.assigns.get a).delayDue = true →
    s.part.env.tab.assigns.get a = some x → loopView s.part.env s.part.rt x.loop = .occupied →
    (s.part.rt.groups.get x.group).state ≠ .green → s.part.still →
    ∃ t, exec (.demandDelayExpiry a) s = .next t ∧ t.pending = s.pending ∧ t.part.env = s.part.env ∧
      (t.part.rt.demand.assigns.get a).delayDue = none ∧
      (x.function = .demandLocking ∨ x.function = .lockingAndExtend →
        t.part.rt.demand.groups.get x.group = { s.part.rt.demand.groups.get x.group with loop := true }) ∧
      (x.function = .demandNonlocking →
        t.part.rt.demand.assigns.get a = { s.part.rt.demand.assigns.get a with delayDue := none, giving := true } ∧
        t.part.rt.demand.groups.get x.group = { s.part.rt.demand.groups.get x.group with
          nonLocking := (s.part.rt.demand.groups.get x.group).nonLocking +
            (if (s.part.rt.demand.assigns.get a).giving then 0 else 1) }) ∧
      (x.function ≠ .demandNonlocking →
        t.part.rt.demand.assigns.get a = { s.part.rt.demand.assigns.get a with delayDue := none }) ∧
      t.part.rt.demand.active = s.part.rt.demand.active ∧
      (∀ k : Group, k ≠ x.group → t.part.rt.demand.groups.get k = s.part.rt.demand.groups.get k) ∧
      (∀ b : Assign, b ≠ a → t.part.rt.demand.assigns.get b = s.part.rt.demand.assigns.get b) ∧
      t.part.rt.groups = s.part.rt.groups) ∧
  (∀ s : State, isDue s.part.env.now s.part.rt.priority.lockoutDue = true → s.part.still →
    ∃ t, exec .lockoutExpiry s = .next t ∧ t.pending = s.pending ∧ t.part.env = s.part.env ∧
      t.part.rt.priority.lockoutDue = none ∧ t.part.rt.priority.queue = s.part.rt.priority.queue ∧
      t.part.rt.priority.served = s.part.rt.priority.served ∧ t.part.rt.demand = s.part.rt.demand ∧
      t.part.rt.groups = s.part.rt.groups)

/-- A card's silence puts each of its loops in FAULT with CARD_SILENT and empties its wait list (R108); a tried setting whose
echo does not come is followed by the next free setting, or by TUNE_FAIL and the retry timer (R104, R106); the retry
timer returns the loop to its card's wait list, behind a loop that is being swept (R102, R106). A sample in a sweep: an
echo of the tried setting begins the discarding, three samples are discarded, the next valid one ends the sweep in
SETTLING, and one that is not valid is followed by the next setting or TUNE_FAIL (R104 to R106); a sweep that a write began
ignores a sample of its own moment (R90). A sample in FAULT counts toward recovery by its cause (R109, R110) or does
nothing (R106, R108). The first frame of a silent card ends its silence: every loop waits for tuning, the lowest-numbered
begins its sweep, and the frame's samples are ignored (R108). `writtenAt` is the model's own field (log entry 39). LOOP_TUNE
carries the channel and the setting (R178) in the class of R184, with its flags 0 by the model's choice (log entry 43). -/
def Obligations.CardSilenceAndTuning : Prop :=
  (∀ (s : State) (a : Byte) (c : CardRec), s.part.rt.cardRec a = some c → isDue s.part.env.now c.silenceDue = true →
    ∃ t, exec (.cardSilenceExpiry a) s = .next t ∧ t.pending = s.pending ∧ t.part.env = s.part.env ∧
      (∀ l ∈ s.part.env.tab.cardLoops a, (t.part.rt.loops.recs.get l).state = .fault ∧
        (t.part.rt.loops.recs.get l).cause = some .cardSilent ∧
        (t.part.rt.loops.recs.get l).vehicles = (s.part.rt.loops.recs.get l).vehicles) ∧
      (∀ l : Loop, l ∉ s.part.env.tab.cardLoops a → t.part.rt.loops.recs.get l = s.part.rt.loops.recs.get l) ∧
      (∀ k ∈ t.part.rt.loops.cards, k.addr = a → k.silent = true ∧ k.silenceDue = none ∧ k.wait = [])) ∧
  (∀ (s : State) (l : Loop) (x : LoopEntry) (w : Sweep) (n : Nat) (c : CardRec),
    s.part.env.tab.loops.get l = some x → (s.part.rt.loops.recs.get l).sweep = some w →
    isDue s.part.env.now w.echoDue = true → w.tried = some n → (s.part.rt.loops.recs.get l).state = .tuning →
    s.part.rt.cardRec x.card = some c → c.wait.head? = some l → s.part.still →
    ∃ t, exec (.tuneEchoExpiry l) s = .next t ∧ t.pending = s.pending ∧ t.part.env = s.part.env ∧
      (∀ m, nextSetting s.part.env s.part.rt x.card l (n + 1) = some m →
        t.part.rt.loops.recs.get l = { s.part.rt.loops.recs.get l with
          sweep := some ⟨some m, .awaitingEcho, some (s.part.env.now + 10#32)⟩ } ∧
        t.part.rt.ring.aux = classTake 32 s.part.rt.ring.aux
          ⟨x.card, s.part.env.own, kindLoopTune, 0#8, [b8 x.channel.val, b8 m]⟩) ∧
      (nextSetting s.part.env s.part.rt x.card l (n + 1) = none →
        t.part.rt.loops.recs.get l =
          { state := .fault, cause := some .tuneFail, retryDue := some (s.part.env.now + 600#32)
            vehicles := (s.part.rt.loops.recs.get l).vehicles })) ∧
  (∀ (s : State) (l k : Loop) (x : LoopEntry) (c : CardRec), s.part.env.tab.loops.get l = some x →
    isDue s.part.env.now (s.part.rt.loops.recs.get l).retryDue = true → s.part.rt.cardRec x.card = some c →
    c.wait.head? = some k → k ≠ l → (s.part.rt.loops.recs.get k).state = .tuning →
    ∃ t, exec (.tuneRetryExpiry l) s = .next t ∧ t.pending = s.pending ∧ t.part.env = s.part.env ∧
      t.part.rt.loops.recs.get l =
        { state := .waitingTune, vehicles := (s.part.rt.loops.recs.get l).vehicles } ∧
      (∀ j : Loop, j ≠ l → t.part.rt.loops.recs.get j = s.part.rt.loops.recs.get j) ∧
      ∃ c', t.part.rt.cardRec x.card = some c' ∧ l ∈ c'.wait ∧ c'.wait.head? = some k) ∧
  (∀ (s : State) (h : Header) (pl : List Byte) (l : Loop) (x : LoopEntry) (y : LoopRec) (v : Sample) (w : Sweep),
    y = s.part.rt.loops.recs.get l → v = channelSample pl x.channel → s.part.takesSample h pl l x →
    y.state = .tuning → y.sweep = some w →
    ∃ t, exec (.loopCounts h pl) s = .next t ∧ t.pending = s.pending ∧ t.part.env = s.part.env ∧
      let z := t.part.rt.loops.recs.get l; let summary := t.part.rt.report.summary
      (y.writtenAt = some s.part.env.now → z = y) ∧
      (y.writtenAt ≠ some s.part.env.now →
        (w.step = .awaitingEcho → w.tried = some v.echo → z = { y with sweep := some ⟨w.tried, .discarding 0, none⟩ }) ∧
        (w.step = .awaitingEcho → w.tried ≠ some v.echo → z = y) ∧
        (∀ n, w.step = .discarding n →
          (n < 3 → z = { y with sweep := some ⟨w.tried, .discarding (n + 1), none⟩ }) ∧
          (3 ≤ n → x.inside v → w.tried = some v.echo →
            z = { state := .settling, setting := w.tried, bf := some (v.count * 256), vehicles := y.vehicles } ∧
            summary.getLsbD 7 = true) ∧
          (3 ≤ n → ¬ (x.inside v ∧ w.tried = some v.echo) → s.part.env.tab.cardLoops h.src = [l] →
            ∀ a, w.tried = some a →
            (a < 7 → z = { y with sweep := some ⟨some (a + 1), .awaitingEcho, some (s.part.env.now + 10#32)⟩ }) ∧
            (7 ≤ a → z = { state := .fault, cause := some .tuneFail, vehicles := y.vehicles
                           retryDue := some (s.part.env.now + 600#32) } ∧ summary.getLsbD 4 = true))))) ∧
  (∀ (s : State) (h : Header) (pl : List Byte) (l : Loop) (x : LoopEntry) (y : LoopRec) (v : Sample),
    y = s.part.rt.loops.recs.get l → v = channelSample pl x.channel → s.part.takesSample h pl l x →
    y.state = .fault →
    ∃ t, exec (.loopCounts h pl) s = .next t ∧ t.pending = s.pending ∧ t.part.env = s.part.env ∧
      let z := t.part.rt.loops.recs.get l; let recovered := t.part.rt.report.summary.getLsbD 5 = true
      (y.cause = some .noOsc ∨ y.cause = some .outOfWindow →
        (¬ x.inside v → z = { y with recoveryRun := 0 }) ∧
        (x.inside v → y.recoveryRun + 1 < x.recovery → z = { y with recoveryRun := y.recoveryRun + 1 }) ∧
        (x.inside v → x.recovery ≤ y.recoveryRun + 1 → s.part.env.tab.cardLoops h.src = [l] →
          (∀ c, s.part.rt.cardRec h.src = some c → c.wait = []) →
          z = { state := .tuning, sweep := some ⟨some 0, .awaitingEcho, some (s.part.env.now + 10#32)⟩
                vehicles := y.vehicles } ∧ recovered)) ∧
      (y.cause = some .rise →
        (¬ (x.inside v ∧ y.setting = some v.echo) → z = { y with recoveryRun := 0 }) ∧
        (x.inside v → y.setting = some v.echo → y.recoveryRun + 1 < x.recovery →
          z = { y with recoveryRun := y.recoveryRun + 1 }) ∧
        (x.inside v → y.setting = some v.echo → x.recovery ≤ y.recoveryRun + 1 →
          z = { state := .settling, setting := y.setting, bf := some (v.count * 256), vehicles := y.vehicles } ∧
          recovered)) ∧
      (y.cause = some .cardSilent ∨ y.cause = some .tuneFail → z = y)) ∧
  ∀ (s : State) (h : Header) (pl : List Byte) (c : CardRec) (l0 : Loop) (ls : List Loop),
    dstOk h.dst = true → pl.length = 16 → s.part.rt.mode.mode ≠ .dark → s.part.rt.cardRec h.src = some c →
    c.silent = true → c.wait = [] → s.part.env.tab.cardLoops h.src = l0 :: ls →
    (∀ l ∈ l0 :: ls, (s.part.rt.loops.recs.get l).state = .fault ∧
      (s.part.rt.loops.recs.get l).cause = some .cardSilent) →
    ∃ t, exec (.loopCounts h pl) s = .next t ∧ t.pending = s.pending ∧ t.part.env = s.part.env ∧
      t.part.rt.cardRec h.src = some { c with
        silent := false, silenceDue := some (s.part.env.now + 10#32), wait := l0 :: ls } ∧
      t.part.rt.loops.recs.get l0 =
        { state := .tuning, sweep := some ⟨some 0, .awaitingEcho, some (s.part.env.now + 10#32)⟩
          vehicles := (s.part.rt.loops.recs.get l0).vehicles } ∧
      (∀ l ∈ ls, t.part.rt.loops.recs.get l =
        { state := .waitingTune, vehicles := (s.part.rt.loops.recs.get l).vehicles }) ∧
      (∀ l : Loop, l ∉ l0 :: ls → t.part.rt.loops.recs.get l = s.part.rt.loops.recs.get l) ∧
      t.part.rt.report.summary.getLsbD 5 = true

/-- The record timers (R139): STOP_LIMIT and GUARD_END remove the record from table and queue and post TRAM_LOST; WINDOW_END
makes it OVERDUE with GUARD_END due the guard time later, or removes it when that moment has been reached. The codes of the
state and of green given in TRAM_LOST are read from R178 by inference (log entry 14). The junction is one where the Stage Engine
has nothing to act on (`Part.still`); what these timers do in STAGE_RUN is RunningStageReadsConditions'. -/
def Obligations.TramTimersExpire : Prop :=
  ∀ (s : State) (k : TramSlot) (x : TramRec), let e := s.part.env
    s.part.rt.trams.get k = some x → reached e.now x.timerDue = true → s.part.still →
    let lost := fun (x : TramRec) (t : State) => t.pending = s.pending ∧ t.part.env = e ∧
      t.part.rt.trams.get k = none ∧ (∀ j : TramSlot, j ≠ k → t.part.rt.trams.get j = s.part.rt.trams.get j) ∧
      k ∉ t.part.rt.priority.queue ∧
      t.part.rt.report = (post e .tramLost (b8 k.val) (enc1 x.state.code ++ encFirst x.greenGiven) s.part.rt).report
    (x.timer = .stopLimit → ∃ t, exec (.stopLimitExpiry k) s = .next t ∧ lost x t) ∧
    (x.timer = .guardEnd → ∃ t, exec (.guardEndExpiry k) s = .next t ∧ lost x t) ∧
    (x.timer = .windowEnd → ∃ t, exec (.windowEndExpiry k) s = .next t ∧
      (reached e.now (x.timerDue + BitVec.ofNat 32 x.guardTime) = true → lost { x with state := .overdue } t) ∧
      (reached e.now (x.timerDue + BitVec.ofNat 32 x.guardTime) = false →
        t.pending = s.pending ∧ t.part.env = e ∧ t.part.rt.report = s.part.rt.report ∧
        t.part.rt.trams.get k = some { x with
          state := .overdue, timer := .guardEnd, timerDue := x.timerDue + BitVec.ofNat 32 x.guardTime } ∧
        (∀ j : TramSlot, j ≠ k → t.part.rt.trams.get j = s.part.rt.trams.get j) ∧ k ∉ t.part.rt.priority.queue))

/-- The Conflict Monitor: it passes a frame exactly when no slot that enters the starting or green class meets a conflicting
group that holds right of way or whose intergreen runs, and else reports the first that does, slot by slot, the conflicting
groups in ascending order, right of way before intergreen (R34, R35); a frame that it passes updates its records by R32's table,
joins the aspect class, at a full class of 48 with FORWARD_OVERFLOW of the frame removed (R184), and becomes the sent record
(R166); a frame that it stops reaches no class and gives a fault notice (R36). A refresh timer's expiry hands the frame last
sent, when no earlier one waits and it passes, and restarts the timer (R168); one whose moment a frame of that same moment has
reached first still gives its frame, `refreshOwed` being the model's own field for it (log entry 38). That the intergreen test
takes a rest aspect of the same frame as passed first is read from R34 by inference (log entry 40). -/
def Obligations.MonitorGuardsEveryFrame : Prop :=
  (∀ (e : Env) (r : Rt) (f : AspectFrame),
    (let shown := fun (g : Group) =>
        (e.tab.slotOf g).bind fun m => if m.addr = f.addr then some (f.aspects.get m.slot).cls else none;
      let entering := fun (g : Group) =>
        (shown g = some .starting ∨ shown g = some .green) ∧ shown g ≠ (r.monitor.get g).passed;
      let way := fun (i : Group) => entering i ∨ (e.tab.slotOf i ≠ none ∧ (r.monitor.get i).rightOfWay = true ∧
        shown i ≠ some .rest ∧ shown i ≠ some .off ∧ ∀ t, (r.monitor.get i).clearingEnd = some t → reached e.now t = false);
      let short := fun (j i : Group) => e.tab.slotOf i ≠ none ∧
        ((r.monitor.get i).awaiting = true ∨ (shown i = some .rest ∧ (r.monitor.get i).passed = some .green) ∨
          ∃ c, (r.monitor.get i).confirmed = some c ∧
            (e.now - c).toNat < e.tab.ig i j - if shown j = some .starting then e.tab.ra j else 0);
      let meets := fun (k : Slot) (j i : Group) =>
        e.tab.holder f.addr k = some j ∧ entering j ∧ i ≠ j ∧ e.tab.conflicts j i = true;
      (monitorCheck e r f = none ↔ ∀ (k : Slot) (j i : Group), meets k j i → ¬ way i ∧ ¬ short j i) ∧
      (∀ kind j i, monitorCheck e r f = some (kind, j, i) → ∃ k : Slot, meets k j i ∧
        ((kind = .conflictCommand ∧ way i) ∨ (kind = .intergreenShort ∧ ¬ way i ∧ short j i)) ∧
        ∀ (k' : Slot) (j' i' : Group), meets k' j' i' → k' < k ∨ (k' = k ∧ i' < i) → ¬ way i' ∧ ¬ short j' i') ∧
      (monitorCheck e r f = none → ∀ g : Group,
        let x := r.monitor.get g; let z := (handFrame e f r).monitor.get g
        (shown g = none ∨ shown g = x.passed → z = x) ∧ ∀ cls, shown g = some cls → x.passed ≠ some cls →
          (cls = .starting ∨ cls = .green → z = ⟨some cls, true, none, none, false, none⟩) ∧
          (cls = .clearing → x.passed = some .green → z = { x with
            passed := some .clearing, clearingSeen := some e.now, awaiting := true
            clearingEnd := some (e.now + BitVec.ofNat 32 (e.tab.clearing g)) }) ∧
          (cls = .clearing → x.passed ≠ some .green → z = { x with passed := some .clearing }) ∧
          (cls = .rest → x.passed = some .green → z = { x with
            passed := some .rest, rightOfWay := false, clearingSeen := some e.now, clearingEnd := none, awaiting := true }) ∧
          (cls = .rest → x.passed ≠ some .green → z = { x with passed := some .rest, rightOfWay := false }) ∧
          (cls = .off → z = ⟨some .off, false, none, none, false, none⟩))) ∧
    (monitorCheck e r f = none →
      (handFrame e f r).ring.aspects = classTake 48 r.ring.aspects (aspectSet e f.addr f.aspects f.bright) ∧
      (handFrame e f r).notices = r.notices ∧
      (r.ring.aspects.length < 48 → (handFrame e f r).report = r.report) ∧
      (∀ old rest, r.ring.aspects = old :: rest → 48 ≤ r.ring.aspects.length →
        (handFrame e f r).report = (post e .forwardOverflow 2#8 [old.src, old.kind] r).report) ∧
      ∀ x, r.moduleRec f.addr = some x →
        ∃ y, (handFrame e f r).moduleRec f.addr = some y ∧ y = { x with
          sentAspects := some f.aspects, sentBrightness := some f.bright, refreshDue := some (e.now + 2#32)
          refreshOwed := y.refreshOwed }) ∧
    (∀ kind j i, monitorCheck e r f = some (kind, j, i) → (handFrame e f r).ring = r.ring ∧
      (handFrame e f r).monitor = r.monitor ∧ (handFrame e f r).lamp = r.lamp ∧ (handFrame e f r).report = r.report ∧
      (handFrame e f r).notices = r.notices ++ [⟨kind, some j, some i, none, e.now⟩])) ∧
  (∀ (s : State) (a : Byte) (m : ModuleRec), s.part.rt.moduleRec a = some m →
    s.part.rt.notices = [] →
    let owed := m.refreshOwed.filter fun o => o.at' = s.part.env.now
    let count := (s.part.rt.ring.aspects.filter fun f => f.dst == a).length
    let earlier := match owed with | some o => o.frames < count | none => 0 < count
    isDue s.part.env.now m.refreshDue = true ∨ owed ≠ none →
    ∃ t, exec (.refreshTimerExpiry a) s = .next t ∧ t.pending = s.pending ∧ t.part.env = s.part.env ∧
      (earlier → t.part.rt.ring = s.part.rt.ring ∧
        (t.part.rt.moduleRec a).map ModuleRec.refreshDue = some (some (s.part.env.now + 2#32))) ∧
      (∀ v b, ¬ earlier → m.sentAspects = some v → m.sentBrightness = some b →
        monitorCheck s.part.env s.part.rt ⟨a, v, b⟩ = none →
        t.part.rt.ring.aspects = classTake 48 s.part.rt.ring.aspects (AspectFrame.frame s.part.env ⟨a, v, b⟩) ∧
        t.part.rt.mode = s.part.rt.mode ∧ t.part.rt.groups = s.part.rt.groups ∧
        (t.part.rt.moduleRec a).map ModuleRec.refreshDue = some (some (s.part.env.now + 2#32))))

/-- A fault notice in STARTUP, RUNNING or SHUTDOWN (R47): the latch is set, the fault record filled if it was empty (R197),
every group ordered to its FLASH state, each module sent the aspects of these states (R167), the mode FLASH with
MODE_CHANGE, the source NONE with SOURCE_CHANGE (in SHUTDOWN too, where it is NONE already: log entry 9), the pending STEP
dropped, the Stage Engine in IDLE; tram records stay; in DARK and FLASH it is reported and recorded only (R48). So act a
module's silence (R174) and a missing confirmation (R171); in FLASH a module's silence posts LAMP_FAIL and leaves the mode
(R174). A LAMP_STATUS outside an interstage: an output reported FAILED joins the failed-output set and one reported OFF or
ON leaves it, a lamp that is not the red lamp of a vehicle or tram group only outside a settling window, with LAMP_FAIL
(R173); a red lamp that joins it gives RED_OUT, and a go lamp UNEXPECTED in a group neither GREEN nor STARTING, when not
noted yet, UNEXPECTED_CURRENT (R172). That notices are taken when the command's blocks have acted is the model's choice (log
entry 5). -/
def Obligations.FaultNoticesBringFlash : Prop :=
  (∀ (s : State) (a : Byte) (m : ModuleRec), s.part.rt.moduleRec a = some m →
    isDue s.part.env.now m.silenceDue = true → s.part.rt.notices = [] →
    ∃ t, exec (.moduleSilenceExpiry a) s = .next t ∧ t.pending = s.pending ∧ t.part.env = s.part.env ∧
      (∀ n ∈ t.part.rt.lamp.modules, n.addr = a → n.silent = true ∧ n.silenceDue = none) ∧
      (stagesRun s.part.rt.mode.mode = true → broughtToFlash s t ∧
        (s.part.rt.report.record = none → t.part.rt.report.record = some ⟨.fault .moduleSilent, none, none, none,
          s.part.rt.currentStage, s.part.env.now, some a⟩)) ∧
      (s.part.rt.mode.mode = .flash → t.part.rt.mode = s.part.rt.mode ∧ t.part.rt.groups = s.part.rt.groups ∧
        t.part.rt.report.summary.getLsbD 13 = true)) ∧
  (∀ (s : State) (g : Group) (c : ConfirmRec), s.part.rt.lamp.confirms.get g = some c →
    reached s.part.env.now c.due = true → s.part.rt.notices = [] → stagesRun s.part.rt.mode.mode = true →
    ∃ t, exec (.confirmTimeout g) s = .next t ∧ t.pending = s.pending ∧ t.part.env = s.part.env ∧
      broughtToFlash s t ∧ t.part.rt.lamp.confirms.get g = none ∧
      (s.part.rt.report.record = none → t.part.rt.report.record = some ⟨.fault .confirmTimeout, some g, none, none,
        s.part.rt.currentStage, s.part.env.now, (s.part.env.tab.mapping g).map Mapping.addr⟩)) ∧
  (∀ (s : State) (n : FaultNotice), let t := s.withRt (takeNotice s.part.env n s.part.rt)
    t.part.rt.report.summary.getLsbD 14 = true ∧
    (s.part.rt.report.record = none → t.part.rt.report.record =
      some ⟨.fault n.kind, n.group1, n.group2, none, s.part.rt.currentStage, s.part.env.now, n.addr⟩) ∧
    (s.part.rt.report.record ≠ none → t.part.rt.report.record = s.part.rt.report.record) ∧
    (stagesRun s.part.rt.mode.mode = true → broughtToFlash s t ∧ t.part.rt.report.summary.getLsbD 0 = true ∧
      t.part.rt.report.summary.getLsbD 1 = true) ∧
    (s.part.rt.mode.mode = .dark ∨ s.part.rt.mode.mode = .flash →
      t.part.rt = { s.part.rt with report := t.part.rt.report })) ∧
  ∀ (s : State) (h : Header) (pl : List Byte) (m : ModuleRec), let e := s.part.env; let u := s.part.rt
    dstOk h.dst = true → pl.length = 16 → u.moduleRec h.src = some m → u.notices = [] →
    u.stage.phase ≠ .interstage → u.stage.inter = none →
    ∃ t, exec (.lampStatus h pl) s = .next t ∧ t.pending = s.pending ∧ t.part.env = e ∧
      let red := fun (g : Group) (o : Fin 3) => o = 0 ∧ (e.tab.gtype g = .vehicle ∨ e.tab.gtype g = .tram)
      let fresh := fun (a : Slot) (o : Fin 3) => slotOutput pl a o = 2#8 ∧ (⟨h.src, a, o⟩ : FailedOutput) ∉ u.lamp.failed
      let unexpected := fun (a : Slot) (g : Group) => slotOutput pl a 2 = 3#8 ∧ (u.groups.get g).state ≠ .green ∧
        (u.groups.get g).state ≠ .starting ∧ m.noted.get a = false
      let fault := ∃ a g, e.tab.holder h.src a = some g ∧ ((∃ o, red g o ∧ fresh a o) ∨ unexpected a g)
      (∀ (a : Slot) (g : Group) (o : Fin 3), e.tab.holder h.src a = some g →
        ((⟨h.src, a, o⟩ : FailedOutput) ∈ t.part.rt.lamp.failed ↔
          (slotOutput pl a o = 2#8 ∧ (red g o ∨ u.lamp.settlingDue = none ∨ (⟨h.src, a, o⟩ : FailedOutput) ∈ u.lamp.failed)) ∨
          (2 < (slotOutput pl a o).toNat ∧ (⟨h.src, a, o⟩ : FailedOutput) ∈ u.lamp.failed)) ∧
        (fresh a o → ¬ red g o → u.lamp.settlingDue = none → t.part.rt.report.summary.getLsbD 13 = true)) ∧
      (∀ x : FailedOutput, x.addr ≠ h.src ∨ e.tab.holder x.addr x.slot = none →
        (x ∈ t.part.rt.lamp.failed ↔ x ∈ u.lamp.failed)) ∧
      (∀ a g, e.tab.holder h.src a = some g → (t.part.rt.moduleRec h.src).map (fun n => n.noted.get a) =
        some (if unexpected a g then true else if (slotOutput pl a 2).toNat < 3 then false else m.noted.get a)) ∧
      (fault → t.part.rt.report.summary.getLsbD 14 = true) ∧
      (fault → stagesRun u.mode.mode = true → broughtToFlash s t) ∧
      (¬ fault ∨ stagesRun u.mode.mode = false → t.part.rt.mode = u.mode ∧ t.part.rt.groups = u.groups)
end

