-- ==== Sys2Proof/Laws/State.lean ====
section
/-! SUPPORT. One lemma per block update: the field it writes, and the eleven others, which it leaves. -/

namespace Sys2Proof.Machine

@[simp] theorem Rt.withRing_fields (r : Rt) (f : RingUnit → RingUnit) :
    (r.withRing f).ring = f r.ring ∧
    (r.withRing f).mode = r.mode ∧
    (r.withRing f).groups = r.groups ∧
    (r.withRing f).monitor = r.monitor ∧
    (r.withRing f).lamp = r.lamp ∧
    (r.withRing f).stage = r.stage ∧
    (r.withRing f).loops = r.loops ∧
    (r.withRing f).demand = r.demand ∧
    (r.withRing f).trams = r.trams ∧
    (r.withRing f).priority = r.priority ∧
    (r.withRing f).report = r.report ∧
    (r.withRing f).notices = r.notices := by
  simp [Rt.withRing]

@[simp] theorem Rt.withMode_fields (r : Rt) (f : ModeUnit → ModeUnit) :
    (r.withMode f).ring = r.ring ∧
    (r.withMode f).mode = f r.mode ∧
    (r.withMode f).groups = r.groups ∧
    (r.withMode f).monitor = r.monitor ∧
    (r.withMode f).lamp = r.lamp ∧
    (r.withMode f).stage = r.stage ∧
    (r.withMode f).loops = r.loops ∧
    (r.withMode f).demand = r.demand ∧
    (r.withMode f).trams = r.trams ∧
    (r.withMode f).priority = r.priority ∧
    (r.withMode f).report = r.report ∧
    (r.withMode f).notices = r.notices := by
  simp [Rt.withMode]

@[simp] theorem Rt.withGroups_fields (r : Rt) (f : Vector GroupRec 24 → Vector GroupRec 24) :
    (r.withGroups f).ring = r.ring ∧
    (r.withGroups f).mode = r.mode ∧
    (r.withGroups f).groups = f r.groups ∧
    (r.withGroups f).monitor = r.monitor ∧
    (r.withGroups f).lamp = r.lamp ∧
    (r.withGroups f).stage = r.stage ∧
    (r.withGroups f).loops = r.loops ∧
    (r.withGroups f).demand = r.demand ∧
    (r.withGroups f).trams = r.trams ∧
    (r.withGroups f).priority = r.priority ∧
    (r.withGroups f).report = r.report ∧
    (r.withGroups f).notices = r.notices := by
  simp [Rt.withGroups]

@[simp] theorem Rt.withMonitor_fields (r : Rt) (f : Vector MonitorRec 24 → Vector MonitorRec 24) :
    (r.withMonitor f).ring = r.ring ∧
    (r.withMonitor f).mode = r.mode ∧
    (r.withMonitor f).groups = r.groups ∧
    (r.withMonitor f).monitor = f r.monitor ∧
    (r.withMonitor f).lamp = r.lamp ∧
    (r.withMonitor f).stage = r.stage ∧
    (r.withMonitor f).loops = r.loops ∧
    (r.withMonitor f).demand = r.demand ∧
    (r.withMonitor f).trams = r.trams ∧
    (r.withMonitor f).priority = r.priority ∧
    (r.withMonitor f).report = r.report ∧
    (r.withMonitor f).notices = r.notices := by
  simp [Rt.withMonitor]

@[simp] theorem Rt.withLamp_fields (r : Rt) (f : LampUnit → LampUnit) :
    (r.withLamp f).ring = r.ring ∧
    (r.withLamp f).mode = r.mode ∧
    (r.withLamp f).groups = r.groups ∧
    (r.withLamp f).monitor = r.monitor ∧
    (r.withLamp f).lamp = f r.lamp ∧
    (r.withLamp f).stage = r.stage ∧
    (r.withLamp f).loops = r.loops ∧
    (r.withLamp f).demand = r.demand ∧
    (r.withLamp f).trams = r.trams ∧
    (r.withLamp f).priority = r.priority ∧
    (r.withLamp f).report = r.report ∧
    (r.withLamp f).notices = r.notices := by
  simp [Rt.withLamp]

@[simp] theorem Rt.withStage_fields (r : Rt) (f : StageUnit → StageUnit) :
    (r.withStage f).ring = r.ring ∧
    (r.withStage f).mode = r.mode ∧
    (r.withStage f).groups = r.groups ∧
    (r.withStage f).monitor = r.monitor ∧
    (r.withStage f).lamp = r.lamp ∧
    (r.withStage f).stage = f r.stage ∧
    (r.withStage f).loops = r.loops ∧
    (r.withStage f).demand = r.demand ∧
    (r.withStage f).trams = r.trams ∧
    (r.withStage f).priority = r.priority ∧
    (r.withStage f).report = r.report ∧
    (r.withStage f).notices = r.notices := by
  simp [Rt.withStage]

@[simp] theorem Rt.withLoops_fields (r : Rt) (f : LoopUnit → LoopUnit) :
    (r.withLoops f).ring = r.ring ∧
    (r.withLoops f).mode = r.mode ∧
    (r.withLoops f).groups = r.groups ∧
    (r.withLoops f).monitor = r.monitor ∧
    (r.withLoops f).lamp = r.lamp ∧
    (r.withLoops f).stage = r.stage ∧
    (r.withLoops f).loops = f r.loops ∧
    (r.withLoops f).demand = r.demand ∧
    (r.withLoops f).trams = r.trams ∧
    (r.withLoops f).priority = r.priority ∧
    (r.withLoops f).report = r.report ∧
    (r.withLoops f).notices = r.notices := by
  simp [Rt.withLoops]

@[simp] theorem Rt.withDemand_fields (r : Rt) (f : DemandUnit → DemandUnit) :
    (r.withDemand f).ring = r.ring ∧
    (r.withDemand f).mode = r.mode ∧
    (r.withDemand f).groups = r.groups ∧
    (r.withDemand f).monitor = r.monitor ∧
    (r.withDemand f).lamp = r.lamp ∧
    (r.withDemand f).stage = r.stage ∧
    (r.withDemand f).loops = r.loops ∧
    (r.withDemand f).demand = f r.demand ∧
    (r.withDemand f).trams = r.trams ∧
    (r.withDemand f).priority = r.priority ∧
    (r.withDemand f).report = r.report ∧
    (r.withDemand f).notices = r.notices := by
  simp [Rt.withDemand]

@[simp] theorem Rt.withTrams_fields (r : Rt) (f : Vector (Option TramRec) 8 → Vector (Option TramRec) 8) :
    (r.withTrams f).ring = r.ring ∧
    (r.withTrams f).mode = r.mode ∧
    (r.withTrams f).groups = r.groups ∧
    (r.withTrams f).monitor = r.monitor ∧
    (r.withTrams f).lamp = r.lamp ∧
    (r.withTrams f).stage = r.stage ∧
    (r.withTrams f).loops = r.loops ∧
    (r.withTrams f).demand = r.demand ∧
    (r.withTrams f).trams = f r.trams ∧
    (r.withTrams f).priority = r.priority ∧
    (r.withTrams f).report = r.report ∧
    (r.withTrams f).notices = r.notices := by
  simp [Rt.withTrams]

@[simp] theorem Rt.withPriority_fields (r : Rt) (f : PriorityUnit → PriorityUnit) :
    (r.withPriority f).ring = r.ring ∧
    (r.withPriority f).mode = r.mode ∧
    (r.withPriority f).groups = r.groups ∧
    (r.withPriority f).monitor = r.monitor ∧
    (r.withPriority f).lamp = r.lamp ∧
    (r.withPriority f).stage = r.stage ∧
    (r.withPriority f).loops = r.loops ∧
    (r.withPriority f).demand = r.demand ∧
    (r.withPriority f).trams = r.trams ∧
    (r.withPriority f).priority = f r.priority ∧
    (r.withPriority f).report = r.report ∧
    (r.withPriority f).notices = r.notices := by
  simp [Rt.withPriority]

@[simp] theorem Rt.withReport_fields (r : Rt) (f : ReportUnit → ReportUnit) :
    (r.withReport f).ring = r.ring ∧
    (r.withReport f).mode = r.mode ∧
    (r.withReport f).groups = r.groups ∧
    (r.withReport f).monitor = r.monitor ∧
    (r.withReport f).lamp = r.lamp ∧
    (r.withReport f).stage = r.stage ∧
    (r.withReport f).loops = r.loops ∧
    (r.withReport f).demand = r.demand ∧
    (r.withReport f).trams = r.trams ∧
    (r.withReport f).priority = r.priority ∧
    (r.withReport f).report = f r.report ∧
    (r.withReport f).notices = r.notices := by
  simp [Rt.withReport]

@[simp] theorem Rt.withNotices_fields (r : Rt) (f : List FaultNotice → List FaultNotice) :
    (r.withNotices f).ring = r.ring ∧
    (r.withNotices f).mode = r.mode ∧
    (r.withNotices f).groups = r.groups ∧
    (r.withNotices f).monitor = r.monitor ∧
    (r.withNotices f).lamp = r.lamp ∧
    (r.withNotices f).stage = r.stage ∧
    (r.withNotices f).loops = r.loops ∧
    (r.withNotices f).demand = r.demand ∧
    (r.withNotices f).trams = r.trams ∧
    (r.withNotices f).priority = r.priority ∧
    (r.withNotices f).report = r.report ∧
    (r.withNotices f).notices = f r.notices := by
  simp [Rt.withNotices]

end Sys2Proof.Machine
end

