-- ==== Sys2Proof/Laws/Blocks.lean ====
section
/-! SUPPORT. Frame lemmas of the shared operations of Flags, Lamp, Demand, Priority and Tram: the parts of the blocks that each leaves as they were. -/

namespace Sys2Proof.Machine

/-- An invariant of every step of a fold over the blocks holds of the fold. -/
theorem foldl_inv {α : Type} (P : Rt → Prop) (g : Rt → α → Rt) (h : ∀ r a, P r → P (g r a)) :
    ∀ (l : List α) (r : Rt), P r → P (l.foldl g r)
  | [], _, hr => hr
  | a :: l, r, hr => foldl_inv P g h l (g r a) (h r a hr)

@[simp] theorem RingUnit.setPort_fields (q : RingUnit) (p : Port) (x : PortRec) :
    (q.setPort p x).replies = q.replies ∧ (q.setPort p x).aspects = q.aspects ∧ (q.setPort p x).aux = q.aux ∧
    (q.setPort p x).crcFlag = q.crcFlag ∧ (q.setPort p x).port p = x := by
  cases p <;> simp [RingUnit.setPort, RingUnit.port]

@[simp] theorem post_frame (e : Env) (kind : EventKind) (subject : Byte) (detail : List Byte) (r : Rt) :
    (post e kind subject detail r).ring = r.ring ∧ (post e kind subject detail r).mode = r.mode ∧ (post e kind
    subject detail r).groups = r.groups ∧ (post e kind subject detail r).monitor = r.monitor ∧ (post e kind
    subject detail r).lamp = r.lamp ∧ (post e kind subject detail r).stage = r.stage ∧ (post e kind subject
    detail r).loops = r.loops ∧ (post e kind subject detail r).demand = r.demand ∧ (post e kind subject detail
    r).trams = r.trams ∧ (post e kind subject detail r).priority = r.priority ∧ (post e kind subject detail
    r).report.record = r.report.record ∧ (post e kind subject detail r).notices = r.notices := by
  simp only [post, ReportUnit.take, Rt.withReport_fields]
  split <;> (try split) <;> simp


@[simp] theorem fillRecord_frame (e : Env) (kind : RecordKind) (g1 g2 : Option Group) (loop : Option Loop) (addr : Option Byte) (r : Rt) :
    (fillRecord e kind g1 g2 loop addr r).ring = r.ring ∧ (fillRecord e kind g1 g2 loop addr r).mode = r.mode ∧
    (fillRecord e kind g1 g2 loop addr r).groups = r.groups ∧ (fillRecord e kind g1 g2 loop addr r).monitor =
    r.monitor ∧ (fillRecord e kind g1 g2 loop addr r).lamp = r.lamp ∧ (fillRecord e kind g1 g2 loop addr
    r).stage = r.stage ∧ (fillRecord e kind g1 g2 loop addr r).loops = r.loops ∧ (fillRecord e kind g1 g2 loop
    addr r).demand = r.demand ∧ (fillRecord e kind g1 g2 loop addr r).trams = r.trams ∧ (fillRecord e kind g1 g2
    loop addr r).priority = r.priority ∧ (fillRecord e kind g1 g2 loop addr r).report.queue = r.report.queue ∧
    (fillRecord e kind g1 g2 loop addr r).report.lost = r.report.lost ∧ (fillRecord e kind g1 g2 loop addr
    r).report.summary = r.report.summary ∧ (fillRecord e kind g1 g2 loop addr r).notices = r.notices := by
  simp only [fillRecord, Rt.withReport_fields]
  cases r.report.record <;> simp <;> cases kind <;> simp <;> split <;> simp


@[simp] theorem postLoopFault_frame (e : Env) (l : Loop) (c : LoopCause) (r : Rt) :
    (postLoopFault e l c r).ring = r.ring ∧ (postLoopFault e l c r).mode = r.mode ∧ (postLoopFault e l c
    r).groups = r.groups ∧ (postLoopFault e l c r).monitor = r.monitor ∧ (postLoopFault e l c r).lamp = r.lamp ∧
    (postLoopFault e l c r).stage = r.stage ∧ (postLoopFault e l c r).loops = r.loops ∧ (postLoopFault e l c
    r).demand = r.demand ∧ (postLoopFault e l c r).trams = r.trams ∧ (postLoopFault e l c r).priority =
    r.priority ∧ (postLoopFault e l c r).notices = r.notices := by
  simp [postLoopFault]


@[simp] theorem postLampFail_frame (e : Env) (addr : Byte) (slot : Slot) (output : Fin 3) (g : Group) (r : Rt) :
    (postLampFail e addr slot output g r).ring = r.ring ∧ (postLampFail e addr slot output g r).mode = r.mode ∧
    (postLampFail e addr slot output g r).groups = r.groups ∧ (postLampFail e addr slot output g r).monitor =
    r.monitor ∧ (postLampFail e addr slot output g r).lamp = r.lamp ∧ (postLampFail e addr slot output g
    r).stage = r.stage ∧ (postLampFail e addr slot output g r).loops = r.loops ∧ (postLampFail e addr slot
    output g r).demand = r.demand ∧ (postLampFail e addr slot output g r).trams = r.trams ∧ (postLampFail e addr
    slot output g r).priority = r.priority ∧ (postLampFail e addr slot output g r).notices = r.notices := by
  simp [postLampFail]


@[simp] theorem postModuleSilent_frame (e : Env) (addr : Byte) (r : Rt) :
    (postModuleSilent e addr r).ring = r.ring ∧ (postModuleSilent e addr r).mode = r.mode ∧ (postModuleSilent e
    addr r).groups = r.groups ∧ (postModuleSilent e addr r).monitor = r.monitor ∧ (postModuleSilent e addr
    r).lamp = r.lamp ∧ (postModuleSilent e addr r).stage = r.stage ∧ (postModuleSilent e addr r).loops = r.loops
    ∧ (postModuleSilent e addr r).demand = r.demand ∧ (postModuleSilent e addr r).trams = r.trams ∧
    (postModuleSilent e addr r).priority = r.priority ∧ (postModuleSilent e addr r).notices = r.notices := by
  simp [postModuleSilent]


@[simp] theorem postFault_frame (e : Env) (n : FaultNotice) (r : Rt) :
    (postFault e n r).ring = r.ring ∧ (postFault e n r).mode = r.mode ∧ (postFault e n r).groups = r.groups ∧
    (postFault e n r).monitor = r.monitor ∧ (postFault e n r).lamp = r.lamp ∧ (postFault e n r).stage = r.stage
    ∧ (postFault e n r).loops = r.loops ∧ (postFault e n r).demand = r.demand ∧ (postFault e n r).trams =
    r.trams ∧ (postFault e n r).priority = r.priority ∧ (postFault e n r).notices = r.notices := by
  simp only [postFault]
  (repeat' split) <;> simp


@[simp] theorem setOwnerViolation_frame (r : Rt) :
    (setOwnerViolation r).ring = r.ring ∧ (setOwnerViolation r).mode.mode = r.mode.mode ∧ (setOwnerViolation
    r).mode.sub = r.mode.sub ∧ (setOwnerViolation r).mode.startValues = r.mode.startValues ∧ (setOwnerViolation
    r).mode.phaseDue = r.mode.phaseDue ∧ (setOwnerViolation r).mode.source = r.mode.source ∧ (setOwnerViolation
    r).mode.keep = r.mode.keep ∧ (setOwnerViolation r).mode.latch = r.mode.latch ∧ (setOwnerViolation
    r).mode.restartCause = r.mode.restartCause ∧ (setOwnerViolation r).mode.pendingStep = r.mode.pendingStep ∧
    (setOwnerViolation r).groups = r.groups ∧ (setOwnerViolation r).monitor = r.monitor ∧ (setOwnerViolation
    r).lamp = r.lamp ∧ (setOwnerViolation r).stage = r.stage ∧ (setOwnerViolation r).loops = r.loops ∧
    (setOwnerViolation r).demand = r.demand ∧ (setOwnerViolation r).trams = r.trams ∧ (setOwnerViolation
    r).priority = r.priority ∧ (setOwnerViolation r).report = r.report ∧ (setOwnerViolation r).notices =
    r.notices := by
  simp [setOwnerViolation]


@[simp] theorem setCrcFlag_frame (r : Rt) :
    (setCrcFlag r).ring.head = r.ring.head ∧ (setCrcFlag r).ring.field = r.ring.field ∧ (setCrcFlag
    r).ring.replies = r.ring.replies ∧ (setCrcFlag r).ring.aspects = r.ring.aspects ∧ (setCrcFlag r).ring.aux =
    r.ring.aux ∧ (setCrcFlag r).mode = r.mode ∧ (setCrcFlag r).groups = r.groups ∧ (setCrcFlag r).monitor =
    r.monitor ∧ (setCrcFlag r).lamp = r.lamp ∧ (setCrcFlag r).stage = r.stage ∧ (setCrcFlag r).loops = r.loops ∧
    (setCrcFlag r).demand = r.demand ∧ (setCrcFlag r).trams = r.trams ∧ (setCrcFlag r).priority = r.priority ∧
    (setCrcFlag r).report = r.report ∧ (setCrcFlag r).notices = r.notices := by
  simp [setCrcFlag]


@[simp] theorem forwardTo_frame (e : Env) (p : Port) (f : Frame) (r : Rt) :
    (forwardTo e p f r).ring.replies = r.ring.replies ∧ (forwardTo e p f r).ring.aspects = r.ring.aspects ∧
    (forwardTo e p f r).ring.aux = r.ring.aux ∧ (forwardTo e p f r).ring.crcFlag = r.ring.crcFlag ∧ (forwardTo e
    p f r).mode = r.mode ∧ (forwardTo e p f r).groups = r.groups ∧ (forwardTo e p f r).monitor = r.monitor ∧
    (forwardTo e p f r).lamp = r.lamp ∧ (forwardTo e p f r).stage = r.stage ∧ (forwardTo e p f r).loops =
    r.loops ∧ (forwardTo e p f r).demand = r.demand ∧ (forwardTo e p f r).trams = r.trams ∧ (forwardTo e p f
    r).priority = r.priority ∧ (forwardTo e p f r).report.record = r.report.record ∧ (forwardTo e p f r).notices
    = r.notices := by
  simp only [forwardTo]
  (repeat' split) <;> simp


@[simp] theorem postClassOverflow_frame (e : Env) (cls : Nat) (cap : Nat) (q : List Frame) (r : Rt) :
    (postClassOverflow e cls cap q r).ring = r.ring ∧ (postClassOverflow e cls cap q r).mode = r.mode ∧
    (postClassOverflow e cls cap q r).groups = r.groups ∧ (postClassOverflow e cls cap q r).monitor = r.monitor
    ∧ (postClassOverflow e cls cap q r).lamp = r.lamp ∧ (postClassOverflow e cls cap q r).stage = r.stage ∧
    (postClassOverflow e cls cap q r).loops = r.loops ∧ (postClassOverflow e cls cap q r).demand = r.demand ∧
    (postClassOverflow e cls cap q r).trams = r.trams ∧ (postClassOverflow e cls cap q r).priority = r.priority
    ∧ (postClassOverflow e cls cap q r).report.record = r.report.record ∧ (postClassOverflow e cls cap q
    r).notices = r.notices := by
  simp only [postClassOverflow]
  (repeat' split) <;> simp


@[simp] theorem pushAspect_frame (e : Env) (f : Frame) (r : Rt) :
    (pushAspect e f r).ring.head = r.ring.head ∧ (pushAspect e f r).ring.field = r.ring.field ∧ (pushAspect e f
    r).ring.replies = r.ring.replies ∧ (pushAspect e f r).ring.aux = r.ring.aux ∧ (pushAspect e f
    r).ring.crcFlag = r.ring.crcFlag ∧ (pushAspect e f r).mode = r.mode ∧ (pushAspect e f r).groups = r.groups ∧
    (pushAspect e f r).monitor = r.monitor ∧ (pushAspect e f r).lamp = r.lamp ∧ (pushAspect e f r).stage =
    r.stage ∧ (pushAspect e f r).loops = r.loops ∧ (pushAspect e f r).demand = r.demand ∧ (pushAspect e f
    r).trams = r.trams ∧ (pushAspect e f r).priority = r.priority ∧ (pushAspect e f r).report.record =
    r.report.record ∧ (pushAspect e f r).notices = r.notices := by
  simp [pushAspect]


@[simp] theorem pushAux_frame (e : Env) (f : Frame) (r : Rt) :
    (pushAux e f r).ring.head = r.ring.head ∧ (pushAux e f r).ring.field = r.ring.field ∧ (pushAux e f
    r).ring.replies = r.ring.replies ∧ (pushAux e f r).ring.aspects = r.ring.aspects ∧ (pushAux e f
    r).ring.crcFlag = r.ring.crcFlag ∧ (pushAux e f r).mode = r.mode ∧ (pushAux e f r).groups = r.groups ∧
    (pushAux e f r).monitor = r.monitor ∧ (pushAux e f r).lamp = r.lamp ∧ (pushAux e f r).stage = r.stage ∧
    (pushAux e f r).loops = r.loops ∧ (pushAux e f r).demand = r.demand ∧ (pushAux e f r).trams = r.trams ∧
    (pushAux e f r).priority = r.priority ∧ (pushAux e f r).report.record = r.report.record ∧ (pushAux e f
    r).notices = r.notices := by
  simp [pushAux]


@[simp] theorem handNotice_frame (n : FaultNotice) (r : Rt) :
    (handNotice n r).ring = r.ring ∧ (handNotice n r).mode = r.mode ∧ (handNotice n r).groups = r.groups ∧
    (handNotice n r).monitor = r.monitor ∧ (handNotice n r).lamp = r.lamp ∧ (handNotice n r).stage = r.stage ∧
    (handNotice n r).loops = r.loops ∧ (handNotice n r).demand = r.demand ∧ (handNotice n r).trams = r.trams ∧
    (handNotice n r).priority = r.priority ∧ (handNotice n r).report = r.report := by
  simp [handNotice]


@[simp] theorem monitorPass_frame (e : Env) (f : AspectFrame) (r : Rt) :
    (monitorPass e f r).ring = r.ring ∧ (monitorPass e f r).mode = r.mode ∧ (monitorPass e f r).groups =
    r.groups ∧ (monitorPass e f r).lamp = r.lamp ∧ (monitorPass e f r).stage = r.stage ∧ (monitorPass e f
    r).loops = r.loops ∧ (monitorPass e f r).demand = r.demand ∧ (monitorPass e f r).trams = r.trams ∧
    (monitorPass e f r).priority = r.priority ∧ (monitorPass e f r).report = r.report ∧ (monitorPass e f
    r).notices = r.notices := by
  simp only [monitorPass]
  (repeat' split)
  all_goals first
    | (simp; done)
    | (refine foldl_inv (fun x => x.ring = r.ring ∧ x.mode = r.mode ∧ x.groups = r.groups ∧ x.lamp = r.lamp ∧ x.stage = r.stage ∧ x.loops = r.loops ∧ x.demand = r.demand ∧ x.trams = r.trams ∧ x.priority = r.priority ∧ x.report = r.report ∧ x.notices = r.notices) _ (fun x a hx => ?_) _ _ ?_
       · revert hx; (repeat' split) <;> simp <;> intros <;> simp_all
       · (repeat' split) <;> simp)


@[simp] theorem monitorConfirm_frame (g : Group) (stamp : Time) (r : Rt) :
    (monitorConfirm g stamp r).ring = r.ring ∧ (monitorConfirm g stamp r).mode = r.mode ∧ (monitorConfirm g
    stamp r).groups = r.groups ∧ (monitorConfirm g stamp r).lamp = r.lamp ∧ (monitorConfirm g stamp r).stage =
    r.stage ∧ (monitorConfirm g stamp r).loops = r.loops ∧ (monitorConfirm g stamp r).demand = r.demand ∧
    (monitorConfirm g stamp r).trams = r.trams ∧ (monitorConfirm g stamp r).priority = r.priority ∧
    (monitorConfirm g stamp r).report = r.report ∧ (monitorConfirm g stamp r).notices = r.notices := by
  simp only [monitorConfirm]
  (repeat' split) <;> simp


@[simp] theorem updModule_frame (addr : Byte) (f : ModuleRec → ModuleRec) (r : Rt) :
    (updModule addr f r).ring = r.ring ∧ (updModule addr f r).mode = r.mode ∧ (updModule addr f r).groups =
    r.groups ∧ (updModule addr f r).monitor = r.monitor ∧ (updModule addr f r).lamp.confirms = r.lamp.confirms ∧
    (updModule addr f r).lamp.failed = r.lamp.failed ∧ (updModule addr f r).lamp.brightness = r.lamp.brightness
    ∧ (updModule addr f r).lamp.settlingDue = r.lamp.settlingDue ∧ (updModule addr f r).lamp.sensorA =
    r.lamp.sensorA ∧ (updModule addr f r).lamp.sensorB = r.lamp.sensorB ∧ (updModule addr f r).lamp.selected =
    r.lamp.selected ∧ (updModule addr f r).lamp.run = r.lamp.run ∧ (updModule addr f r).stage = r.stage ∧
    (updModule addr f r).loops = r.loops ∧ (updModule addr f r).demand = r.demand ∧ (updModule addr f r).trams =
    r.trams ∧ (updModule addr f r).priority = r.priority ∧ (updModule addr f r).report = r.report ∧ (updModule
    addr f r).notices = r.notices := by
  simp only [updModule]
  (repeat' split) <;> simp


@[simp] theorem handFrame_frame (e : Env) (f : AspectFrame) (r : Rt) :
    (handFrame e f r).ring.head = r.ring.head ∧ (handFrame e f r).ring.field = r.ring.field ∧ (handFrame e f
    r).ring.replies = r.ring.replies ∧ (handFrame e f r).ring.aux = r.ring.aux ∧ (handFrame e f r).ring.crcFlag
    = r.ring.crcFlag ∧ (handFrame e f r).mode = r.mode ∧ (handFrame e f r).groups = r.groups ∧ (handFrame e f
    r).lamp.confirms = r.lamp.confirms ∧ (handFrame e f r).lamp.failed = r.lamp.failed ∧ (handFrame e f
    r).lamp.brightness = r.lamp.brightness ∧ (handFrame e f r).lamp.settlingDue = r.lamp.settlingDue ∧
    (handFrame e f r).lamp.sensorA = r.lamp.sensorA ∧ (handFrame e f r).lamp.sensorB = r.lamp.sensorB ∧
    (handFrame e f r).lamp.selected = r.lamp.selected ∧ (handFrame e f r).lamp.run = r.lamp.run ∧ (handFrame e f
    r).stage = r.stage ∧ (handFrame e f r).loops = r.loops ∧ (handFrame e f r).demand = r.demand ∧ (handFrame e
    f r).trams = r.trams ∧ (handFrame e f r).priority = r.priority ∧ (handFrame e f r).report.record =
    r.report.record := by
  simp only [handFrame]
  (repeat' split) <;> simp


@[simp] theorem frameModule_frame (e : Env) (addr : Byte) (r : Rt) :
    (frameModule e addr r).ring.head = r.ring.head ∧ (frameModule e addr r).ring.field = r.ring.field ∧
    (frameModule e addr r).ring.replies = r.ring.replies ∧ (frameModule e addr r).ring.aux = r.ring.aux ∧
    (frameModule e addr r).ring.crcFlag = r.ring.crcFlag ∧ (frameModule e addr r).mode = r.mode ∧ (frameModule e
    addr r).groups = r.groups ∧ (frameModule e addr r).lamp.confirms = r.lamp.confirms ∧ (frameModule e addr
    r).lamp.failed = r.lamp.failed ∧ (frameModule e addr r).lamp.brightness = r.lamp.brightness ∧ (frameModule e
    addr r).lamp.settlingDue = r.lamp.settlingDue ∧ (frameModule e addr r).lamp.sensorA = r.lamp.sensorA ∧
    (frameModule e addr r).lamp.sensorB = r.lamp.sensorB ∧ (frameModule e addr r).lamp.selected =
    r.lamp.selected ∧ (frameModule e addr r).lamp.run = r.lamp.run ∧ (frameModule e addr r).stage = r.stage ∧
    (frameModule e addr r).loops = r.loops ∧ (frameModule e addr r).demand = r.demand ∧ (frameModule e addr
    r).trams = r.trams ∧ (frameModule e addr r).priority = r.priority ∧ (frameModule e addr r).report.record =
    r.report.record := by
  simp [frameModule]

@[simp] theorem foldl_frameModule_frame {α : Type} (e : Env) (f : α → Byte) (l : List α) (r : Rt) :
    (l.foldl (fun r x => frameModule e (f x) r) r).ring.head = r.ring.head ∧ (l.foldl (fun r x => frameModule e
    (f x) r) r).ring.field = r.ring.field ∧ (l.foldl (fun r x => frameModule e (f x) r) r).ring.replies =
    r.ring.replies ∧ (l.foldl (fun r x => frameModule e (f x) r) r).ring.aux = r.ring.aux ∧ (l.foldl (fun r x =>
    frameModule e (f x) r) r).ring.crcFlag = r.ring.crcFlag ∧ (l.foldl (fun r x => frameModule e (f x) r)
    r).mode = r.mode ∧ (l.foldl (fun r x => frameModule e (f x) r) r).groups = r.groups ∧ (l.foldl (fun r x =>
    frameModule e (f x) r) r).lamp.confirms = r.lamp.confirms ∧ (l.foldl (fun r x => frameModule e (f x) r)
    r).lamp.failed = r.lamp.failed ∧ (l.foldl (fun r x => frameModule e (f x) r) r).lamp.brightness =
    r.lamp.brightness ∧ (l.foldl (fun r x => frameModule e (f x) r) r).lamp.settlingDue = r.lamp.settlingDue ∧
    (l.foldl (fun r x => frameModule e (f x) r) r).lamp.sensorA = r.lamp.sensorA ∧ (l.foldl (fun r x =>
    frameModule e (f x) r) r).lamp.sensorB = r.lamp.sensorB ∧ (l.foldl (fun r x => frameModule e (f x) r)
    r).lamp.selected = r.lamp.selected ∧ (l.foldl (fun r x => frameModule e (f x) r) r).lamp.run = r.lamp.run ∧
    (l.foldl (fun r x => frameModule e (f x) r) r).stage = r.stage ∧ (l.foldl (fun r x => frameModule e (f x) r)
    r).loops = r.loops ∧ (l.foldl (fun r x => frameModule e (f x) r) r).demand = r.demand ∧ (l.foldl (fun r x =>
    frameModule e (f x) r) r).trams = r.trams ∧ (l.foldl (fun r x => frameModule e (f x) r) r).priority =
    r.priority ∧ (l.foldl (fun r x => frameModule e (f x) r) r).report.record = r.report.record := by
  refine foldl_inv (fun x => x.ring.head = r.ring.head ∧ x.ring.field = r.ring.field ∧ x.ring.replies = r.ring.replies ∧ x.ring.aux = r.ring.aux ∧ x.ring.crcFlag = r.ring.crcFlag ∧ x.mode = r.mode ∧ x.groups = r.groups ∧ x.lamp.confirms = r.lamp.confirms ∧ x.lamp.failed = r.lamp.failed ∧ x.lamp.brightness = r.lamp.brightness ∧ x.lamp.settlingDue = r.lamp.settlingDue ∧ x.lamp.sensorA = r.lamp.sensorA ∧ x.lamp.sensorB = r.lamp.sensorB ∧ x.lamp.selected = r.lamp.selected ∧ x.lamp.run = r.lamp.run ∧ x.stage = r.stage ∧ x.loops = r.loops ∧ x.demand = r.demand ∧ x.trams = r.trams ∧ x.priority = r.priority ∧ x.report.record = r.report.record) _ (fun x a hx => ?_) _ _ ?_
  · simp_all
  · simp


@[simp] theorem groupFrame_frame (e : Env) (g : Group) (r : Rt) :
    (groupFrame e g r).ring.head = r.ring.head ∧ (groupFrame e g r).ring.field = r.ring.field ∧ (groupFrame e g
    r).ring.replies = r.ring.replies ∧ (groupFrame e g r).ring.aux = r.ring.aux ∧ (groupFrame e g
    r).ring.crcFlag = r.ring.crcFlag ∧ (groupFrame e g r).mode = r.mode ∧ (groupFrame e g r).groups = r.groups ∧
    (groupFrame e g r).lamp.confirms = r.lamp.confirms ∧ (groupFrame e g r).lamp.failed = r.lamp.failed ∧
    (groupFrame e g r).lamp.brightness = r.lamp.brightness ∧ (groupFrame e g r).lamp.settlingDue =
    r.lamp.settlingDue ∧ (groupFrame e g r).lamp.sensorA = r.lamp.sensorA ∧ (groupFrame e g r).lamp.sensorB =
    r.lamp.sensorB ∧ (groupFrame e g r).lamp.selected = r.lamp.selected ∧ (groupFrame e g r).lamp.run =
    r.lamp.run ∧ (groupFrame e g r).stage = r.stage ∧ (groupFrame e g r).loops = r.loops ∧ (groupFrame e g
    r).demand = r.demand ∧ (groupFrame e g r).trams = r.trams ∧ (groupFrame e g r).priority = r.priority ∧
    (groupFrame e g r).report.record = r.report.record := by
  simp only [groupFrame]
  (repeat' split) <;> simp


@[simp] theorem frameAll_frame (e : Env) (r : Rt) :
    (frameAll e r).ring.head = r.ring.head ∧ (frameAll e r).ring.field = r.ring.field ∧ (frameAll e
    r).ring.replies = r.ring.replies ∧ (frameAll e r).ring.aux = r.ring.aux ∧ (frameAll e r).ring.crcFlag =
    r.ring.crcFlag ∧ (frameAll e r).mode = r.mode ∧ (frameAll e r).groups = r.groups ∧ (frameAll e
    r).lamp.confirms = r.lamp.confirms ∧ (frameAll e r).lamp.failed = r.lamp.failed ∧ (frameAll e
    r).lamp.brightness = r.lamp.brightness ∧ (frameAll e r).lamp.settlingDue = r.lamp.settlingDue ∧ (frameAll e
    r).lamp.sensorA = r.lamp.sensorA ∧ (frameAll e r).lamp.sensorB = r.lamp.sensorB ∧ (frameAll e
    r).lamp.selected = r.lamp.selected ∧ (frameAll e r).lamp.run = r.lamp.run ∧ (frameAll e r).stage = r.stage ∧
    (frameAll e r).loops = r.loops ∧ (frameAll e r).demand = r.demand ∧ (frameAll e r).trams = r.trams ∧
    (frameAll e r).priority = r.priority ∧ (frameAll e r).report.record = r.report.record := by
  simp only [frameAll]
  (repeat' split) <;> simp


@[simp] theorem refreshFrame_frame (e : Env) (addr : Byte) (m : ModuleRec) (r : Rt) :
    (refreshFrame e addr m r).ring.head = r.ring.head ∧ (refreshFrame e addr m r).ring.field = r.ring.field ∧
    (refreshFrame e addr m r).ring.replies = r.ring.replies ∧ (refreshFrame e addr m r).ring.aux = r.ring.aux ∧
    (refreshFrame e addr m r).ring.crcFlag = r.ring.crcFlag ∧ (refreshFrame e addr m r).mode = r.mode ∧
    (refreshFrame e addr m r).groups = r.groups ∧ (refreshFrame e addr m r).lamp.confirms = r.lamp.confirms ∧
    (refreshFrame e addr m r).lamp.failed = r.lamp.failed ∧ (refreshFrame e addr m r).lamp.brightness =
    r.lamp.brightness ∧ (refreshFrame e addr m r).lamp.settlingDue = r.lamp.settlingDue ∧ (refreshFrame e addr m
    r).lamp.sensorA = r.lamp.sensorA ∧ (refreshFrame e addr m r).lamp.sensorB = r.lamp.sensorB ∧ (refreshFrame e addr m r).lamp.selected = r.lamp.selected ∧ (refreshFrame e addr m r).lamp.run = r.lamp.run ∧ (refreshFrame e addr m r).stage = r.stage ∧ (refreshFrame e addr m r).loops = r.loops ∧ (refreshFrame e addr m r).demand =
    r.demand ∧ (refreshFrame e addr m r).trams = r.trams ∧ (refreshFrame e addr m r).priority = r.priority ∧
    (refreshFrame e addr m r).report.record = r.report.record := by
  simp only [refreshFrame]
  (repeat' split) <;> simp

@[simp] theorem refreshExpiry_frame (e : Env) (addr : Byte) (r : Rt) :
    (refreshExpiry e addr r).ring.head = r.ring.head ∧ (refreshExpiry e addr r).ring.field = r.ring.field ∧
    (refreshExpiry e addr r).ring.replies = r.ring.replies ∧ (refreshExpiry e addr r).ring.aux = r.ring.aux ∧
    (refreshExpiry e addr r).ring.crcFlag = r.ring.crcFlag ∧ (refreshExpiry e addr r).mode = r.mode ∧
    (refreshExpiry e addr r).groups = r.groups ∧ (refreshExpiry e addr r).lamp.confirms = r.lamp.confirms ∧
    (refreshExpiry e addr r).lamp.failed = r.lamp.failed ∧ (refreshExpiry e addr r).lamp.brightness =
    r.lamp.brightness ∧ (refreshExpiry e addr r).lamp.settlingDue = r.lamp.settlingDue ∧ (refreshExpiry e addr
    r).lamp.sensorA = r.lamp.sensorA ∧ (refreshExpiry e addr r).lamp.sensorB = r.lamp.sensorB ∧ (refreshExpiry e
    addr r).lamp.selected = r.lamp.selected ∧ (refreshExpiry e addr r).lamp.run = r.lamp.run ∧ (refreshExpiry e
    addr r).stage = r.stage ∧ (refreshExpiry e addr r).loops = r.loops ∧ (refreshExpiry e addr r).demand =
    r.demand ∧ (refreshExpiry e addr r).trams = r.trams ∧ (refreshExpiry e addr r).priority = r.priority ∧
    (refreshExpiry e addr r).report.record = r.report.record := by
  simp only [refreshExpiry]
  (repeat' split) <;> simp


@[simp] theorem remapModules_frame (e : Env) (r : Rt) :
    (remapModules e r).ring = r.ring ∧ (remapModules e r).mode = r.mode ∧ (remapModules e r).groups = r.groups ∧
    (remapModules e r).monitor = r.monitor ∧ (remapModules e r).lamp.confirms = r.lamp.confirms ∧ (remapModules
    e r).lamp.brightness = r.lamp.brightness ∧ (remapModules e r).lamp.settlingDue = r.lamp.settlingDue ∧
    (remapModules e r).lamp.sensorA = r.lamp.sensorA ∧ (remapModules e r).lamp.sensorB = r.lamp.sensorB ∧
    (remapModules e r).lamp.selected = r.lamp.selected ∧ (remapModules e r).lamp.run = r.lamp.run ∧
    (remapModules e r).stage = r.stage ∧ (remapModules e r).loops = r.loops ∧ (remapModules e r).demand =
    r.demand ∧ (remapModules e r).trams = r.trams ∧ (remapModules e r).priority = r.priority ∧ (remapModules e
    r).report = r.report ∧ (remapModules e r).notices = r.notices := by
  simp [remapModules]


@[simp] theorem clearNoted_frame (m : Option Mapping) (r : Rt) :
    (clearNoted m r).ring = r.ring ∧ (clearNoted m r).mode = r.mode ∧ (clearNoted m r).groups = r.groups ∧
    (clearNoted m r).monitor = r.monitor ∧ (clearNoted m r).lamp.confirms = r.lamp.confirms ∧ (clearNoted m
    r).lamp.failed = r.lamp.failed ∧ (clearNoted m r).lamp.brightness = r.lamp.brightness ∧ (clearNoted m
    r).lamp.settlingDue = r.lamp.settlingDue ∧ (clearNoted m r).lamp.sensorA = r.lamp.sensorA ∧ (clearNoted m
    r).lamp.sensorB = r.lamp.sensorB ∧ (clearNoted m r).lamp.selected = r.lamp.selected ∧ (clearNoted m
    r).lamp.run = r.lamp.run ∧ (clearNoted m r).stage = r.stage ∧ (clearNoted m r).loops = r.loops ∧ (clearNoted
    m r).demand = r.demand ∧ (clearNoted m r).trams = r.trams ∧ (clearNoted m r).priority = r.priority ∧
    (clearNoted m r).report = r.report ∧ (clearNoted m r).notices = r.notices := by
  simp only [clearNoted]
  (repeat' split) <;> simp


@[simp] theorem monitorUnslotted_frame (e : Env) (r : Rt) :
    (monitorUnslotted e r).ring = r.ring ∧ (monitorUnslotted e r).mode = r.mode ∧ (monitorUnslotted e r).groups
    = r.groups ∧ (monitorUnslotted e r).lamp = r.lamp ∧ (monitorUnslotted e r).stage = r.stage ∧
    (monitorUnslotted e r).loops = r.loops ∧ (monitorUnslotted e r).demand = r.demand ∧ (monitorUnslotted e
    r).trams = r.trams ∧ (monitorUnslotted e r).priority = r.priority ∧ (monitorUnslotted e r).report = r.report
    ∧ (monitorUnslotted e r).notices = r.notices := by
  simp only [monitorUnslotted]
  (repeat' split)
  all_goals first
    | (simp; done)
    | (refine foldl_inv (fun x => x.ring = r.ring ∧ x.mode = r.mode ∧ x.groups = r.groups ∧ x.lamp = r.lamp ∧ x.stage = r.stage ∧ x.loops = r.loops ∧ x.demand = r.demand ∧ x.trams = r.trams ∧ x.priority = r.priority ∧ x.report = r.report ∧ x.notices = r.notices) _ (fun x a hx => ?_) _ _ ?_
       · revert hx; (repeat' split) <;> simp <;> intros <;> simp_all
       · (repeat' split) <;> simp)


@[simp] theorem lampDark_frame (r : Rt) :
    (lampDark r).ring = r.ring ∧ (lampDark r).mode = r.mode ∧ (lampDark r).groups = r.groups ∧ (lampDark
    r).monitor = r.monitor ∧ (lampDark r).lamp.confirms = r.lamp.confirms ∧ (lampDark r).lamp.failed =
    r.lamp.failed ∧ (lampDark r).lamp.brightness = r.lamp.brightness ∧ (lampDark r).lamp.settlingDue =
    r.lamp.settlingDue ∧ (lampDark r).lamp.sensorA = r.lamp.sensorA ∧ (lampDark r).lamp.sensorB = r.lamp.sensorB
    ∧ (lampDark r).lamp.selected = r.lamp.selected ∧ (lampDark r).lamp.run = r.lamp.run ∧ (lampDark r).stage =
    r.stage ∧ (lampDark r).loops = r.loops ∧ (lampDark r).demand = r.demand ∧ (lampDark r).trams = r.trams ∧
    (lampDark r).priority = r.priority ∧ (lampDark r).report = r.report ∧ (lampDark r).notices = r.notices := by
  simp [lampDark]


@[simp] theorem lampLeaveDark_frame (e : Env) (r : Rt) :
    (lampLeaveDark e r).ring.head = r.ring.head ∧ (lampLeaveDark e r).ring.field = r.ring.field ∧ (lampLeaveDark
    e r).ring.replies = r.ring.replies ∧ (lampLeaveDark e r).ring.aux = r.ring.aux ∧ (lampLeaveDark e
    r).ring.crcFlag = r.ring.crcFlag ∧ (lampLeaveDark e r).mode = r.mode ∧ (lampLeaveDark e r).groups = r.groups
    ∧ (lampLeaveDark e r).lamp.confirms = r.lamp.confirms ∧ (lampLeaveDark e r).lamp.failed = r.lamp.failed ∧
    (lampLeaveDark e r).lamp.brightness = r.lamp.brightness ∧ (lampLeaveDark e r).lamp.settlingDue =
    r.lamp.settlingDue ∧ (lampLeaveDark e r).lamp.sensorA = r.lamp.sensorA ∧ (lampLeaveDark e r).lamp.sensorB =
    r.lamp.sensorB ∧ (lampLeaveDark e r).lamp.selected = r.lamp.selected ∧ (lampLeaveDark e r).lamp.run =
    r.lamp.run ∧ (lampLeaveDark e r).stage = r.stage ∧ (lampLeaveDark e r).loops = r.loops ∧ (lampLeaveDark e
    r).demand = r.demand ∧ (lampLeaveDark e r).trams = r.trams ∧ (lampLeaveDark e r).priority = r.priority ∧
    (lampLeaveDark e r).report.record = r.report.record := by
  simp [lampLeaveDark]


@[simp] theorem lampStartup_frame (e : Env) (r : Rt) :
    (lampStartup e r).ring = r.ring ∧ (lampStartup e r).mode = r.mode ∧ (lampStartup e r).groups = r.groups ∧
    (lampStartup e r).monitor = r.monitor ∧ (lampStartup e r).lamp = r.lamp ∧ (lampStartup e r).stage = r.stage
    ∧ (lampStartup e r).loops = r.loops ∧ (lampStartup e r).demand = r.demand ∧ (lampStartup e r).trams =
    r.trams ∧ (lampStartup e r).priority = r.priority ∧ (lampStartup e r).report = r.report := by
  simp only [lampStartup]
  (repeat' split)
  all_goals first
    | (simp; done)
    | (refine foldl_inv (fun x => x.ring = r.ring ∧ x.mode = r.mode ∧ x.groups = r.groups ∧ x.monitor = r.monitor ∧ x.lamp = r.lamp ∧ x.stage = r.stage ∧ x.loops = r.loops ∧ x.demand = r.demand ∧ x.trams = r.trams ∧ x.priority = r.priority ∧ x.report = r.report) _ (fun x a hx => ?_) _ _ ?_
       · revert hx; (repeat' split) <;> simp <;> intros <;> simp_all
       · (repeat' split) <;> simp)


@[simp] theorem lampRestart_frame (e : Env) (mode : Mode) (r : Rt) :
    (lampRestart e mode r).ring = r.ring ∧ (lampRestart e mode r).mode = r.mode ∧ (lampRestart e mode r).groups
    = r.groups ∧ (lampRestart e mode r).monitor = r.monitor ∧ (lampRestart e mode r).lamp.brightness =
    r.lamp.brightness ∧ (lampRestart e mode r).stage = r.stage ∧ (lampRestart e mode r).loops = r.loops ∧
    (lampRestart e mode r).demand = r.demand ∧ (lampRestart e mode r).trams = r.trams ∧ (lampRestart e mode
    r).priority = r.priority ∧ (lampRestart e mode r).report = r.report ∧ (lampRestart e mode r).notices =
    r.notices := by
  simp [lampRestart]


@[simp] theorem silenceExpiry_frame (e : Env) (addr : Byte) (r : Rt) :
    (silenceExpiry e addr r).ring = r.ring ∧ (silenceExpiry e addr r).mode = r.mode ∧ (silenceExpiry e addr
    r).groups = r.groups ∧ (silenceExpiry e addr r).monitor = r.monitor ∧ (silenceExpiry e addr r).lamp.confirms
    = r.lamp.confirms ∧ (silenceExpiry e addr r).lamp.failed = r.lamp.failed ∧ (silenceExpiry e addr
    r).lamp.brightness = r.lamp.brightness ∧ (silenceExpiry e addr r).lamp.settlingDue = r.lamp.settlingDue ∧
    (silenceExpiry e addr r).lamp.sensorA = r.lamp.sensorA ∧ (silenceExpiry e addr r).lamp.sensorB =
    r.lamp.sensorB ∧ (silenceExpiry e addr r).lamp.selected = r.lamp.selected ∧ (silenceExpiry e addr
    r).lamp.run = r.lamp.run ∧ (silenceExpiry e addr r).stage = r.stage ∧ (silenceExpiry e addr r).loops =
    r.loops ∧ (silenceExpiry e addr r).demand = r.demand ∧ (silenceExpiry e addr r).trams = r.trams ∧
    (silenceExpiry e addr r).priority = r.priority := by
  simp only [silenceExpiry]
  (repeat' split) <;> simp


@[simp] theorem statusSeen_frame (e : Env) (addr : Byte) (r : Rt) :
    (statusSeen e addr r).ring = r.ring ∧ (statusSeen e addr r).mode = r.mode ∧ (statusSeen e addr r).groups =
    r.groups ∧ (statusSeen e addr r).monitor = r.monitor ∧ (statusSeen e addr r).lamp.confirms = r.lamp.confirms
    ∧ (statusSeen e addr r).lamp.failed = r.lamp.failed ∧ (statusSeen e addr r).lamp.brightness =
    r.lamp.brightness ∧ (statusSeen e addr r).lamp.settlingDue = r.lamp.settlingDue ∧ (statusSeen e addr
    r).lamp.sensorA = r.lamp.sensorA ∧ (statusSeen e addr r).lamp.sensorB = r.lamp.sensorB ∧ (statusSeen e addr
    r).lamp.selected = r.lamp.selected ∧ (statusSeen e addr r).lamp.run = r.lamp.run ∧ (statusSeen e addr
    r).stage = r.stage ∧ (statusSeen e addr r).loops = r.loops ∧ (statusSeen e addr r).demand = r.demand ∧
    (statusSeen e addr r).trams = r.trams ∧ (statusSeen e addr r).priority = r.priority ∧ (statusSeen e addr
    r).report = r.report ∧ (statusSeen e addr r).notices = r.notices := by
  simp only [statusSeen]
  (repeat' split) <;> simp


@[simp] theorem goLampReport_frame (e : Env) (addr : Byte) (s : Slot) (g : Group) (state : GroupState) (code : Byte) (r : Rt) :
    (goLampReport e addr s g state code r).ring = r.ring ∧ (goLampReport e addr s g state code r).mode = r.mode
    ∧ (goLampReport e addr s g state code r).groups = r.groups ∧ (goLampReport e addr s g state code r).monitor
    = r.monitor ∧ (goLampReport e addr s g state code r).lamp.confirms = r.lamp.confirms ∧ (goLampReport e addr
    s g state code r).lamp.failed = r.lamp.failed ∧ (goLampReport e addr s g state code r).lamp.brightness =
    r.lamp.brightness ∧ (goLampReport e addr s g state code r).lamp.settlingDue = r.lamp.settlingDue ∧
    (goLampReport e addr s g state code r).lamp.sensorA = r.lamp.sensorA ∧ (goLampReport e addr s g state code
    r).lamp.sensorB = r.lamp.sensorB ∧ (goLampReport e addr s g state code r).lamp.selected = r.lamp.selected ∧
    (goLampReport e addr s g state code r).lamp.run = r.lamp.run ∧ (goLampReport e addr s g state code r).stage
    = r.stage ∧ (goLampReport e addr s g state code r).loops = r.loops ∧ (goLampReport e addr s g state code
    r).demand = r.demand ∧ (goLampReport e addr s g state code r).trams = r.trams ∧ (goLampReport e addr s g
    state code r).priority = r.priority ∧ (goLampReport e addr s g state code r).report = r.report := by
  simp only [goLampReport]
  (repeat' split) <;> simp


@[simp] theorem outputReport_frame (e : Env) (addr : Byte) (s : Slot) (o : Fin 3) (g : Group) (code : Byte) (r : Rt) :
    (outputReport e addr s o g code r).ring = r.ring ∧ (outputReport e addr s o g code r).mode = r.mode ∧
    (outputReport e addr s o g code r).groups = r.groups ∧ (outputReport e addr s o g code r).monitor =
    r.monitor ∧ (outputReport e addr s o g code r).lamp.modules = r.lamp.modules ∧ (outputReport e addr s o g
    code r).lamp.confirms = r.lamp.confirms ∧ (outputReport e addr s o g code r).lamp.brightness =
    r.lamp.brightness ∧ (outputReport e addr s o g code r).lamp.settlingDue = r.lamp.settlingDue ∧ (outputReport
    e addr s o g code r).lamp.sensorA = r.lamp.sensorA ∧ (outputReport e addr s o g code r).lamp.sensorB =
    r.lamp.sensorB ∧ (outputReport e addr s o g code r).lamp.selected = r.lamp.selected ∧ (outputReport e addr s
    o g code r).lamp.run = r.lamp.run ∧ (outputReport e addr s o g code r).stage = r.stage ∧ (outputReport e
    addr s o g code r).loops = r.loops ∧ (outputReport e addr s o g code r).demand = r.demand ∧ (outputReport e
    addr s o g code r).trams = r.trams ∧ (outputReport e addr s o g code r).priority = r.priority := by
  simp only [outputReport]
  (repeat' split) <;> simp


@[simp] theorem slotOutputs_frame (e : Env) (addr : Byte) (states : Vector GroupRec 24) (pl : List Byte) (s : Slot) (r : Rt) :
    (slotOutputs e addr states pl s r).ring = r.ring ∧ (slotOutputs e addr states pl s r).mode = r.mode ∧
    (slotOutputs e addr states pl s r).groups = r.groups ∧ (slotOutputs e addr states pl s r).monitor =
    r.monitor ∧ (slotOutputs e addr states pl s r).lamp.confirms = r.lamp.confirms ∧ (slotOutputs e addr states
    pl s r).lamp.brightness = r.lamp.brightness ∧ (slotOutputs e addr states pl s r).lamp.settlingDue =
    r.lamp.settlingDue ∧ (slotOutputs e addr states pl s r).lamp.sensorA = r.lamp.sensorA ∧ (slotOutputs e addr
    states pl s r).lamp.sensorB = r.lamp.sensorB ∧ (slotOutputs e addr states pl s r).lamp.selected =
    r.lamp.selected ∧ (slotOutputs e addr states pl s r).lamp.run = r.lamp.run ∧ (slotOutputs e addr states pl s
    r).stage = r.stage ∧ (slotOutputs e addr states pl s r).loops = r.loops ∧ (slotOutputs e addr states pl s
    r).demand = r.demand ∧ (slotOutputs e addr states pl s r).trams = r.trams ∧ (slotOutputs e addr states pl s
    r).priority = r.priority := by
  simp only [slotOutputs]
  split
  · simp
  · rename_i g _
    have h : ∀ l : List (Fin 3), (fun x : Rt => x.ring = r.ring ∧ x.mode = r.mode ∧ x.groups = r.groups ∧ x.monitor = r.monitor ∧ x.lamp.confirms = r.lamp.confirms ∧ x.lamp.brightness = r.lamp.brightness ∧ x.lamp.settlingDue = r.lamp.settlingDue ∧ x.lamp.sensorA = r.lamp.sensorA ∧ x.lamp.sensorB = r.lamp.sensorB ∧ x.lamp.selected = r.lamp.selected ∧ x.lamp.run = r.lamp.run ∧ x.stage = r.stage ∧ x.loops = r.loops ∧ x.demand = r.demand ∧ x.trams = r.trams ∧ x.priority = r.priority) (l.foldl (fun r o => outputReport e addr s o g (slotOutput pl s o) r) r) := by
      intro l
      refine foldl_inv (fun x => x.ring = r.ring ∧ x.mode = r.mode ∧ x.groups = r.groups ∧ x.monitor = r.monitor ∧ x.lamp.confirms = r.lamp.confirms ∧ x.lamp.brightness = r.lamp.brightness ∧ x.lamp.settlingDue = r.lamp.settlingDue ∧ x.lamp.sensorA = r.lamp.sensorA ∧ x.lamp.sensorB = r.lamp.sensorB ∧ x.lamp.selected = r.lamp.selected ∧ x.lamp.run = r.lamp.run ∧ x.stage = r.stage ∧ x.loops = r.loops ∧ x.demand = r.demand ∧ x.trams = r.trams ∧ x.priority = r.priority) _ (fun x a hx => ?_) _ _ ?_
      · revert hx; simp <;> intros <;> simp_all
      · simp
    have h' := h [0, 1, 2]
    simp_all

@[simp] theorem foldl_slotOutputs_frame {α : Type} (e : Env) (addr : Byte) (states : Vector GroupRec 24) (pl : List Byte) (f : α → Slot) (l : List α) (r : Rt) :
    (l.foldl (fun r x => slotOutputs e addr states pl (f x) r) r).ring = r.ring ∧ (l.foldl (fun r x =>
    slotOutputs e addr states pl (f x) r) r).mode = r.mode ∧ (l.foldl (fun r x => slotOutputs e addr states pl
    (f x) r) r).groups = r.groups ∧ (l.foldl (fun r x => slotOutputs e addr states pl (f x) r) r).monitor =
    r.monitor ∧ (l.foldl (fun r x => slotOutputs e addr states pl (f x) r) r).lamp.confirms = r.lamp.confirms ∧
    (l.foldl (fun r x => slotOutputs e addr states pl (f x) r) r).lamp.brightness = r.lamp.brightness ∧ (l.foldl
    (fun r x => slotOutputs e addr states pl (f x) r) r).lamp.settlingDue = r.lamp.settlingDue ∧ (l.foldl (fun r
    x => slotOutputs e addr states pl (f x) r) r).lamp.sensorA = r.lamp.sensorA ∧ (l.foldl (fun r x =>
    slotOutputs e addr states pl (f x) r) r).lamp.sensorB = r.lamp.sensorB ∧ (l.foldl (fun r x => slotOutputs e
    addr states pl (f x) r) r).lamp.selected = r.lamp.selected ∧ (l.foldl (fun r x => slotOutputs e addr states
    pl (f x) r) r).lamp.run = r.lamp.run ∧ (l.foldl (fun r x => slotOutputs e addr states pl (f x) r) r).stage =
    r.stage ∧ (l.foldl (fun r x => slotOutputs e addr states pl (f x) r) r).loops = r.loops ∧ (l.foldl (fun r x
    => slotOutputs e addr states pl (f x) r) r).demand = r.demand ∧ (l.foldl (fun r x => slotOutputs e addr
    states pl (f x) r) r).trams = r.trams ∧ (l.foldl (fun r x => slotOutputs e addr states pl (f x) r)
    r).priority = r.priority := by
  refine foldl_inv (fun x => x.ring = r.ring ∧ x.mode = r.mode ∧ x.groups = r.groups ∧ x.monitor = r.monitor ∧ x.lamp.confirms = r.lamp.confirms ∧ x.lamp.brightness = r.lamp.brightness ∧ x.lamp.settlingDue = r.lamp.settlingDue ∧ x.lamp.sensorA = r.lamp.sensorA ∧ x.lamp.sensorB = r.lamp.sensorB ∧ x.lamp.selected = r.lamp.selected ∧ x.lamp.run = r.lamp.run ∧ x.stage = r.stage ∧ x.loops = r.loops ∧ x.demand = r.demand ∧ x.trams = r.trams ∧ x.priority = r.priority) _ (fun x a hx => ?_) _ _ ?_
  · simp_all
  · simp


@[simp] theorem confirmNotice_frame (e : Env) (g : Group) (r : Rt) :
    (confirmNotice e g r).ring = r.ring ∧ (confirmNotice e g r).mode = r.mode ∧ (confirmNotice e g r).groups =
    r.groups ∧ (confirmNotice e g r).monitor = r.monitor ∧ (confirmNotice e g r).lamp.modules = r.lamp.modules ∧
    (confirmNotice e g r).lamp.failed = r.lamp.failed ∧ (confirmNotice e g r).lamp.brightness =
    r.lamp.brightness ∧ (confirmNotice e g r).lamp.settlingDue = r.lamp.settlingDue ∧ (confirmNotice e g r).lamp.sensorA = r.lamp.sensorA ∧ (confirmNotice e g r).lamp.sensorB = r.lamp.sensorB ∧ (confirmNotice e g r).lamp.selected = r.lamp.selected ∧ (confirmNotice e g r).lamp.run = r.lamp.run ∧ (confirmNotice e g r).stage = r.stage ∧ (confirmNotice e g r).loops = r.loops ∧ (confirmNotice e g r).demand = r.demand ∧
    (confirmNotice e g r).trams = r.trams ∧ (confirmNotice e g r).priority = r.priority ∧ (confirmNotice e g r).report = r.report := by
  simp only [confirmNotice]
  (repeat' split) <;> simp

@[simp] theorem foldl_confirmNotice_frame (e : Env) (l : List Group) (r : Rt) :
    (l.foldl (fun r k => confirmNotice e k r) r).ring = r.ring ∧ (l.foldl (fun r k => confirmNotice e k r) r).mode = r.mode ∧ (l.foldl (fun r k => confirmNotice e k r) r).groups =
    r.groups ∧ (l.foldl (fun r k => confirmNotice e k r) r).monitor = r.monitor ∧ (l.foldl (fun r k => confirmNotice e k r) r).lamp.modules = r.lamp.modules ∧
    (l.foldl (fun r k => confirmNotice e k r) r).lamp.failed = r.lamp.failed ∧ (l.foldl (fun r k => confirmNotice e k r) r).lamp.brightness =
    r.lamp.brightness ∧ (l.foldl (fun r k => confirmNotice e k r) r).lamp.settlingDue = r.lamp.settlingDue ∧ (l.foldl (fun r k => confirmNotice e k r) r).lamp.sensorA = r.lamp.sensorA ∧ (l.foldl (fun r k => confirmNotice e k r) r).lamp.sensorB = r.lamp.sensorB ∧ (l.foldl (fun r k => confirmNotice e k r) r).lamp.selected = r.lamp.selected ∧ (l.foldl (fun r k => confirmNotice e k r) r).lamp.run = r.lamp.run ∧ (l.foldl (fun r k => confirmNotice e k r) r).stage = r.stage ∧ (l.foldl (fun r k => confirmNotice e k r) r).loops = r.loops ∧ (l.foldl (fun r k => confirmNotice e k r) r).demand = r.demand ∧
    (l.foldl (fun r k => confirmNotice e k r) r).trams = r.trams ∧ (l.foldl (fun r k => confirmNotice e k r) r).priority = r.priority ∧ (l.foldl (fun r k => confirmNotice e k r) r).report = r.report := by
  refine foldl_inv (fun x => x.ring = r.ring ∧ x.mode = r.mode ∧ x.groups = r.groups ∧ x.monitor = r.monitor ∧ x.lamp.modules = r.lamp.modules ∧ x.lamp.failed = r.lamp.failed ∧ x.lamp.brightness = r.lamp.brightness ∧ x.lamp.settlingDue = r.lamp.settlingDue ∧ x.lamp.sensorA = r.lamp.sensorA ∧ x.lamp.sensorB = r.lamp.sensorB ∧ x.lamp.selected = r.lamp.selected ∧ x.lamp.run = r.lamp.run ∧ x.stage = r.stage ∧ x.loops = r.loops ∧ x.demand = r.demand ∧ x.trams = r.trams ∧ x.priority = r.priority ∧ x.report = r.report) _ (fun x a hx => ?_) _ _ ?_
  · simp_all
  · simp

@[simp] theorem confirmExpiry_frame (e : Env) (g : Group) (r : Rt) :
    (confirmExpiry e g r).ring = r.ring ∧ (confirmExpiry e g r).mode = r.mode ∧ (confirmExpiry e g r).groups =
    r.groups ∧ (confirmExpiry e g r).monitor = r.monitor ∧ (confirmExpiry e g r).lamp.modules = r.lamp.modules ∧
    (confirmExpiry e g r).lamp.failed = r.lamp.failed ∧ (confirmExpiry e g r).lamp.brightness =
    r.lamp.brightness ∧ (confirmExpiry e g r).lamp.settlingDue = r.lamp.settlingDue ∧ (confirmExpiry e g
    r).lamp.sensorA = r.lamp.sensorA ∧ (confirmExpiry e g r).lamp.sensorB = r.lamp.sensorB ∧ (confirmExpiry e g
    r).lamp.selected = r.lamp.selected ∧ (confirmExpiry e g r).lamp.run = r.lamp.run ∧ (confirmExpiry e g
    r).stage = r.stage ∧ (confirmExpiry e g r).loops = r.loops ∧ (confirmExpiry e g r).demand = r.demand ∧
    (confirmExpiry e g r).trams = r.trams ∧ (confirmExpiry e g r).priority = r.priority ∧ (confirmExpiry e g
    r).report = r.report := by
  simp only [confirmExpiry]
  split <;> simp only [foldl_confirmNotice_frame, and_self]


@[simp] theorem qualifyExpiry_frame (e : Env) (r : Rt) :
    (qualifyExpiry e r).ring.head = r.ring.head ∧ (qualifyExpiry e r).ring.field = r.ring.field ∧ (qualifyExpiry
    e r).ring.replies = r.ring.replies ∧ (qualifyExpiry e r).ring.aux = r.ring.aux ∧ (qualifyExpiry e
    r).ring.crcFlag = r.ring.crcFlag ∧ (qualifyExpiry e r).mode = r.mode ∧ (qualifyExpiry e r).groups = r.groups
    ∧ (qualifyExpiry e r).lamp.confirms = r.lamp.confirms ∧ (qualifyExpiry e r).lamp.failed = r.lamp.failed ∧
    (qualifyExpiry e r).lamp.sensorA = r.lamp.sensorA ∧ (qualifyExpiry e r).lamp.sensorB = r.lamp.sensorB ∧
    (qualifyExpiry e r).lamp.selected = r.lamp.selected ∧ (qualifyExpiry e r).stage = r.stage ∧ (qualifyExpiry e
    r).loops = r.loops ∧ (qualifyExpiry e r).demand = r.demand ∧ (qualifyExpiry e r).trams = r.trams ∧
    (qualifyExpiry e r).priority = r.priority ∧ (qualifyExpiry e r).report.record = r.report.record := by
  simp only [qualifyExpiry]
  (repeat' split) <;> simp


@[simp] theorem settlingEnd_frame (e : Env) (r : Rt) :
    (settlingEnd e r).ring = r.ring ∧ (settlingEnd e r).mode = r.mode ∧ (settlingEnd e r).groups = r.groups ∧
    (settlingEnd e r).monitor = r.monitor ∧ (settlingEnd e r).lamp.modules = r.lamp.modules ∧ (settlingEnd e
    r).lamp.confirms = r.lamp.confirms ∧ (settlingEnd e r).lamp.failed = r.lamp.failed ∧ (settlingEnd e
    r).lamp.brightness = r.lamp.brightness ∧ (settlingEnd e r).lamp.sensorA = r.lamp.sensorA ∧ (settlingEnd e
    r).lamp.sensorB = r.lamp.sensorB ∧ (settlingEnd e r).lamp.selected = r.lamp.selected ∧ (settlingEnd e
    r).lamp.run = r.lamp.run ∧ (settlingEnd e r).stage = r.stage ∧ (settlingEnd e r).loops = r.loops ∧
    (settlingEnd e r).demand = r.demand ∧ (settlingEnd e r).trams = r.trams ∧ (settlingEnd e r).priority =
    r.priority ∧ (settlingEnd e r).report = r.report ∧ (settlingEnd e r).notices = r.notices := by
  simp only [settlingEnd]
  (repeat' split) <;> simp


@[simp] theorem updDemand_frame (g : Group) (f : DemandRec → DemandRec) (r : Rt) :
    (updDemand g f r).ring = r.ring ∧ (updDemand g f r).mode = r.mode ∧ (updDemand g f r).groups = r.groups ∧
    (updDemand g f r).monitor = r.monitor ∧ (updDemand g f r).lamp = r.lamp ∧ (updDemand g f r).stage = r.stage
    ∧ (updDemand g f r).loops = r.loops ∧ (updDemand g f r).demand.active = r.demand.active ∧ (updDemand g f
    r).demand.assigns = r.demand.assigns ∧ (updDemand g f r).trams = r.trams ∧ (updDemand g f r).priority =
    r.priority ∧ (updDemand g f r).report = r.report ∧ (updDemand g f r).notices = r.notices := by
  simp [updDemand]


@[simp] theorem updAssign_frame (a : Assign) (f : AssignRec → AssignRec) (r : Rt) :
    (updAssign a f r).ring = r.ring ∧ (updAssign a f r).mode = r.mode ∧ (updAssign a f r).groups = r.groups ∧
    (updAssign a f r).monitor = r.monitor ∧ (updAssign a f r).lamp = r.lamp ∧ (updAssign a f r).stage = r.stage
    ∧ (updAssign a f r).loops = r.loops ∧ (updAssign a f r).demand.active = r.demand.active ∧ (updAssign a f
    r).demand.groups = r.demand.groups ∧ (updAssign a f r).trams = r.trams ∧ (updAssign a f r).priority =
    r.priority ∧ (updAssign a f r).report = r.report ∧ (updAssign a f r).notices = r.notices := by
  simp [updAssign]


@[simp] theorem latchLoop_frame (g : Group) (r : Rt) :
    (latchLoop g r).ring = r.ring ∧ (latchLoop g r).mode = r.mode ∧ (latchLoop g r).groups = r.groups ∧
    (latchLoop g r).monitor = r.monitor ∧ (latchLoop g r).lamp = r.lamp ∧ (latchLoop g r).stage = r.stage ∧
    (latchLoop g r).loops = r.loops ∧ (latchLoop g r).demand.active = r.demand.active ∧ (latchLoop g
    r).demand.assigns = r.demand.assigns ∧ (latchLoop g r).trams = r.trams ∧ (latchLoop g r).priority =
    r.priority ∧ (latchLoop g r).report = r.report ∧ (latchLoop g r).notices = r.notices := by
  simp [latchLoop]


@[simp] theorem startGiving_frame (a : Assign) (g : Group) (r : Rt) :
    (startGiving a g r).ring = r.ring ∧ (startGiving a g r).mode = r.mode ∧ (startGiving a g r).groups =
    r.groups ∧ (startGiving a g r).monitor = r.monitor ∧ (startGiving a g r).lamp = r.lamp ∧ (startGiving a g
    r).stage = r.stage ∧ (startGiving a g r).loops = r.loops ∧ (startGiving a g r).demand.active =
    r.demand.active ∧ (startGiving a g r).trams = r.trams ∧ (startGiving a g r).priority = r.priority ∧
    (startGiving a g r).report = r.report ∧ (startGiving a g r).notices = r.notices := by
  simp only [startGiving]
  (repeat' split) <;> simp


@[simp] theorem stopGiving_frame (a : Assign) (g : Group) (r : Rt) :
    (stopGiving a g r).ring = r.ring ∧ (stopGiving a g r).mode = r.mode ∧ (stopGiving a g r).groups = r.groups ∧
    (stopGiving a g r).monitor = r.monitor ∧ (stopGiving a g r).lamp = r.lamp ∧ (stopGiving a g r).stage =
    r.stage ∧ (stopGiving a g r).loops = r.loops ∧ (stopGiving a g r).demand.active = r.demand.active ∧
    (stopGiving a g r).trams = r.trams ∧ (stopGiving a g r).priority = r.priority ∧ (stopGiving a g r).report =
    r.report ∧ (stopGiving a g r).notices = r.notices := by
  simp only [stopGiving]
  (repeat' split) <;> simp


@[simp] theorem stopDelay_frame (a : Assign) (r : Rt) :
    (stopDelay a r).ring = r.ring ∧ (stopDelay a r).mode = r.mode ∧ (stopDelay a r).groups = r.groups ∧
    (stopDelay a r).monitor = r.monitor ∧ (stopDelay a r).lamp = r.lamp ∧ (stopDelay a r).stage = r.stage ∧
    (stopDelay a r).loops = r.loops ∧ (stopDelay a r).demand.active = r.demand.active ∧ (stopDelay a
    r).demand.groups = r.demand.groups ∧ (stopDelay a r).trams = r.trams ∧ (stopDelay a r).priority = r.priority
    ∧ (stopDelay a r).report = r.report ∧ (stopDelay a r).notices = r.notices := by
  simp [stopDelay]


@[simp] theorem delayRun_frame (a : Assign) (x : AssignEntry) (r : Rt) :
    (delayRun a x r).ring = r.ring ∧ (delayRun a x r).mode = r.mode ∧ (delayRun a x r).groups = r.groups ∧
    (delayRun a x r).monitor = r.monitor ∧ (delayRun a x r).lamp = r.lamp ∧ (delayRun a x r).stage = r.stage ∧
    (delayRun a x r).loops = r.loops ∧ (delayRun a x r).demand.active = r.demand.active ∧ (delayRun a x r).trams
    = r.trams ∧ (delayRun a x r).priority = r.priority ∧ (delayRun a x r).report = r.report ∧ (delayRun a x
    r).notices = r.notices := by
  simp only [delayRun]
  (repeat' split) <;> simp


@[simp] theorem startDelay_frame (e : Env) (a : Assign) (x : AssignEntry) (stamp : Time) (r : Rt) :
    (startDelay e a x stamp r).ring = r.ring ∧ (startDelay e a x stamp r).mode = r.mode ∧ (startDelay e a x
    stamp r).groups = r.groups ∧ (startDelay e a x stamp r).monitor = r.monitor ∧ (startDelay e a x stamp
    r).lamp = r.lamp ∧ (startDelay e a x stamp r).stage = r.stage ∧ (startDelay e a x stamp r).loops = r.loops ∧
    (startDelay e a x stamp r).demand.active = r.demand.active ∧ (startDelay e a x stamp r).trams = r.trams ∧
    (startDelay e a x stamp r).priority = r.priority ∧ (startDelay e a x stamp r).report = r.report ∧
    (startDelay e a x stamp r).notices = r.notices := by
  simp only [startDelay]
  (repeat' split) <;> simp


@[simp] theorem demandPart_frame (e : Env) (a : Assign) (x : AssignEntry) (v : LoopView) (stamp : Time) (r : Rt) :
    (demandPart e a x v stamp r).ring = r.ring ∧ (demandPart e a x v stamp r).mode = r.mode ∧ (demandPart e a x
    v stamp r).groups = r.groups ∧ (demandPart e a x v stamp r).monitor = r.monitor ∧ (demandPart e a x v stamp
    r).lamp = r.lamp ∧ (demandPart e a x v stamp r).stage = r.stage ∧ (demandPart e a x v stamp r).loops =
    r.loops ∧ (demandPart e a x v stamp r).demand.active = r.demand.active ∧ (demandPart e a x v stamp r).trams
    = r.trams ∧ (demandPart e a x v stamp r).priority = r.priority ∧ (demandPart e a x v stamp r).report =
    r.report ∧ (demandPart e a x v stamp r).notices = r.notices := by
  simp only [demandPart]
  (repeat' split) <;> simp


@[simp] theorem restartGap_frame (from' : Time) (g : Group) (r : Rt) :
    (restartGap from' g r).ring = r.ring ∧ (restartGap from' g r).mode = r.mode ∧ (restartGap from' g r).groups
    = r.groups ∧ (restartGap from' g r).monitor = r.monitor ∧ (restartGap from' g r).lamp = r.lamp ∧ (restartGap
    from' g r).stage = r.stage ∧ (restartGap from' g r).loops = r.loops ∧ (restartGap from' g r).demand.active =
    r.demand.active ∧ (restartGap from' g r).demand.assigns = r.demand.assigns ∧ (restartGap from' g r).trams =
    r.trams ∧ (restartGap from' g r).priority = r.priority ∧ (restartGap from' g r).report = r.report ∧
    (restartGap from' g r).notices = r.notices := by
  simp only [restartGap]
  (repeat' split) <;> simp


@[simp] theorem stopHolding_frame (e : Env) (a : Assign) (g : Group) (r : Rt) :
    (stopHolding e a g r).ring = r.ring ∧ (stopHolding e a g r).mode = r.mode ∧ (stopHolding e a g r).groups =
    r.groups ∧ (stopHolding e a g r).monitor = r.monitor ∧ (stopHolding e a g r).lamp = r.lamp ∧ (stopHolding e
    a g r).stage = r.stage ∧ (stopHolding e a g r).loops = r.loops ∧ (stopHolding e a g r).demand.active =
    r.demand.active ∧ (stopHolding e a g r).trams = r.trams ∧ (stopHolding e a g r).priority = r.priority ∧
    (stopHolding e a g r).report = r.report ∧ (stopHolding e a g r).notices = r.notices := by
  simp only [stopHolding]
  (repeat' split) <;> simp


@[simp] theorem extendPart_frame (e : Env) (a : Assign) (x : AssignEntry) (v : LoopView) (stamp : Time) (r : Rt) :
    (extendPart e a x v stamp r).ring = r.ring ∧ (extendPart e a x v stamp r).mode = r.mode ∧ (extendPart e a x
    v stamp r).groups = r.groups ∧ (extendPart e a x v stamp r).monitor = r.monitor ∧ (extendPart e a x v stamp
    r).lamp = r.lamp ∧ (extendPart e a x v stamp r).stage = r.stage ∧ (extendPart e a x v stamp r).loops =
    r.loops ∧ (extendPart e a x v stamp r).demand.active = r.demand.active ∧ (extendPart e a x v stamp r).trams
    = r.trams ∧ (extendPart e a x v stamp r).priority = r.priority ∧ (extendPart e a x v stamp r).report =
    r.report ∧ (extendPart e a x v stamp r).notices = r.notices := by
  simp only [extendPart]
  (repeat' split) <;> simp


@[simp] theorem evalAssign_frame (e : Env) (a : Assign) (x : AssignEntry) (stamp : Time) (r : Rt) :
    (evalAssign e a x stamp r).ring = r.ring ∧ (evalAssign e a x stamp r).mode = r.mode ∧ (evalAssign e a x
    stamp r).groups = r.groups ∧ (evalAssign e a x stamp r).monitor = r.monitor ∧ (evalAssign e a x stamp
    r).lamp = r.lamp ∧ (evalAssign e a x stamp r).stage = r.stage ∧ (evalAssign e a x stamp r).loops = r.loops ∧
    (evalAssign e a x stamp r).demand.active = r.demand.active ∧ (evalAssign e a x stamp r).trams = r.trams ∧
    (evalAssign e a x stamp r).priority = r.priority ∧ (evalAssign e a x stamp r).report = r.report ∧
    (evalAssign e a x stamp r).notices = r.notices := by
  simp [evalAssign]


@[simp] theorem demandLoop_frame (e : Env) (l : Loop) (stamp : Time) (r : Rt) :
    (demandLoop e l stamp r).ring = r.ring ∧ (demandLoop e l stamp r).mode = r.mode ∧ (demandLoop e l stamp
    r).groups = r.groups ∧ (demandLoop e l stamp r).monitor = r.monitor ∧ (demandLoop e l stamp r).lamp = r.lamp
    ∧ (demandLoop e l stamp r).stage = r.stage ∧ (demandLoop e l stamp r).loops = r.loops ∧ (demandLoop e l
    stamp r).demand.active = r.demand.active ∧ (demandLoop e l stamp r).trams = r.trams ∧ (demandLoop e l stamp
    r).priority = r.priority ∧ (demandLoop e l stamp r).report = r.report ∧ (demandLoop e l stamp r).notices =
    r.notices := by
  simp only [demandLoop]
  (repeat' split)
  all_goals first
    | (simp; done)
    | (refine foldl_inv (fun x => x.ring = r.ring ∧ x.mode = r.mode ∧ x.groups = r.groups ∧ x.monitor = r.monitor ∧ x.lamp = r.lamp ∧ x.stage = r.stage ∧ x.loops = r.loops ∧ x.demand.active = r.demand.active ∧ x.trams = r.trams ∧ x.priority = r.priority ∧ x.report = r.report ∧ x.notices = r.notices) _ (fun x a hx => ?_) _ _ ?_
       · revert hx; (repeat' split) <;> simp <;> intros <;> simp_all
       · (repeat' split) <;> simp)


@[simp] theorem occupiedSample_frame (e : Env) (l : Loop) (r : Rt) :
    (occupiedSample e l r).ring = r.ring ∧ (occupiedSample e l r).mode = r.mode ∧ (occupiedSample e l r).groups
    = r.groups ∧ (occupiedSample e l r).monitor = r.monitor ∧ (occupiedSample e l r).lamp = r.lamp ∧
    (occupiedSample e l r).stage = r.stage ∧ (occupiedSample e l r).loops = r.loops ∧ (occupiedSample e l
    r).demand.active = r.demand.active ∧ (occupiedSample e l r).demand.assigns = r.demand.assigns ∧
    (occupiedSample e l r).trams = r.trams ∧ (occupiedSample e l r).priority = r.priority ∧ (occupiedSample e l
    r).report = r.report ∧ (occupiedSample e l r).notices = r.notices := by
  simp only [occupiedSample]
  (repeat' split)
  all_goals first
    | (simp; done)
    | (refine foldl_inv (fun x => x.ring = r.ring ∧ x.mode = r.mode ∧ x.groups = r.groups ∧ x.monitor = r.monitor ∧ x.lamp = r.lamp ∧ x.stage = r.stage ∧ x.loops = r.loops ∧ x.demand.active = r.demand.active ∧ x.demand.assigns = r.demand.assigns ∧ x.trams = r.trams ∧ x.priority = r.priority ∧ x.report = r.report ∧ x.notices = r.notices) _ (fun x a hx => ?_) _ _ ?_
       · revert hx; (repeat' split) <;> simp <;> intros <;> simp_all
       · (repeat' split) <;> simp)


@[simp] theorem buttonLamp_frame (e : Env) (x : ButtonEntry) (lit : Bool) (r : Rt) :
    (buttonLamp e x lit r).ring.head = r.ring.head ∧ (buttonLamp e x lit r).ring.field = r.ring.field ∧
    (buttonLamp e x lit r).ring.replies = r.ring.replies ∧ (buttonLamp e x lit r).ring.aspects = r.ring.aspects
    ∧ (buttonLamp e x lit r).ring.crcFlag = r.ring.crcFlag ∧ (buttonLamp e x lit r).mode = r.mode ∧ (buttonLamp
    e x lit r).groups = r.groups ∧ (buttonLamp e x lit r).monitor = r.monitor ∧ (buttonLamp e x lit r).lamp =
    r.lamp ∧ (buttonLamp e x lit r).stage = r.stage ∧ (buttonLamp e x lit r).loops = r.loops ∧ (buttonLamp e x
    lit r).demand = r.demand ∧ (buttonLamp e x lit r).trams = r.trams ∧ (buttonLamp e x lit r).priority =
    r.priority ∧ (buttonLamp e x lit r).report.record = r.report.record ∧ (buttonLamp e x lit r).notices =
    r.notices := by
  simp [buttonLamp]


@[simp] theorem groupButtons_frame (e : Env) (g : Group) (lit : Bool) (r : Rt) :
    (groupButtons e g lit r).ring.head = r.ring.head ∧ (groupButtons e g lit r).ring.field = r.ring.field ∧
    (groupButtons e g lit r).ring.replies = r.ring.replies ∧ (groupButtons e g lit r).ring.aspects =
    r.ring.aspects ∧ (groupButtons e g lit r).ring.crcFlag = r.ring.crcFlag ∧ (groupButtons e g lit r).mode =
    r.mode ∧ (groupButtons e g lit r).groups = r.groups ∧ (groupButtons e g lit r).monitor = r.monitor ∧
    (groupButtons e g lit r).lamp = r.lamp ∧ (groupButtons e g lit r).stage = r.stage ∧ (groupButtons e g lit
    r).loops = r.loops ∧ (groupButtons e g lit r).demand = r.demand ∧ (groupButtons e g lit r).trams = r.trams ∧
    (groupButtons e g lit r).priority = r.priority ∧ (groupButtons e g lit r).report.record = r.report.record ∧
    (groupButtons e g lit r).notices = r.notices := by
  simp only [groupButtons]
  (repeat' split)
  all_goals first
    | (simp; done)
    | (refine foldl_inv (fun x => x.ring.head = r.ring.head ∧ x.ring.field = r.ring.field ∧ x.ring.replies = r.ring.replies ∧ x.ring.aspects = r.ring.aspects ∧ x.ring.crcFlag = r.ring.crcFlag ∧ x.mode = r.mode ∧ x.groups = r.groups ∧ x.monitor = r.monitor ∧ x.lamp = r.lamp ∧ x.stage = r.stage ∧ x.loops = r.loops ∧ x.demand = r.demand ∧ x.trams = r.trams ∧ x.priority = r.priority ∧ x.report.record = r.report.record ∧ x.notices = r.notices) _ (fun x a hx => ?_) _ _ ?_
       · revert hx; (repeat' split) <;> simp <;> intros <;> simp_all
       · (repeat' split) <;> simp)


@[simp] theorem demandGreen_frame (e : Env) (g : Group) (r : Rt) :
    (demandGreen e g r).ring.head = r.ring.head ∧ (demandGreen e g r).ring.field = r.ring.field ∧ (demandGreen e
    g r).ring.replies = r.ring.replies ∧ (demandGreen e g r).ring.aspects = r.ring.aspects ∧ (demandGreen e g
    r).ring.crcFlag = r.ring.crcFlag ∧ (demandGreen e g r).mode = r.mode ∧ (demandGreen e g r).groups = r.groups
    ∧ (demandGreen e g r).monitor = r.monitor ∧ (demandGreen e g r).lamp = r.lamp ∧ (demandGreen e g r).stage =
    r.stage ∧ (demandGreen e g r).loops = r.loops ∧ (demandGreen e g r).demand.active = r.demand.active ∧
    (demandGreen e g r).trams = r.trams ∧ (demandGreen e g r).priority = r.priority ∧ (demandGreen e g
    r).report.record = r.report.record ∧ (demandGreen e g r).notices = r.notices := by
  simp only [demandGreen]
  generalize hy : List.foldl _ _ _ = y
  have h : y.ring.head = r.ring.head ∧ y.ring.field = r.ring.field ∧ y.ring.replies = r.ring.replies ∧ y.ring.aspects = r.ring.aspects ∧ y.ring.crcFlag = r.ring.crcFlag ∧ y.mode = r.mode ∧ y.groups = r.groups ∧ y.monitor = r.monitor ∧ y.lamp = r.lamp ∧ y.stage = r.stage ∧ y.loops = r.loops ∧ y.demand.active = r.demand.active ∧ y.trams = r.trams ∧ y.priority = r.priority ∧ y.report.record = r.report.record ∧ y.notices = r.notices := by
    subst hy
    refine foldl_inv (fun x => x.ring.head = r.ring.head ∧ x.ring.field = r.ring.field ∧ x.ring.replies = r.ring.replies ∧ x.ring.aspects = r.ring.aspects ∧ x.ring.crcFlag = r.ring.crcFlag ∧ x.mode = r.mode ∧ x.groups = r.groups ∧ x.monitor = r.monitor ∧ x.lamp = r.lamp ∧ x.stage = r.stage ∧ x.loops = r.loops ∧ x.demand.active = r.demand.active ∧ x.trams = r.trams ∧ x.priority = r.priority ∧ x.report.record = r.report.record ∧ x.notices = r.notices) _ (fun x a hx => ?_) _ _ ?_
    · revert hx; (repeat' split) <;> simp <;> intros <;> simp_all
    · (repeat' split) <;> simp
  revert h; (repeat' split) <;> simp <;> intros <;> simp_all


@[simp] theorem demandDepart_frame (e : Env) (g : Group) (r : Rt) :
    (demandDepart e g r).ring = r.ring ∧ (demandDepart e g r).mode = r.mode ∧ (demandDepart e g r).groups =
    r.groups ∧ (demandDepart e g r).monitor = r.monitor ∧ (demandDepart e g r).lamp = r.lamp ∧ (demandDepart e g
    r).stage = r.stage ∧ (demandDepart e g r).loops = r.loops ∧ (demandDepart e g r).demand.active =
    r.demand.active ∧ (demandDepart e g r).trams = r.trams ∧ (demandDepart e g r).priority = r.priority ∧
    (demandDepart e g r).report = r.report ∧ (demandDepart e g r).notices = r.notices := by
  simp only [demandDepart]
  (repeat' split)
  all_goals first
    | (simp; done)
    | (refine foldl_inv (fun x => x.ring = r.ring ∧ x.mode = r.mode ∧ x.groups = r.groups ∧ x.monitor = r.monitor ∧ x.lamp = r.lamp ∧ x.stage = r.stage ∧ x.loops = r.loops ∧ x.demand.active = r.demand.active ∧ x.trams = r.trams ∧ x.priority = r.priority ∧ x.report = r.report ∧ x.notices = r.notices) _ (fun x a hx => ?_) _ _ ?_
       · revert hx; (repeat' split) <;> simp <;> intros <;> simp_all
       · (repeat' split) <;> simp)


@[simp] theorem delayExpiry_frame (e : Env) (a : Assign) (r : Rt) :
    (delayExpiry e a r).ring = r.ring ∧ (delayExpiry e a r).mode = r.mode ∧ (delayExpiry e a r).groups =
    r.groups ∧ (delayExpiry e a r).monitor = r.monitor ∧ (delayExpiry e a r).lamp = r.lamp ∧ (delayExpiry e a
    r).stage = r.stage ∧ (delayExpiry e a r).loops = r.loops ∧ (delayExpiry e a r).demand.active =
    r.demand.active ∧ (delayExpiry e a r).trams = r.trams ∧ (delayExpiry e a r).priority = r.priority ∧
    (delayExpiry e a r).report = r.report ∧ (delayExpiry e a r).notices = r.notices := by
  simp only [delayExpiry]
  (repeat' split) <;> simp


@[simp] theorem gapExpiry_frame (e : Env) (g : Group) (r : Rt) :
    (gapExpiry e g r).ring = r.ring ∧ (gapExpiry e g r).mode = r.mode ∧ (gapExpiry e g r).groups = r.groups ∧
    (gapExpiry e g r).monitor = r.monitor ∧ (gapExpiry e g r).lamp = r.lamp ∧ (gapExpiry e g r).stage = r.stage
    ∧ (gapExpiry e g r).loops = r.loops ∧ (gapExpiry e g r).demand.active = r.demand.active ∧ (gapExpiry e g
    r).demand.assigns = r.demand.assigns ∧ (gapExpiry e g r).trams = r.trams ∧ (gapExpiry e g r).priority =
    r.priority ∧ (gapExpiry e g r).report = r.report ∧ (gapExpiry e g r).notices = r.notices := by
  simp only [gapExpiry]
  (repeat' split) <;> simp


@[simp] theorem withdrawAssign_frame (e : Env) (a : Assign) (r : Rt) :
    (withdrawAssign e a r).ring = r.ring ∧ (withdrawAssign e a r).mode = r.mode ∧ (withdrawAssign e a r).groups
    = r.groups ∧ (withdrawAssign e a r).monitor = r.monitor ∧ (withdrawAssign e a r).lamp = r.lamp ∧
    (withdrawAssign e a r).stage = r.stage ∧ (withdrawAssign e a r).loops = r.loops ∧ (withdrawAssign e a
    r).demand.active = r.demand.active ∧ (withdrawAssign e a r).trams = r.trams ∧ (withdrawAssign e a
    r).priority = r.priority ∧ (withdrawAssign e a r).report = r.report ∧ (withdrawAssign e a r).notices =
    r.notices := by
  simp only [withdrawAssign]
  (repeat' split) <;> simp


@[simp] theorem setGapTimes_frame (v : Vector Nat 24) (r : Rt) :
    (setGapTimes v r).ring = r.ring ∧ (setGapTimes v r).mode = r.mode ∧ (setGapTimes v r).groups = r.groups ∧
    (setGapTimes v r).monitor = r.monitor ∧ (setGapTimes v r).lamp = r.lamp ∧ (setGapTimes v r).stage = r.stage
    ∧ (setGapTimes v r).loops = r.loops ∧ (setGapTimes v r).demand.active = r.demand.active ∧ (setGapTimes v
    r).demand.assigns = r.demand.assigns ∧ (setGapTimes v r).trams = r.trams ∧ (setGapTimes v r).priority =
    r.priority ∧ (setGapTimes v r).report = r.report ∧ (setGapTimes v r).notices = r.notices := by
  simp only [setGapTimes]
  (repeat' split)
  all_goals first
    | (simp; done)
    | (refine foldl_inv (fun x => x.ring = r.ring ∧ x.mode = r.mode ∧ x.groups = r.groups ∧ x.monitor = r.monitor ∧ x.lamp = r.lamp ∧ x.stage = r.stage ∧ x.loops = r.loops ∧ x.demand.active = r.demand.active ∧ x.demand.assigns = r.demand.assigns ∧ x.trams = r.trams ∧ x.priority = r.priority ∧ x.report = r.report ∧ x.notices = r.notices) _ (fun x a hx => ?_) _ _ ?_
       · revert hx; (repeat' split) <;> simp <;> intros <;> simp_all
       · (repeat' split) <;> simp)


@[simp] theorem demandActivate_frame (e : Env) (r : Rt) :
    (demandActivate e r).ring = r.ring ∧ (demandActivate e r).mode = r.mode ∧ (demandActivate e r).groups =
    r.groups ∧ (demandActivate e r).monitor = r.monitor ∧ (demandActivate e r).lamp = r.lamp ∧ (demandActivate e
    r).stage = r.stage ∧ (demandActivate e r).loops = r.loops ∧ (demandActivate e r).trams = r.trams ∧
    (demandActivate e r).priority = r.priority ∧ (demandActivate e r).report = r.report ∧ (demandActivate e
    r).notices = r.notices := by
  simp only [demandActivate]
  (repeat' split)
  all_goals first
    | (simp; done)
    | (refine foldl_inv (fun x => x.ring = r.ring ∧ x.mode = r.mode ∧ x.groups = r.groups ∧ x.monitor = r.monitor ∧ x.lamp = r.lamp ∧ x.stage = r.stage ∧ x.loops = r.loops ∧ x.trams = r.trams ∧ x.priority = r.priority ∧ x.report = r.report ∧ x.notices = r.notices) _ (fun x a hx => ?_) _ _ ?_
       · revert hx; (repeat' split) <;> simp <;> intros <;> simp_all
       · (repeat' split) <;> simp)


@[simp] theorem demandClear_frame (e : Env) (r : Rt) :
    (demandClear e r).ring.head = r.ring.head ∧ (demandClear e r).ring.field = r.ring.field ∧
    (demandClear e r).ring.replies = r.ring.replies ∧ (demandClear e r).ring.aspects = r.ring.aspects
    ∧ (demandClear e r).ring.crcFlag = r.ring.crcFlag ∧ (demandClear e r).mode = r.mode ∧
    (demandClear e r).groups = r.groups ∧ (demandClear e r).monitor = r.monitor ∧ (demandClear e r).lamp = r.lamp ∧ (demandClear e r).stage = r.stage ∧ (demandClear e r).loops = r.loops ∧
    (demandClear e r).trams = r.trams ∧ (demandClear e r).priority = r.priority ∧ (demandClear e r).report.record = r.report.record ∧ (demandClear e r).notices = r.notices := by
  simp only [demandClear]
  generalize hy : List.foldl _ _ _ = y
  have h : y.ring.head = r.ring.head ∧ y.ring.field = r.ring.field ∧ y.ring.replies = r.ring.replies ∧ y.ring.aspects = r.ring.aspects ∧ y.ring.crcFlag = r.ring.crcFlag ∧ y.mode = r.mode ∧ y.groups = r.groups ∧ y.monitor = r.monitor ∧ y.lamp = r.lamp ∧ y.stage = r.stage ∧ y.loops = r.loops ∧ y.trams = r.trams ∧ y.priority = r.priority ∧ y.report.record = r.report.record ∧ y.notices = r.notices := by
    subst hy
    refine foldl_inv (fun x => x.ring.head = r.ring.head ∧ x.ring.field = r.ring.field ∧ x.ring.replies = r.ring.replies ∧ x.ring.aspects = r.ring.aspects ∧ x.ring.crcFlag = r.ring.crcFlag ∧ x.mode = r.mode ∧ x.groups = r.groups ∧ x.monitor = r.monitor ∧ x.lamp = r.lamp ∧ x.stage = r.stage ∧ x.loops = r.loops ∧ x.trams = r.trams ∧ x.priority = r.priority ∧ x.report.record = r.report.record ∧ x.notices = r.notices) _ (fun x a hx => ?_) _ _ ?_
    · revert hx; (repeat' split) <;> simp <;> intros <;> simp_all
    · (repeat' split) <;> simp
  revert h; (repeat' split) <;> simp <;> intros <;> simp_all

@[simp] theorem demandDeactivate_frame (e : Env) (r : Rt) :
    (demandDeactivate e r).ring.head = r.ring.head ∧ (demandDeactivate e r).ring.field = r.ring.field ∧
    (demandDeactivate e r).ring.replies = r.ring.replies ∧ (demandDeactivate e r).ring.aspects = r.ring.aspects
    ∧ (demandDeactivate e r).ring.crcFlag = r.ring.crcFlag ∧ (demandDeactivate e r).mode = r.mode ∧
    (demandDeactivate e r).groups = r.groups ∧ (demandDeactivate e r).monitor = r.monitor ∧ (demandDeactivate e
    r).lamp = r.lamp ∧ (demandDeactivate e r).stage = r.stage ∧ (demandDeactivate e r).loops = r.loops ∧
    (demandDeactivate e r).trams = r.trams ∧ (demandDeactivate e r).priority = r.priority ∧ (demandDeactivate e
    r).report.record = r.report.record ∧ (demandDeactivate e r).notices = r.notices := by
  simp only [demandDeactivate]
  split <;> simp


@[simp] theorem pressButton_frame (e : Env) (x : ButtonEntry) (r : Rt) :
    (pressButton e x r).ring.head = r.ring.head ∧ (pressButton e x r).ring.field = r.ring.field ∧ (pressButton e
    x r).ring.replies = r.ring.replies ∧ (pressButton e x r).ring.aspects = r.ring.aspects ∧ (pressButton e x
    r).ring.crcFlag = r.ring.crcFlag ∧ (pressButton e x r).mode = r.mode ∧ (pressButton e x r).groups = r.groups
    ∧ (pressButton e x r).monitor = r.monitor ∧ (pressButton e x r).lamp = r.lamp ∧ (pressButton e x r).stage =
    r.stage ∧ (pressButton e x r).loops = r.loops ∧ (pressButton e x r).demand.active = r.demand.active ∧
    (pressButton e x r).demand.assigns = r.demand.assigns ∧ (pressButton e x r).trams = r.trams ∧ (pressButton e
    x r).priority = r.priority ∧ (pressButton e x r).report.record = r.report.record ∧ (pressButton e x
    r).notices = r.notices := by
  simp only [pressButton]
  (repeat' split) <;> simp


@[simp] theorem recomputeOffers_frame (e : Env) (r : Rt) :
    (recomputeOffers e r).ring = r.ring ∧ (recomputeOffers e r).mode = r.mode ∧ (recomputeOffers e r).groups =
    r.groups ∧ (recomputeOffers e r).monitor = r.monitor ∧ (recomputeOffers e r).lamp = r.lamp ∧
    (recomputeOffers e r).stage = r.stage ∧ (recomputeOffers e r).loops = r.loops ∧ (recomputeOffers e r).demand
    = r.demand ∧ (recomputeOffers e r).trams = r.trams ∧ (recomputeOffers e r).priority.queue = r.priority.queue
    ∧ (recomputeOffers e r).priority.enable = r.priority.enable ∧ (recomputeOffers e r).priority.lockoutDue =
    r.priority.lockoutDue ∧ (recomputeOffers e r).priority.extensionNoted = r.priority.extensionNoted ∧
    (recomputeOffers e r).priority.served = r.priority.served ∧ (recomputeOffers e r).report = r.report ∧
    (recomputeOffers e r).notices = r.notices := by
  simp only [recomputeOffers]
  (repeat' split) <;> simp


@[simp] theorem recordNotice_frame (e : Env) (s : TramSlot) (r : Rt) :
    (recordNotice e s r).ring = r.ring ∧ (recordNotice e s r).mode = r.mode ∧ (recordNotice e s r).groups =
    r.groups ∧ (recordNotice e s r).monitor = r.monitor ∧ (recordNotice e s r).lamp = r.lamp ∧ (recordNotice e s
    r).stage = r.stage ∧ (recordNotice e s r).loops = r.loops ∧ (recordNotice e s r).demand = r.demand ∧
    (recordNotice e s r).trams = r.trams ∧ (recordNotice e s r).priority.enable = r.priority.enable ∧
    (recordNotice e s r).priority.lockoutDue = r.priority.lockoutDue ∧ (recordNotice e s
    r).priority.extensionNoted = r.priority.extensionNoted ∧ (recordNotice e s r).priority.served =
    r.priority.served ∧ (recordNotice e s r).report = r.report ∧ (recordNotice e s r).notices = r.notices := by
  simp [recordNotice]


@[simp] theorem raiseServed_frame (level : Nat) (r : Rt) :
    (raiseServed level r).ring = r.ring ∧ (raiseServed level r).mode = r.mode ∧ (raiseServed level r).groups =
    r.groups ∧ (raiseServed level r).monitor = r.monitor ∧ (raiseServed level r).lamp = r.lamp ∧ (raiseServed
    level r).stage = r.stage ∧ (raiseServed level r).loops = r.loops ∧ (raiseServed level r).demand = r.demand ∧
    (raiseServed level r).trams = r.trams ∧ (raiseServed level r).priority.queue = r.priority.queue ∧
    (raiseServed level r).priority.enable = r.priority.enable ∧ (raiseServed level r).priority.lockoutDue =
    r.priority.lockoutDue ∧ (raiseServed level r).priority.holdOffer = r.priority.holdOffer ∧ (raiseServed level
    r).priority.truncOffer = r.priority.truncOffer ∧ (raiseServed level r).priority.extensionNoted =
    r.priority.extensionNoted ∧ (raiseServed level r).report = r.report ∧ (raiseServed level r).notices =
    r.notices := by
  simp only [raiseServed]
  (repeat' split) <;> simp


@[simp] theorem extensionNotice_frame (e : Env) (r : Rt) :
    (extensionNotice e r).ring = r.ring ∧ (extensionNotice e r).mode = r.mode ∧ (extensionNotice e r).groups =
    r.groups ∧ (extensionNotice e r).monitor = r.monitor ∧ (extensionNotice e r).lamp = r.lamp ∧
    (extensionNotice e r).stage = r.stage ∧ (extensionNotice e r).loops = r.loops ∧ (extensionNotice e r).demand
    = r.demand ∧ (extensionNotice e r).trams = r.trams ∧ (extensionNotice e r).priority.queue = r.priority.queue
    ∧ (extensionNotice e r).priority.enable = r.priority.enable ∧ (extensionNotice e r).priority.lockoutDue =
    r.priority.lockoutDue ∧ (extensionNotice e r).priority.holdOffer = r.priority.holdOffer ∧ (extensionNotice e
    r).priority.truncOffer = r.priority.truncOffer ∧ (extensionNotice e r).report.record = r.report.record ∧
    (extensionNotice e r).notices = r.notices := by
  simp only [extensionNotice]
  (repeat' split) <;> simp


@[simp] theorem stageEndNotice_frame (e : Env) (truncated outOfOrder : Bool) (r : Rt) :
    (stageEndNotice e truncated outOfOrder r).ring = r.ring ∧ (stageEndNotice e truncated outOfOrder r).mode =
    r.mode ∧ (stageEndNotice e truncated outOfOrder r).groups = r.groups ∧ (stageEndNotice e truncated
    outOfOrder r).monitor = r.monitor ∧ (stageEndNotice e truncated outOfOrder r).lamp = r.lamp ∧
    (stageEndNotice e truncated outOfOrder r).stage = r.stage ∧ (stageEndNotice e truncated outOfOrder r).loops
    = r.loops ∧ (stageEndNotice e truncated outOfOrder r).demand = r.demand ∧ (stageEndNotice e truncated
    outOfOrder r).trams = r.trams ∧ (stageEndNotice e truncated outOfOrder r).priority.queue = r.priority.queue
    ∧ (stageEndNotice e truncated outOfOrder r).priority.enable = r.priority.enable ∧ (stageEndNotice e
    truncated outOfOrder r).priority.extensionNoted = r.priority.extensionNoted ∧ (stageEndNotice e truncated
    outOfOrder r).report.record = r.report.record ∧ (stageEndNotice e truncated outOfOrder r).notices =
    r.notices := by
  simp only [stageEndNotice]
  (repeat' split) <;> simp


@[simp] theorem priorityNotice_frame (e : Env) (r : Rt) :
    (priorityNotice e r).ring = r.ring ∧ (priorityNotice e r).mode = r.mode ∧ (priorityNotice e r).groups =
    r.groups ∧ (priorityNotice e r).monitor = r.monitor ∧ (priorityNotice e r).lamp = r.lamp ∧ (priorityNotice e
    r).stage = r.stage ∧ (priorityNotice e r).loops = r.loops ∧ (priorityNotice e r).demand = r.demand ∧
    (priorityNotice e r).trams = r.trams ∧ (priorityNotice e r).priority.queue = r.priority.queue ∧
    (priorityNotice e r).priority.enable = r.priority.enable ∧ (priorityNotice e r).priority.extensionNoted =
    r.priority.extensionNoted ∧ (priorityNotice e r).priority.served = r.priority.served ∧ (priorityNotice e
    r).report = r.report ∧ (priorityNotice e r).notices = r.notices := by
  simp only [priorityNotice]
  (repeat' split) <;> simp


@[simp] theorem setTram_frame (s : TramSlot) (x : Option TramRec) (r : Rt) :
    (setTram s x r).ring = r.ring ∧ (setTram s x r).mode = r.mode ∧ (setTram s x r).groups = r.groups ∧ (setTram
    s x r).monitor = r.monitor ∧ (setTram s x r).lamp = r.lamp ∧ (setTram s x r).stage = r.stage ∧ (setTram s x
    r).loops = r.loops ∧ (setTram s x r).demand = r.demand ∧ (setTram s x r).priority = r.priority ∧ (setTram s
    x r).report = r.report ∧ (setTram s x r).notices = r.notices := by
  simp [setTram]


@[simp] theorem postTramRefused_frame (e : Env) (src : Byte) (c : TelegramRefusal) (r : Rt) :
    (postTramRefused e src c r).ring = r.ring ∧ (postTramRefused e src c r).mode = r.mode ∧ (postTramRefused e
    src c r).groups = r.groups ∧ (postTramRefused e src c r).monitor = r.monitor ∧ (postTramRefused e src c
    r).lamp = r.lamp ∧ (postTramRefused e src c r).stage = r.stage ∧ (postTramRefused e src c r).loops = r.loops
    ∧ (postTramRefused e src c r).demand = r.demand ∧ (postTramRefused e src c r).trams = r.trams ∧
    (postTramRefused e src c r).priority = r.priority ∧ (postTramRefused e src c r).report.record =
    r.report.record ∧ (postTramRefused e src c r).notices = r.notices := by
  simp [postTramRefused]


@[simp] theorem placeRecord_frame (e : Env) (src : Byte) (line run : Nat) (make : Option TramRec → TramRec) (r : Rt) :
    (placeRecord e src line run make r).ring = r.ring ∧ (placeRecord e src line run make r).mode = r.mode ∧
    (placeRecord e src line run make r).groups = r.groups ∧ (placeRecord e src line run make r).monitor =
    r.monitor ∧ (placeRecord e src line run make r).lamp = r.lamp ∧ (placeRecord e src line run make r).stage =
    r.stage ∧ (placeRecord e src line run make r).loops = r.loops ∧ (placeRecord e src line run make r).demand =
    r.demand ∧ (placeRecord e src line run make r).priority.enable = r.priority.enable ∧ (placeRecord e src line
    run make r).priority.lockoutDue = r.priority.lockoutDue ∧ (placeRecord e src line run make
    r).priority.extensionNoted = r.priority.extensionNoted ∧ (placeRecord e src line run make r).priority.served
    = r.priority.served ∧ (placeRecord e src line run make r).report.record = r.report.record ∧ (placeRecord e
    src line run make r).notices = r.notices := by
  simp only [placeRecord]
  (repeat' split) <;> simp


@[simp] theorem checkoutSlot_frame (e : Env) (s : TramSlot) (c : CheckoutCause) (r : Rt) :
    (checkoutSlot e s c r).ring = r.ring ∧ (checkoutSlot e s c r).mode = r.mode ∧ (checkoutSlot e s c r).groups
    = r.groups ∧ (checkoutSlot e s c r).monitor = r.monitor ∧ (checkoutSlot e s c r).lamp = r.lamp ∧
    (checkoutSlot e s c r).stage = r.stage ∧ (checkoutSlot e s c r).loops = r.loops ∧ (checkoutSlot e s c
    r).demand = r.demand ∧ (checkoutSlot e s c r).priority.enable = r.priority.enable ∧ (checkoutSlot e s c
    r).priority.lockoutDue = r.priority.lockoutDue ∧ (checkoutSlot e s c r).priority.extensionNoted =
    r.priority.extensionNoted ∧ (checkoutSlot e s c r).priority.served = r.priority.served ∧ (checkoutSlot e s c
    r).report.record = r.report.record ∧ (checkoutSlot e s c r).notices = r.notices := by
  simp only [checkoutSlot]
  (repeat' split) <;> simp


@[simp] theorem checkout_frame (e : Env) (line run : Nat) (c : CheckoutCause) (r : Rt) :
    (checkout e line run c r).ring = r.ring ∧ (checkout e line run c r).mode = r.mode ∧ (checkout e line run c
    r).groups = r.groups ∧ (checkout e line run c r).monitor = r.monitor ∧ (checkout e line run c r).lamp =
    r.lamp ∧ (checkout e line run c r).stage = r.stage ∧ (checkout e line run c r).loops = r.loops ∧ (checkout e
    line run c r).demand = r.demand ∧ (checkout e line run c r).priority.enable = r.priority.enable ∧ (checkout
    e line run c r).priority.lockoutDue = r.priority.lockoutDue ∧ (checkout e line run c
    r).priority.extensionNoted = r.priority.extensionNoted ∧ (checkout e line run c r).priority.served =
    r.priority.served ∧ (checkout e line run c r).report.record = r.report.record ∧ (checkout e line run c
    r).notices = r.notices := by
  simp only [checkout]
  (repeat' split) <;> simp


@[simp] theorem validTelegram_frame (e : Env) (src : Byte) (type : TelegramType) (x : Telegram) (r : Rt) :
    (validTelegram e src type x r).ring = r.ring ∧ (validTelegram e src type x r).mode = r.mode ∧ (validTelegram
    e src type x r).groups = r.groups ∧ (validTelegram e src type x r).monitor = r.monitor ∧ (validTelegram e
    src type x r).lamp = r.lamp ∧ (validTelegram e src type x r).stage = r.stage ∧ (validTelegram e src type x
    r).loops = r.loops ∧ (validTelegram e src type x r).demand = r.demand ∧ (validTelegram e src type x
    r).priority.enable = r.priority.enable ∧ (validTelegram e src type x r).priority.lockoutDue =
    r.priority.lockoutDue ∧ (validTelegram e src type x r).priority.extensionNoted = r.priority.extensionNoted ∧
    (validTelegram e src type x r).priority.served = r.priority.served ∧ (validTelegram e src type x
    r).report.record = r.report.record ∧ (validTelegram e src type x r).notices = r.notices := by
  simp only [validTelegram]
  (repeat' split) <;> simp


@[simp] theorem takeTelegram_frame (e : Env) (src : Byte) (type : TelegramType) (pl : List Byte) (r : Rt) :
    (takeTelegram e src type pl r).ring = r.ring ∧ (takeTelegram e src type pl r).mode = r.mode ∧ (takeTelegram
    e src type pl r).groups = r.groups ∧ (takeTelegram e src type pl r).monitor = r.monitor ∧ (takeTelegram e
    src type pl r).lamp = r.lamp ∧ (takeTelegram e src type pl r).stage = r.stage ∧ (takeTelegram e src type pl
    r).loops = r.loops ∧ (takeTelegram e src type pl r).demand = r.demand ∧ (takeTelegram e src type pl
    r).priority.enable = r.priority.enable ∧ (takeTelegram e src type pl r).priority.lockoutDue =
    r.priority.lockoutDue ∧ (takeTelegram e src type pl r).priority.extensionNoted = r.priority.extensionNoted ∧
    (takeTelegram e src type pl r).priority.served = r.priority.served ∧ (takeTelegram e src type pl
    r).report.record = r.report.record ∧ (takeTelegram e src type pl r).notices = r.notices := by
  simp only [takeTelegram]
  (repeat' split) <;> simp


@[simp] theorem tramGreen_frame (e : Env) (g : Group) (r : Rt) :
    (tramGreen e g r).ring = r.ring ∧ (tramGreen e g r).mode = r.mode ∧ (tramGreen e g r).groups = r.groups ∧
    (tramGreen e g r).monitor = r.monitor ∧ (tramGreen e g r).lamp = r.lamp ∧ (tramGreen e g r).stage = r.stage
    ∧ (tramGreen e g r).loops = r.loops ∧ (tramGreen e g r).demand = r.demand ∧ (tramGreen e g
    r).priority.enable = r.priority.enable ∧ (tramGreen e g r).priority.lockoutDue = r.priority.lockoutDue ∧
    (tramGreen e g r).priority.extensionNoted = r.priority.extensionNoted ∧ (tramGreen e g r).priority.served =
    r.priority.served ∧ (tramGreen e g r).report = r.report ∧ (tramGreen e g r).notices = r.notices := by
  simp only [tramGreen]
  (repeat' split)
  all_goals first
    | (simp; done)
    | (refine foldl_inv (fun x => x.ring = r.ring ∧ x.mode = r.mode ∧ x.groups = r.groups ∧ x.monitor = r.monitor ∧ x.lamp = r.lamp ∧ x.stage = r.stage ∧ x.loops = r.loops ∧ x.demand = r.demand ∧ x.priority.enable = r.priority.enable ∧ x.priority.lockoutDue = r.priority.lockoutDue ∧ x.priority.extensionNoted = r.priority.extensionNoted ∧ x.priority.served = r.priority.served ∧ x.report = r.report ∧ x.notices = r.notices) _ (fun x a hx => ?_) _ _ ?_
       · revert hx; (repeat' split) <;> simp <;> intros <;> simp_all
       · (repeat' split) <;> simp)


@[simp] theorem postTramLost_frame (e : Env) (s : TramSlot) (x : TramRec) (r : Rt) :
    (postTramLost e s x r).ring = r.ring ∧ (postTramLost e s x r).mode = r.mode ∧ (postTramLost e s x r).groups
    = r.groups ∧ (postTramLost e s x r).monitor = r.monitor ∧ (postTramLost e s x r).lamp = r.lamp ∧
    (postTramLost e s x r).stage = r.stage ∧ (postTramLost e s x r).loops = r.loops ∧ (postTramLost e s x
    r).demand = r.demand ∧ (postTramLost e s x r).trams = r.trams ∧ (postTramLost e s x r).priority = r.priority
    ∧ (postTramLost e s x r).report.record = r.report.record ∧ (postTramLost e s x r).notices = r.notices := by
  simp [postTramLost]


@[simp] theorem loseTram_frame (e : Env) (s : TramSlot) (x : TramRec) (r : Rt) :
    (loseTram e s x r).ring = r.ring ∧ (loseTram e s x r).mode = r.mode ∧ (loseTram e s x r).groups = r.groups ∧
    (loseTram e s x r).monitor = r.monitor ∧ (loseTram e s x r).lamp = r.lamp ∧ (loseTram e s x r).stage =
    r.stage ∧ (loseTram e s x r).loops = r.loops ∧ (loseTram e s x r).demand = r.demand ∧ (loseTram e s x
    r).priority.enable = r.priority.enable ∧ (loseTram e s x r).priority.lockoutDue = r.priority.lockoutDue ∧
    (loseTram e s x r).priority.extensionNoted = r.priority.extensionNoted ∧ (loseTram e s x r).priority.served
    = r.priority.served ∧ (loseTram e s x r).report.record = r.report.record ∧ (loseTram e s x r).notices =
    r.notices := by
  simp [loseTram]


@[simp] theorem stopLimitRun_frame (e : Env) (s : TramSlot) (r : Rt) :
    (stopLimitRun e s r).ring = r.ring ∧ (stopLimitRun e s r).mode = r.mode ∧ (stopLimitRun e s r).groups =
    r.groups ∧ (stopLimitRun e s r).monitor = r.monitor ∧ (stopLimitRun e s r).lamp = r.lamp ∧ (stopLimitRun e s
    r).stage = r.stage ∧ (stopLimitRun e s r).loops = r.loops ∧ (stopLimitRun e s r).demand = r.demand ∧
    (stopLimitRun e s r).priority.enable = r.priority.enable ∧ (stopLimitRun e s r).priority.lockoutDue =
    r.priority.lockoutDue ∧ (stopLimitRun e s r).priority.extensionNoted = r.priority.extensionNoted ∧
    (stopLimitRun e s r).priority.served = r.priority.served ∧ (stopLimitRun e s r).report.record =
    r.report.record ∧ (stopLimitRun e s r).notices = r.notices := by
  simp only [stopLimitRun]
  (repeat' split) <;> simp


@[simp] theorem guardEndRun_frame (e : Env) (s : TramSlot) (r : Rt) :
    (guardEndRun e s r).ring = r.ring ∧ (guardEndRun e s r).mode = r.mode ∧ (guardEndRun e s r).groups =
    r.groups ∧ (guardEndRun e s r).monitor = r.monitor ∧ (guardEndRun e s r).lamp = r.lamp ∧ (guardEndRun e s
    r).stage = r.stage ∧ (guardEndRun e s r).loops = r.loops ∧ (guardEndRun e s r).demand = r.demand ∧
    (guardEndRun e s r).priority.enable = r.priority.enable ∧ (guardEndRun e s r).priority.lockoutDue =
    r.priority.lockoutDue ∧ (guardEndRun e s r).priority.extensionNoted = r.priority.extensionNoted ∧
    (guardEndRun e s r).priority.served = r.priority.served ∧ (guardEndRun e s r).report.record =
    r.report.record ∧ (guardEndRun e s r).notices = r.notices := by
  simp only [guardEndRun]
  (repeat' split) <;> simp


@[simp] theorem windowEndRun_frame (e : Env) (s : TramSlot) (r : Rt) :
    (windowEndRun e s r).ring = r.ring ∧ (windowEndRun e s r).mode = r.mode ∧ (windowEndRun e s r).groups =
    r.groups ∧ (windowEndRun e s r).monitor = r.monitor ∧ (windowEndRun e s r).lamp = r.lamp ∧ (windowEndRun e s
    r).stage = r.stage ∧ (windowEndRun e s r).loops = r.loops ∧ (windowEndRun e s r).demand = r.demand ∧
    (windowEndRun e s r).priority.enable = r.priority.enable ∧ (windowEndRun e s r).priority.lockoutDue =
    r.priority.lockoutDue ∧ (windowEndRun e s r).priority.extensionNoted = r.priority.extensionNoted ∧
    (windowEndRun e s r).priority.served = r.priority.served ∧ (windowEndRun e s r).report.record =
    r.report.record ∧ (windowEndRun e s r).notices = r.notices := by
  simp only [windowEndRun]
  (repeat' split) <;> simp


@[simp] theorem tramsEmpty_frame (e : Env) (r : Rt) :
    (tramsEmpty e r).ring = r.ring ∧ (tramsEmpty e r).mode = r.mode ∧ (tramsEmpty e r).groups = r.groups ∧
    (tramsEmpty e r).monitor = r.monitor ∧ (tramsEmpty e r).lamp = r.lamp ∧ (tramsEmpty e r).stage = r.stage ∧
    (tramsEmpty e r).loops = r.loops ∧ (tramsEmpty e r).demand = r.demand ∧ (tramsEmpty e r).priority.enable =
    r.priority.enable ∧ (tramsEmpty e r).priority.lockoutDue = r.priority.lockoutDue ∧ (tramsEmpty e
    r).priority.extensionNoted = r.priority.extensionNoted ∧ (tramsEmpty e r).priority.served =
    r.priority.served ∧ (tramsEmpty e r).report = r.report ∧ (tramsEmpty e r).notices = r.notices := by
  simp only [tramsEmpty]
  (repeat' split)
  all_goals first
    | (simp; done)
    | (refine foldl_inv (fun x => x.ring = r.ring ∧ x.mode = r.mode ∧ x.groups = r.groups ∧ x.monitor = r.monitor ∧ x.lamp = r.lamp ∧ x.stage = r.stage ∧ x.loops = r.loops ∧ x.demand = r.demand ∧ x.priority.enable = r.priority.enable ∧ x.priority.lockoutDue = r.priority.lockoutDue ∧ x.priority.extensionNoted = r.priority.extensionNoted ∧ x.priority.served = r.priority.served ∧ x.report = r.report ∧ x.notices = r.notices) _ (fun x a hx => ?_) _ _ ?_
       · revert hx; (repeat' split) <;> simp <;> intros <;> simp_all
       · (repeat' split) <;> simp)


end Sys2Proof.Machine
end

