-- ==== Sys2Proof/Laws/Loops.lean ====
section
/-! SUPPORT. Frame lemmas of the Loop Unit's operations. -/

namespace Sys2Proof.Machine

@[simp] theorem updLoop_frame (l : Loop) (f : LoopRec → LoopRec) (r : Rt) :
    (updLoop l f r).ring = r.ring ∧ (updLoop l f r).mode = r.mode ∧ (updLoop l f r).groups = r.groups ∧ (updLoop
    l f r).monitor = r.monitor ∧ (updLoop l f r).lamp = r.lamp ∧ (updLoop l f r).stage = r.stage ∧ (updLoop l f
    r).loops.cards = r.loops.cards ∧ (updLoop l f r).demand = r.demand ∧ (updLoop l f r).trams = r.trams ∧
    (updLoop l f r).priority = r.priority ∧ (updLoop l f r).report = r.report ∧ (updLoop l f r).notices =
    r.notices := by
  simp [updLoop]


@[simp] theorem updCard_frame (addr : Byte) (f : CardRec → CardRec) (r : Rt) :
    (updCard addr f r).ring = r.ring ∧ (updCard addr f r).mode = r.mode ∧ (updCard addr f r).groups = r.groups ∧
    (updCard addr f r).monitor = r.monitor ∧ (updCard addr f r).lamp = r.lamp ∧ (updCard addr f r).stage =
    r.stage ∧ (updCard addr f r).loops.recs = r.loops.recs ∧ (updCard addr f r).demand = r.demand ∧ (updCard
    addr f r).trams = r.trams ∧ (updCard addr f r).priority = r.priority ∧ (updCard addr f r).report = r.report
    ∧ (updCard addr f r).notices = r.notices := by
  simp only [updCard]
  (repeat' split) <;> simp


@[simp] theorem joinList_frame (addr : Byte) (l : Loop) (r : Rt) :
    (joinList addr l r).ring = r.ring ∧ (joinList addr l r).mode = r.mode ∧ (joinList addr l r).groups =
    r.groups ∧ (joinList addr l r).monitor = r.monitor ∧ (joinList addr l r).lamp = r.lamp ∧ (joinList addr l
    r).stage = r.stage ∧ (joinList addr l r).loops.recs = r.loops.recs ∧ (joinList addr l r).demand = r.demand ∧
    (joinList addr l r).trams = r.trams ∧ (joinList addr l r).priority = r.priority ∧ (joinList addr l r).report
    = r.report ∧ (joinList addr l r).notices = r.notices := by
  simp only [joinList]
  (repeat' split) <;> simp


@[simp] theorem leaveList_frame (addr : Byte) (l : Loop) (r : Rt) :
    (leaveList addr l r).ring = r.ring ∧ (leaveList addr l r).mode = r.mode ∧ (leaveList addr l r).groups =
    r.groups ∧ (leaveList addr l r).monitor = r.monitor ∧ (leaveList addr l r).lamp = r.lamp ∧ (leaveList addr l
    r).stage = r.stage ∧ (leaveList addr l r).loops.recs = r.loops.recs ∧ (leaveList addr l r).demand = r.demand
    ∧ (leaveList addr l r).trams = r.trams ∧ (leaveList addr l r).priority = r.priority ∧ (leaveList addr l
    r).report = r.report ∧ (leaveList addr l r).notices = r.notices := by
  simp [leaveList]


@[simp] theorem faultLoop_frame (e : Env) (l : Loop) (c : LoopCause) (r : Rt) :
    (faultLoop e l c r).ring = r.ring ∧ (faultLoop e l c r).mode = r.mode ∧ (faultLoop e l c r).groups =
    r.groups ∧ (faultLoop e l c r).monitor = r.monitor ∧ (faultLoop e l c r).lamp = r.lamp ∧ (faultLoop e l c
    r).stage = r.stage ∧ (faultLoop e l c r).loops.cards = r.loops.cards ∧ (faultLoop e l c r).demand.active =
    r.demand.active ∧ (faultLoop e l c r).trams = r.trams ∧ (faultLoop e l c r).priority = r.priority ∧
    (faultLoop e l c r).notices = r.notices := by
  simp [faultLoop]


@[simp] theorem trySetting_frame (e : Env) (x : LoopEntry) (l : Loop) (k : Nat) (r : Rt) :
    (trySetting e x l k r).ring.head = r.ring.head ∧ (trySetting e x l k r).ring.field = r.ring.field ∧
    (trySetting e x l k r).ring.replies = r.ring.replies ∧ (trySetting e x l k r).ring.aspects = r.ring.aspects
    ∧ (trySetting e x l k r).ring.crcFlag = r.ring.crcFlag ∧ (trySetting e x l k r).mode = r.mode ∧ (trySetting
    e x l k r).groups = r.groups ∧ (trySetting e x l k r).monitor = r.monitor ∧ (trySetting e x l k r).lamp =
    r.lamp ∧ (trySetting e x l k r).stage = r.stage ∧ (trySetting e x l k r).loops.cards = r.loops.cards ∧
    (trySetting e x l k r).demand = r.demand ∧ (trySetting e x l k r).trams = r.trams ∧ (trySetting e x l k
    r).priority = r.priority ∧ (trySetting e x l k r).report.record = r.report.record ∧ (trySetting e x l k
    r).notices = r.notices := by
  simp [trySetting]


@[simp] theorem sweepFailed_frame (e : Env) (x : LoopEntry) (l : Loop) (r : Rt) :
    (sweepFailed e x l r).ring = r.ring ∧ (sweepFailed e x l r).mode = r.mode ∧ (sweepFailed e x l r).groups =
    r.groups ∧ (sweepFailed e x l r).monitor = r.monitor ∧ (sweepFailed e x l r).lamp = r.lamp ∧ (sweepFailed e
    x l r).stage = r.stage ∧ (sweepFailed e x l r).demand.active = r.demand.active ∧ (sweepFailed e x l r).trams
    = r.trams ∧ (sweepFailed e x l r).priority = r.priority ∧ (sweepFailed e x l r).notices = r.notices := by
  simp [sweepFailed]


@[simp] theorem sweepFrom_frame (e : Env) (x : LoopEntry) (l : Loop) (k : Nat) (r : Rt) :
    (sweepFrom e x l k r).ring.head = r.ring.head ∧ (sweepFrom e x l k r).ring.field = r.ring.field ∧ (sweepFrom
    e x l k r).ring.replies = r.ring.replies ∧ (sweepFrom e x l k r).ring.aspects = r.ring.aspects ∧ (sweepFrom
    e x l k r).ring.crcFlag = r.ring.crcFlag ∧ (sweepFrom e x l k r).mode = r.mode ∧ (sweepFrom e x l k
    r).groups = r.groups ∧ (sweepFrom e x l k r).monitor = r.monitor ∧ (sweepFrom e x l k r).lamp = r.lamp ∧
    (sweepFrom e x l k r).stage = r.stage ∧ (sweepFrom e x l k r).demand.active = r.demand.active ∧ (sweepFrom e
    x l k r).trams = r.trams ∧ (sweepFrom e x l k r).priority = r.priority ∧ (sweepFrom e x l k r).notices =
    r.notices := by
  simp only [sweepFrom]
  (repeat' split) <;> simp


@[simp] theorem beginSweep_frame (e : Env) (x : LoopEntry) (l : Loop) (r : Rt) :
    (beginSweep e x l r).ring.head = r.ring.head ∧ (beginSweep e x l r).ring.field = r.ring.field ∧ (beginSweep
    e x l r).ring.replies = r.ring.replies ∧ (beginSweep e x l r).ring.aspects = r.ring.aspects ∧ (beginSweep e
    x l r).ring.crcFlag = r.ring.crcFlag ∧ (beginSweep e x l r).mode = r.mode ∧ (beginSweep e x l r).groups =
    r.groups ∧ (beginSweep e x l r).monitor = r.monitor ∧ (beginSweep e x l r).lamp = r.lamp ∧ (beginSweep e x l
    r).stage = r.stage ∧ (beginSweep e x l r).demand.active = r.demand.active ∧ (beginSweep e x l r).trams =
    r.trams ∧ (beginSweep e x l r).priority = r.priority ∧ (beginSweep e x l r).notices = r.notices := by
  simp [beginSweep]


@[simp] theorem kickCard_frame (e : Env) (addr : Byte) (n : Nat) (r : Rt) :
    (kickCard e addr n r).ring.head = r.ring.head ∧ (kickCard e addr n r).ring.field = r.ring.field ∧ (kickCard
    e addr n r).ring.replies = r.ring.replies ∧ (kickCard e addr n r).ring.aspects = r.ring.aspects ∧ (kickCard
    e addr n r).ring.crcFlag = r.ring.crcFlag ∧ (kickCard e addr n r).mode = r.mode ∧ (kickCard e addr n
    r).groups = r.groups ∧ (kickCard e addr n r).monitor = r.monitor ∧ (kickCard e addr n r).lamp = r.lamp ∧
    (kickCard e addr n r).stage = r.stage ∧ (kickCard e addr n r).demand.active = r.demand.active ∧ (kickCard e
    addr n r).trams = r.trams ∧ (kickCard e addr n r).priority = r.priority ∧ (kickCard e addr n r).notices =
    r.notices := by
  induction n generalizing r with
  | zero => simp [kickCard]
  | succ n ih => simp only [kickCard]; (repeat' split) <;> simp [ih]


@[simp] theorem kick_frame (e : Env) (addr : Byte) (r : Rt) :
    (kick e addr r).ring.head = r.ring.head ∧ (kick e addr r).ring.field = r.ring.field ∧ (kick e addr
    r).ring.replies = r.ring.replies ∧ (kick e addr r).ring.aspects = r.ring.aspects ∧ (kick e addr
    r).ring.crcFlag = r.ring.crcFlag ∧ (kick e addr r).mode = r.mode ∧ (kick e addr r).groups = r.groups ∧ (kick
    e addr r).monitor = r.monitor ∧ (kick e addr r).lamp = r.lamp ∧ (kick e addr r).stage = r.stage ∧ (kick e
    addr r).demand.active = r.demand.active ∧ (kick e addr r).trams = r.trams ∧ (kick e addr r).priority =
    r.priority ∧ (kick e addr r).notices = r.notices := by
  simp [kick]


@[simp] theorem invalidSample_frame (e : Env) (l : Loop) (s : Sample) (r : Rt) :
    (invalidSample e l s r).ring = r.ring ∧ (invalidSample e l s r).mode = r.mode ∧ (invalidSample e l s
    r).groups = r.groups ∧ (invalidSample e l s r).monitor = r.monitor ∧ (invalidSample e l s r).lamp = r.lamp ∧
    (invalidSample e l s r).stage = r.stage ∧ (invalidSample e l s r).loops.cards = r.loops.cards ∧
    (invalidSample e l s r).demand.active = r.demand.active ∧ (invalidSample e l s r).trams = r.trams ∧
    (invalidSample e l s r).priority = r.priority ∧ (invalidSample e l s r).notices = r.notices := by
  simp only [invalidSample]
  (repeat' split) <;> simp


@[simp] theorem enterClear_frame (e : Env) (l : Loop) (r : Rt) :
    (enterClear e l r).ring = r.ring ∧ (enterClear e l r).mode = r.mode ∧ (enterClear e l r).groups = r.groups ∧
    (enterClear e l r).monitor = r.monitor ∧ (enterClear e l r).lamp = r.lamp ∧ (enterClear e l r).stage =
    r.stage ∧ (enterClear e l r).loops.cards = r.loops.cards ∧ (enterClear e l r).demand.active =
    r.demand.active ∧ (enterClear e l r).trams = r.trams ∧ (enterClear e l r).priority = r.priority ∧
    (enterClear e l r).report.record = r.report.record ∧ (enterClear e l r).notices = r.notices := by
  simp [enterClear]


@[simp] theorem enterOccupied_frame (e : Env) (l : Loop) (r : Rt) :
    (enterOccupied e l r).ring = r.ring ∧ (enterOccupied e l r).mode = r.mode ∧ (enterOccupied e l r).groups =
    r.groups ∧ (enterOccupied e l r).monitor = r.monitor ∧ (enterOccupied e l r).lamp = r.lamp ∧ (enterOccupied
    e l r).stage = r.stage ∧ (enterOccupied e l r).loops.cards = r.loops.cards ∧ (enterOccupied e l
    r).demand.active = r.demand.active ∧ (enterOccupied e l r).trams = r.trams ∧ (enterOccupied e l r).priority
    = r.priority ∧ (enterOccupied e l r).report.record = r.report.record ∧ (enterOccupied e l r).notices =
    r.notices := by
  simp [enterOccupied]


@[simp] theorem settlingSample_frame (e : Env) (l : Loop) (bf : Nat) (s : Sample) (r : Rt) :
    (settlingSample e l bf s r).ring = r.ring ∧ (settlingSample e l bf s r).mode = r.mode ∧ (settlingSample e l
    bf s r).groups = r.groups ∧ (settlingSample e l bf s r).monitor = r.monitor ∧ (settlingSample e l bf s
    r).lamp = r.lamp ∧ (settlingSample e l bf s r).stage = r.stage ∧ (settlingSample e l bf s r).loops.cards =
    r.loops.cards ∧ (settlingSample e l bf s r).demand.active = r.demand.active ∧ (settlingSample e l bf s
    r).trams = r.trams ∧ (settlingSample e l bf s r).priority = r.priority ∧ (settlingSample e l bf s
    r).report.record = r.report.record ∧ (settlingSample e l bf s r).notices = r.notices := by
  simp only [settlingSample]
  (repeat' split) <;> simp


@[simp] theorem clearSample_frame (e : Env) (l : Loop) (x : LoopEntry) (bf : Nat) (d : Int) (s : Sample) (r : Rt) :
    (clearSample e l x bf d s r).ring = r.ring ∧ (clearSample e l x bf d s r).mode = r.mode ∧ (clearSample e l x
    bf d s r).groups = r.groups ∧ (clearSample e l x bf d s r).monitor = r.monitor ∧ (clearSample e l x bf d s
    r).lamp = r.lamp ∧ (clearSample e l x bf d s r).stage = r.stage ∧ (clearSample e l x bf d s r).loops.cards =
    r.loops.cards ∧ (clearSample e l x bf d s r).demand.active = r.demand.active ∧ (clearSample e l x bf d s
    r).trams = r.trams ∧ (clearSample e l x bf d s r).priority = r.priority ∧ (clearSample e l x bf d s
    r).report.record = r.report.record ∧ (clearSample e l x bf d s r).notices = r.notices := by
  simp only [clearSample]
  (repeat' split) <;> simp


@[simp] theorem occupiedJudged_frame (e : Env) (l : Loop) (x : LoopEntry) (d : Int) (s : Sample) (r : Rt) :
    (occupiedJudged e l x d s r).ring = r.ring ∧ (occupiedJudged e l x d s r).mode = r.mode ∧ (occupiedJudged e
    l x d s r).groups = r.groups ∧ (occupiedJudged e l x d s r).monitor = r.monitor ∧ (occupiedJudged e l x d s
    r).lamp = r.lamp ∧ (occupiedJudged e l x d s r).stage = r.stage ∧ (occupiedJudged e l x d s r).loops.cards =
    r.loops.cards ∧ (occupiedJudged e l x d s r).demand.active = r.demand.active ∧ (occupiedJudged e l x d s
    r).trams = r.trams ∧ (occupiedJudged e l x d s r).priority = r.priority ∧ (occupiedJudged e l x d s
    r).report.record = r.report.record ∧ (occupiedJudged e l x d s r).notices = r.notices := by
  simp only [occupiedJudged]
  (repeat' split) <;> simp


@[simp] theorem judgeSample_frame (e : Env) (l : Loop) (x : LoopEntry) (s : Sample) (r : Rt) :
    (judgeSample e l x s r).ring = r.ring ∧ (judgeSample e l x s r).mode = r.mode ∧ (judgeSample e l x s
    r).groups = r.groups ∧ (judgeSample e l x s r).monitor = r.monitor ∧ (judgeSample e l x s r).lamp = r.lamp ∧
    (judgeSample e l x s r).stage = r.stage ∧ (judgeSample e l x s r).loops.cards = r.loops.cards ∧ (judgeSample
    e l x s r).demand.active = r.demand.active ∧ (judgeSample e l x s r).trams = r.trams ∧ (judgeSample e l x s
    r).priority = r.priority ∧ (judgeSample e l x s r).notices = r.notices := by
  simp only [judgeSample]
  (repeat' split) <;> simp


@[simp] theorem sweepSample_frame (e : Env) (l : Loop) (x : LoopEntry) (s : Sample) (r : Rt) :
    (sweepSample e l x s r).ring.head = r.ring.head ∧ (sweepSample e l x s r).ring.field = r.ring.field ∧
    (sweepSample e l x s r).ring.replies = r.ring.replies ∧ (sweepSample e l x s r).ring.aspects =
    r.ring.aspects ∧ (sweepSample e l x s r).ring.crcFlag = r.ring.crcFlag ∧ (sweepSample e l x s r).mode =
    r.mode ∧ (sweepSample e l x s r).groups = r.groups ∧ (sweepSample e l x s r).monitor = r.monitor ∧
    (sweepSample e l x s r).lamp = r.lamp ∧ (sweepSample e l x s r).stage = r.stage ∧ (sweepSample e l x s
    r).demand.active = r.demand.active ∧ (sweepSample e l x s r).trams = r.trams ∧ (sweepSample e l x s
    r).priority = r.priority ∧ (sweepSample e l x s r).notices = r.notices := by
  simp only [sweepSample]
  (repeat' split) <;> simp


@[simp] theorem faultSample_frame (e : Env) (l : Loop) (x : LoopEntry) (s : Sample) (r : Rt) :
    (faultSample e l x s r).ring.head = r.ring.head ∧ (faultSample e l x s r).ring.field = r.ring.field ∧
    (faultSample e l x s r).ring.replies = r.ring.replies ∧ (faultSample e l x s r).ring.aspects =
    r.ring.aspects ∧ (faultSample e l x s r).ring.crcFlag = r.ring.crcFlag ∧ (faultSample e l x s r).mode =
    r.mode ∧ (faultSample e l x s r).groups = r.groups ∧ (faultSample e l x s r).monitor = r.monitor ∧
    (faultSample e l x s r).lamp = r.lamp ∧ (faultSample e l x s r).stage = r.stage ∧ (faultSample e l x s
    r).demand.active = r.demand.active ∧ (faultSample e l x s r).trams = r.trams ∧ (faultSample e l x s
    r).priority = r.priority ∧ (faultSample e l x s r).notices = r.notices := by
  simp only [faultSample, recoverySample]
  (repeat' split) <;> simp


@[simp] theorem loopSample_frame (e : Env) (l : Loop) (x : LoopEntry) (s : Sample) (r : Rt) :
    (loopSample e l x s r).ring.head = r.ring.head ∧ (loopSample e l x s r).ring.field = r.ring.field ∧
    (loopSample e l x s r).ring.replies = r.ring.replies ∧ (loopSample e l x s r).ring.aspects = r.ring.aspects
    ∧ (loopSample e l x s r).ring.crcFlag = r.ring.crcFlag ∧ (loopSample e l x s r).mode = r.mode ∧ (loopSample
    e l x s r).groups = r.groups ∧ (loopSample e l x s r).monitor = r.monitor ∧ (loopSample e l x s r).lamp =
    r.lamp ∧ (loopSample e l x s r).stage = r.stage ∧ (loopSample e l x s r).demand.active = r.demand.active ∧
    (loopSample e l x s r).trams = r.trams ∧ (loopSample e l x s r).priority = r.priority ∧ (loopSample e l x s
    r).notices = r.notices := by
  simp only [loopSample]
  (repeat' split) <;> simp


@[simp] theorem endSilence_frame (e : Env) (addr : Byte) (r : Rt) :
    (endSilence e addr r).ring.head = r.ring.head ∧ (endSilence e addr r).ring.field = r.ring.field ∧
    (endSilence e addr r).ring.replies = r.ring.replies ∧ (endSilence e addr r).ring.aspects = r.ring.aspects ∧
    (endSilence e addr r).ring.crcFlag = r.ring.crcFlag ∧ (endSilence e addr r).mode = r.mode ∧ (endSilence e
    addr r).groups = r.groups ∧ (endSilence e addr r).monitor = r.monitor ∧ (endSilence e addr r).lamp = r.lamp
    ∧ (endSilence e addr r).stage = r.stage ∧ (endSilence e addr r).demand.active = r.demand.active ∧
    (endSilence e addr r).trams = r.trams ∧ (endSilence e addr r).priority = r.priority ∧ (endSilence e addr
    r).notices = r.notices := by
  simp only [endSilence]
  generalize hy : List.foldl _ _ _ = y
  have h : y.ring.head = r.ring.head ∧ y.ring.field = r.ring.field ∧ y.ring.replies = r.ring.replies ∧ y.ring.aspects = r.ring.aspects ∧ y.ring.crcFlag = r.ring.crcFlag ∧ y.mode = r.mode ∧ y.groups = r.groups ∧ y.monitor = r.monitor ∧ y.lamp = r.lamp ∧ y.stage = r.stage ∧ y.demand.active = r.demand.active ∧ y.trams = r.trams ∧ y.priority = r.priority ∧ y.notices = r.notices := by
    subst hy
    refine foldl_inv (fun x => x.ring.head = r.ring.head ∧ x.ring.field = r.ring.field ∧ x.ring.replies = r.ring.replies ∧ x.ring.aspects = r.ring.aspects ∧ x.ring.crcFlag = r.ring.crcFlag ∧ x.mode = r.mode ∧ x.groups = r.groups ∧ x.monitor = r.monitor ∧ x.lamp = r.lamp ∧ x.stage = r.stage ∧ x.demand.active = r.demand.active ∧ x.trams = r.trams ∧ x.priority = r.priority ∧ x.notices = r.notices) _ (fun x a hx => ?_) _ _ ?_
    · revert hx; (repeat' split) <;> simp <;> intros <;> simp_all
    · (repeat' split) <;> simp
  revert h; (repeat' split) <;> simp <;> intros <;> simp_all


@[simp] theorem takeLoopCounts_frame (e : Env) (addr : Byte) (pl : List Byte) (r : Rt) :
    (takeLoopCounts e addr pl r).ring.head = r.ring.head ∧ (takeLoopCounts e addr pl r).ring.field =
    r.ring.field ∧ (takeLoopCounts e addr pl r).ring.replies = r.ring.replies ∧ (takeLoopCounts e addr pl
    r).ring.aspects = r.ring.aspects ∧ (takeLoopCounts e addr pl r).ring.crcFlag = r.ring.crcFlag ∧
    (takeLoopCounts e addr pl r).mode = r.mode ∧ (takeLoopCounts e addr pl r).groups = r.groups ∧
    (takeLoopCounts e addr pl r).monitor = r.monitor ∧ (takeLoopCounts e addr pl r).lamp = r.lamp ∧
    (takeLoopCounts e addr pl r).stage = r.stage ∧ (takeLoopCounts e addr pl r).demand.active = r.demand.active
    ∧ (takeLoopCounts e addr pl r).trams = r.trams ∧ (takeLoopCounts e addr pl r).priority = r.priority ∧
    (takeLoopCounts e addr pl r).notices = r.notices := by
  simp only [takeLoopCounts]
  (repeat' split)
  all_goals first
    | (simp; done)
    | (refine foldl_inv (fun x => x.ring.head = r.ring.head ∧ x.ring.field = r.ring.field ∧ x.ring.replies = r.ring.replies ∧ x.ring.aspects = r.ring.aspects ∧ x.ring.crcFlag = r.ring.crcFlag ∧ x.mode = r.mode ∧ x.groups = r.groups ∧ x.monitor = r.monitor ∧ x.lamp = r.lamp ∧ x.stage = r.stage ∧ x.demand.active = r.demand.active ∧ x.trams = r.trams ∧ x.priority = r.priority ∧ x.notices = r.notices) _ (fun x a hx => ?_) _ _ ?_
       · revert hx; (repeat' split) <;> simp <;> intros <;> simp_all
       · (repeat' split) <;> simp)


@[simp] theorem cardSilence_frame (e : Env) (addr : Byte) (r : Rt) :
    (cardSilence e addr r).ring = r.ring ∧ (cardSilence e addr r).mode = r.mode ∧ (cardSilence e addr r).groups
    = r.groups ∧ (cardSilence e addr r).monitor = r.monitor ∧ (cardSilence e addr r).lamp = r.lamp ∧
    (cardSilence e addr r).stage = r.stage ∧ (cardSilence e addr r).demand.active = r.demand.active ∧
    (cardSilence e addr r).trams = r.trams ∧ (cardSilence e addr r).priority = r.priority ∧ (cardSilence e addr
    r).notices = r.notices := by
  simp only [cardSilence]
  (repeat' split)
  all_goals first
    | (simp; done)
    | (refine foldl_inv (fun x => x.ring = r.ring ∧ x.mode = r.mode ∧ x.groups = r.groups ∧ x.monitor = r.monitor ∧ x.lamp = r.lamp ∧ x.stage = r.stage ∧ x.demand.active = r.demand.active ∧ x.trams = r.trams ∧ x.priority = r.priority ∧ x.notices = r.notices) _ (fun x a hx => ?_) _ _ ?_
       · revert hx; (repeat' split) <;> simp <;> intros <;> simp_all
       · (repeat' split) <;> simp)


@[simp] theorem tuneEcho_frame (e : Env) (l : Loop) (r : Rt) :
    (tuneEcho e l r).ring.head = r.ring.head ∧ (tuneEcho e l r).ring.field = r.ring.field ∧ (tuneEcho e l
    r).ring.replies = r.ring.replies ∧ (tuneEcho e l r).ring.aspects = r.ring.aspects ∧ (tuneEcho e l
    r).ring.crcFlag = r.ring.crcFlag ∧ (tuneEcho e l r).mode = r.mode ∧ (tuneEcho e l r).groups = r.groups ∧
    (tuneEcho e l r).monitor = r.monitor ∧ (tuneEcho e l r).lamp = r.lamp ∧ (tuneEcho e l r).stage = r.stage ∧
    (tuneEcho e l r).demand.active = r.demand.active ∧ (tuneEcho e l r).trams = r.trams ∧ (tuneEcho e l
    r).priority = r.priority ∧ (tuneEcho e l r).notices = r.notices := by
  simp only [tuneEcho]
  (repeat' split) <;> simp


@[simp] theorem tuneRetry_frame (e : Env) (l : Loop) (r : Rt) :
    (tuneRetry e l r).ring.head = r.ring.head ∧ (tuneRetry e l r).ring.field = r.ring.field ∧ (tuneRetry e l
    r).ring.replies = r.ring.replies ∧ (tuneRetry e l r).ring.aspects = r.ring.aspects ∧ (tuneRetry e l
    r).ring.crcFlag = r.ring.crcFlag ∧ (tuneRetry e l r).mode = r.mode ∧ (tuneRetry e l r).groups = r.groups ∧
    (tuneRetry e l r).monitor = r.monitor ∧ (tuneRetry e l r).lamp = r.lamp ∧ (tuneRetry e l r).stage = r.stage
    ∧ (tuneRetry e l r).demand.active = r.demand.active ∧ (tuneRetry e l r).trams = r.trams ∧ (tuneRetry e l
    r).priority = r.priority ∧ (tuneRetry e l r).notices = r.notices := by
  simp only [tuneRetry]
  (repeat' split) <;> simp


@[simp] theorem remapCards_frame (e : Env) (r : Rt) :
    (remapCards e r).ring = r.ring ∧ (remapCards e r).mode = r.mode ∧ (remapCards e r).groups = r.groups ∧
    (remapCards e r).monitor = r.monitor ∧ (remapCards e r).lamp = r.lamp ∧ (remapCards e r).stage = r.stage ∧
    (remapCards e r).loops.recs = r.loops.recs ∧ (remapCards e r).demand = r.demand ∧ (remapCards e r).trams =
    r.trams ∧ (remapCards e r).priority = r.priority ∧ (remapCards e r).report = r.report ∧ (remapCards e
    r).notices = r.notices := by
  simp [remapCards]


@[simp] theorem loopWritten_frame (e : Env) (l : Loop) (old : Option LoopEntry) (r : Rt) :
    (loopWritten e l old r).ring.head = r.ring.head ∧ (loopWritten e l old r).ring.field = r.ring.field ∧
    (loopWritten e l old r).ring.replies = r.ring.replies ∧ (loopWritten e l old r).ring.aspects =
    r.ring.aspects ∧ (loopWritten e l old r).ring.crcFlag = r.ring.crcFlag ∧ (loopWritten e l old r).mode =
    r.mode ∧ (loopWritten e l old r).groups = r.groups ∧ (loopWritten e l old r).monitor = r.monitor ∧
    (loopWritten e l old r).lamp = r.lamp ∧ (loopWritten e l old r).stage = r.stage ∧ (loopWritten e l old
    r).demand.active = r.demand.active ∧ (loopWritten e l old r).trams = r.trams ∧ (loopWritten e l old
    r).priority = r.priority ∧ (loopWritten e l old r).notices = r.notices := by
  simp only [loopWritten]
  (repeat' split) <;> simp


@[simp] theorem rebuildLoops_frame (e : Env) (r : Rt) :
    (rebuildLoops e r).ring = r.ring ∧ (rebuildLoops e r).mode = r.mode ∧ (rebuildLoops e r).groups = r.groups ∧
    (rebuildLoops e r).monitor = r.monitor ∧ (rebuildLoops e r).lamp = r.lamp ∧ (rebuildLoops e r).stage =
    r.stage ∧ (rebuildLoops e r).demand = r.demand ∧ (rebuildLoops e r).trams = r.trams ∧ (rebuildLoops e
    r).priority = r.priority ∧ (rebuildLoops e r).report = r.report ∧ (rebuildLoops e r).notices = r.notices := by
  simp only [rebuildLoops]
  (repeat' split) <;> simp


@[simp] theorem loopsDark_frame (e : Env) (r : Rt) :
    (loopsDark e r).ring = r.ring ∧ (loopsDark e r).mode = r.mode ∧ (loopsDark e r).groups = r.groups ∧
    (loopsDark e r).monitor = r.monitor ∧ (loopsDark e r).lamp = r.lamp ∧ (loopsDark e r).stage = r.stage ∧
    (loopsDark e r).demand.active = r.demand.active ∧ (loopsDark e r).trams = r.trams ∧ (loopsDark e r).priority
    = r.priority ∧ (loopsDark e r).report = r.report ∧ (loopsDark e r).notices = r.notices := by
  simp only [loopsDark]
  (repeat' split)
  all_goals first
    | (simp; done)
    | (refine foldl_inv (fun x => x.ring = r.ring ∧ x.mode = r.mode ∧ x.groups = r.groups ∧ x.monitor = r.monitor ∧ x.lamp = r.lamp ∧ x.stage = r.stage ∧ x.demand.active = r.demand.active ∧ x.trams = r.trams ∧ x.priority = r.priority ∧ x.report = r.report ∧ x.notices = r.notices) _ (fun x a hx => ?_) _ _ ?_
       · revert hx; (repeat' split) <;> simp <;> intros <;> simp_all
       · (repeat' split) <;> simp)


@[simp] theorem loopsBegin_frame (e : Env) (r : Rt) :
    (loopsBegin e r).ring.head = r.ring.head ∧ (loopsBegin e r).ring.field = r.ring.field ∧ (loopsBegin e
    r).ring.replies = r.ring.replies ∧ (loopsBegin e r).ring.aspects = r.ring.aspects ∧ (loopsBegin e
    r).ring.crcFlag = r.ring.crcFlag ∧ (loopsBegin e r).mode = r.mode ∧ (loopsBegin e r).groups = r.groups ∧
    (loopsBegin e r).monitor = r.monitor ∧ (loopsBegin e r).lamp = r.lamp ∧ (loopsBegin e r).stage = r.stage ∧
    (loopsBegin e r).demand.active = r.demand.active ∧ (loopsBegin e r).trams = r.trams ∧ (loopsBegin e
    r).priority = r.priority ∧ (loopsBegin e r).notices = r.notices := by
  simp only [loopsBegin]
  (repeat' split)
  all_goals first
    | (simp; done)
    | (refine foldl_inv (fun x => x.ring.head = r.ring.head ∧ x.ring.field = r.ring.field ∧ x.ring.replies = r.ring.replies ∧ x.ring.aspects = r.ring.aspects ∧ x.ring.crcFlag = r.ring.crcFlag ∧ x.mode = r.mode ∧ x.groups = r.groups ∧ x.monitor = r.monitor ∧ x.lamp = r.lamp ∧ x.stage = r.stage ∧ x.demand.active = r.demand.active ∧ x.trams = r.trams ∧ x.priority = r.priority ∧ x.notices = r.notices) _ (fun x a hx => ?_) _ _ ?_
       · revert hx; (repeat' split) <;> simp <;> intros <;> simp_all
       · (repeat' split) <;> simp)


@[simp] theorem loopsRestart_frame (e : Env) (r : Rt) :
    (loopsRestart e r).ring.head = r.ring.head ∧ (loopsRestart e r).ring.field = r.ring.field ∧ (loopsRestart e
    r).ring.replies = r.ring.replies ∧ (loopsRestart e r).ring.aspects = r.ring.aspects ∧ (loopsRestart e
    r).ring.crcFlag = r.ring.crcFlag ∧ (loopsRestart e r).mode = r.mode ∧ (loopsRestart e r).groups = r.groups ∧
    (loopsRestart e r).monitor = r.monitor ∧ (loopsRestart e r).lamp = r.lamp ∧ (loopsRestart e r).stage =
    r.stage ∧ (loopsRestart e r).demand.active = r.demand.active ∧ (loopsRestart e r).trams = r.trams ∧
    (loopsRestart e r).priority = r.priority ∧ (loopsRestart e r).notices = r.notices := by
  simp only [loopsRestart]
  (repeat' split) <;> simp


end Sys2Proof.Machine
end

