-- ==== Sys2Proof/Laws/Junction.lean ====
section
/-! SUPPORT. Frame lemmas of the Group Sequencer's, the Mode Controller's and the Stage Engine's operations. -/

namespace Sys2Proof.Machine

@[simp] theorem updGroup_frame (g : Group) (f : GroupRec → GroupRec) (r : Rt) :
    (updGroup g f r).ring = r.ring ∧ (updGroup g f r).mode = r.mode ∧ (updGroup g f r).monitor = r.monitor ∧
    (updGroup g f r).lamp = r.lamp ∧ (updGroup g f r).stage = r.stage ∧ (updGroup g f r).loops = r.loops ∧
    (updGroup g f r).demand = r.demand ∧ (updGroup g f r).trams = r.trams ∧ (updGroup g f r).priority =
    r.priority ∧ (updGroup g f r).report = r.report ∧ (updGroup g f r).notices = r.notices := by
  simp [updGroup]


@[simp] theorem markGreen_frame (g : Group) (r : Rt) :
    (markGreen g r).ring = r.ring ∧ (markGreen g r).mode = r.mode ∧ (markGreen g r).groups = r.groups ∧
    (markGreen g r).monitor = r.monitor ∧ (markGreen g r).lamp = r.lamp ∧ (markGreen g r).stage.phase =
    r.stage.phase ∧ (markGreen g r).stage.activePlan = r.stage.activePlan ∧ (markGreen g r).stage.taken =
    r.stage.taken ∧ (markGreen g r).stage.position = r.stage.position ∧ (markGreen g r).stage.current =
    r.stage.current ∧ (markGreen g r).stage.pendingGo = r.stage.pendingGo ∧ (markGreen g r).stage.hold =
    r.stage.hold ∧ (markGreen g r).stage.greenEnds = r.stage.greenEnds ∧ (markGreen g r).loops = r.loops ∧
    (markGreen g r).demand = r.demand ∧ (markGreen g r).trams = r.trams ∧ (markGreen g r).priority = r.priority
    ∧ (markGreen g r).report = r.report ∧ (markGreen g r).notices = r.notices := by
  simp only [markGreen]
  (repeat' split) <;> simp


@[simp] theorem markRest_frame (g : Group) (r : Rt) :
    (markRest g r).ring = r.ring ∧ (markRest g r).mode = r.mode ∧ (markRest g r).groups = r.groups ∧ (markRest g
    r).monitor = r.monitor ∧ (markRest g r).lamp = r.lamp ∧ (markRest g r).stage.phase = r.stage.phase ∧
    (markRest g r).stage.activePlan = r.stage.activePlan ∧ (markRest g r).stage.taken = r.stage.taken ∧
    (markRest g r).stage.position = r.stage.position ∧ (markRest g r).stage.current = r.stage.current ∧
    (markRest g r).stage.pendingGo = r.stage.pendingGo ∧ (markRest g r).stage.hold = r.stage.hold ∧ (markRest g
    r).stage.greenEnds = r.stage.greenEnds ∧ (markRest g r).loops = r.loops ∧ (markRest g r).demand = r.demand ∧
    (markRest g r).trams = r.trams ∧ (markRest g r).priority = r.priority ∧ (markRest g r).report = r.report ∧
    (markRest g r).notices = r.notices := by
  simp only [markRest]
  (repeat' split) <;> simp


@[simp] theorem enterStarting_frame (e : Env) (g : Group) (r : Rt) :
    (enterStarting e g r).ring.head = r.ring.head ∧ (enterStarting e g r).ring.field = r.ring.field ∧
    (enterStarting e g r).ring.replies = r.ring.replies ∧ (enterStarting e g r).ring.aux = r.ring.aux ∧
    (enterStarting e g r).ring.crcFlag = r.ring.crcFlag ∧ (enterStarting e g r).mode = r.mode ∧ (enterStarting e
    g r).lamp.confirms = r.lamp.confirms ∧ (enterStarting e g r).lamp.failed = r.lamp.failed ∧ (enterStarting e
    g r).lamp.brightness = r.lamp.brightness ∧ (enterStarting e g r).lamp.settlingDue = r.lamp.settlingDue ∧
    (enterStarting e g r).lamp.sensorA = r.lamp.sensorA ∧ (enterStarting e g r).lamp.sensorB = r.lamp.sensorB ∧
    (enterStarting e g r).lamp.selected = r.lamp.selected ∧ (enterStarting e g r).lamp.run = r.lamp.run ∧
    (enterStarting e g r).stage = r.stage ∧ (enterStarting e g r).loops = r.loops ∧ (enterStarting e g r).demand
    = r.demand ∧ (enterStarting e g r).trams = r.trams ∧ (enterStarting e g r).priority = r.priority ∧
    (enterStarting e g r).report.record = r.report.record := by
  simp only [enterStarting]
  (repeat' split) <;> simp


@[simp] theorem enterGreen_frame (e : Env) (g : Group) (r : Rt) :
    (enterGreen e g r).ring.head = r.ring.head ∧ (enterGreen e g r).ring.field = r.ring.field ∧ (enterGreen e g
    r).ring.replies = r.ring.replies ∧ (enterGreen e g r).ring.crcFlag = r.ring.crcFlag ∧ (enterGreen e g
    r).mode = r.mode ∧ (enterGreen e g r).lamp.confirms = r.lamp.confirms ∧ (enterGreen e g r).lamp.failed =
    r.lamp.failed ∧ (enterGreen e g r).lamp.brightness = r.lamp.brightness ∧ (enterGreen e g r).lamp.settlingDue
    = r.lamp.settlingDue ∧ (enterGreen e g r).lamp.sensorA = r.lamp.sensorA ∧ (enterGreen e g r).lamp.sensorB =
    r.lamp.sensorB ∧ (enterGreen e g r).lamp.selected = r.lamp.selected ∧ (enterGreen e g r).lamp.run =
    r.lamp.run ∧ (enterGreen e g r).stage.phase = r.stage.phase ∧ (enterGreen e g r).stage.activePlan =
    r.stage.activePlan ∧ (enterGreen e g r).stage.taken = r.stage.taken ∧ (enterGreen e g r).stage.position =
    r.stage.position ∧ (enterGreen e g r).stage.current = r.stage.current ∧ (enterGreen e g r).stage.pendingGo =
    r.stage.pendingGo ∧ (enterGreen e g r).stage.hold = r.stage.hold ∧ (enterGreen e g r).stage.greenEnds =
    r.stage.greenEnds ∧ (enterGreen e g r).loops = r.loops ∧ (enterGreen e g r).demand.active = r.demand.active
    ∧ (enterGreen e g r).priority.enable = r.priority.enable ∧ (enterGreen e g r).priority.lockoutDue =
    r.priority.lockoutDue ∧ (enterGreen e g r).priority.extensionNoted = r.priority.extensionNoted ∧ (enterGreen
    e g r).priority.served = r.priority.served ∧ (enterGreen e g r).report.record = r.report.record := by
  simp only [enterGreen]
  (repeat' split) <;> simp


@[simp] theorem takeGreenStart_frame (e : Env) (g : Group) (t : Time) (r : Rt) :
    (takeGreenStart e g t r).ring.head = r.ring.head ∧ (takeGreenStart e g t r).ring.field = r.ring.field ∧
    (takeGreenStart e g t r).ring.replies = r.ring.replies ∧ (takeGreenStart e g t r).ring.crcFlag =
    r.ring.crcFlag ∧ (takeGreenStart e g t r).mode = r.mode ∧ (takeGreenStart e g t r).lamp.confirms =
    r.lamp.confirms ∧ (takeGreenStart e g t r).lamp.failed = r.lamp.failed ∧ (takeGreenStart e g t
    r).lamp.brightness = r.lamp.brightness ∧ (takeGreenStart e g t r).lamp.settlingDue = r.lamp.settlingDue ∧
    (takeGreenStart e g t r).lamp.sensorA = r.lamp.sensorA ∧ (takeGreenStart e g t r).lamp.sensorB =
    r.lamp.sensorB ∧ (takeGreenStart e g t r).lamp.selected = r.lamp.selected ∧ (takeGreenStart e g t
    r).lamp.run = r.lamp.run ∧ (takeGreenStart e g t r).stage.phase = r.stage.phase ∧ (takeGreenStart e g t
    r).stage.activePlan = r.stage.activePlan ∧ (takeGreenStart e g t r).stage.taken = r.stage.taken ∧
    (takeGreenStart e g t r).stage.position = r.stage.position ∧ (takeGreenStart e g t r).stage.current =
    r.stage.current ∧ (takeGreenStart e g t r).stage.pendingGo = r.stage.pendingGo ∧ (takeGreenStart e g t
    r).stage.hold = r.stage.hold ∧ (takeGreenStart e g t r).stage.greenEnds = r.stage.greenEnds ∧
    (takeGreenStart e g t r).loops = r.loops ∧ (takeGreenStart e g t r).demand.active = r.demand.active ∧
    (takeGreenStart e g t r).priority.enable = r.priority.enable ∧ (takeGreenStart e g t r).priority.lockoutDue
    = r.priority.lockoutDue ∧ (takeGreenStart e g t r).priority.extensionNoted = r.priority.extensionNoted ∧
    (takeGreenStart e g t r).priority.served = r.priority.served ∧ (takeGreenStart e g t r).report.record =
    r.report.record := by
  simp only [takeGreenStart]
  (repeat' split) <;> simp


@[simp] theorem minGreenRun_frame (e : Env) (g : Group) (r : Rt) :
    (minGreenRun e g r).ring = r.ring ∧ (minGreenRun e g r).mode = r.mode ∧ (minGreenRun e g r).monitor =
    r.monitor ∧ (minGreenRun e g r).lamp = r.lamp ∧ (minGreenRun e g r).stage = r.stage ∧ (minGreenRun e g
    r).loops = r.loops ∧ (minGreenRun e g r).demand = r.demand ∧ (minGreenRun e g r).trams = r.trams ∧
    (minGreenRun e g r).priority = r.priority ∧ (minGreenRun e g r).report = r.report ∧ (minGreenRun e g
    r).notices = r.notices := by
  simp only [minGreenRun]
  (repeat' split) <;> simp


@[simp] theorem createConfirm_frame (e : Env) (g : Group) (r : Rt) :
    (createConfirm e g r).ring = r.ring ∧ (createConfirm e g r).mode = r.mode ∧ (createConfirm e g r).groups =
    r.groups ∧ (createConfirm e g r).monitor = r.monitor ∧ (createConfirm e g r).lamp.modules = r.lamp.modules ∧
    (createConfirm e g r).lamp.failed = r.lamp.failed ∧ (createConfirm e g r).lamp.brightness =
    r.lamp.brightness ∧ (createConfirm e g r).lamp.settlingDue = r.lamp.settlingDue ∧ (createConfirm e g
    r).lamp.sensorA = r.lamp.sensorA ∧ (createConfirm e g r).lamp.sensorB = r.lamp.sensorB ∧ (createConfirm e g
    r).lamp.selected = r.lamp.selected ∧ (createConfirm e g r).lamp.run = r.lamp.run ∧ (createConfirm e g
    r).stage = r.stage ∧ (createConfirm e g r).loops = r.loops ∧ (createConfirm e g r).demand = r.demand ∧
    (createConfirm e g r).trams = r.trams ∧ (createConfirm e g r).priority = r.priority ∧ (createConfirm e g
    r).report = r.report ∧ (createConfirm e g r).notices = r.notices := by
  simp [createConfirm]


@[simp] theorem takeGreenEnd_frame (e : Env) (g : Group) (r : Rt) :
    (takeGreenEnd e g r).ring.head = r.ring.head ∧ (takeGreenEnd e g r).ring.field = r.ring.field ∧
    (takeGreenEnd e g r).ring.replies = r.ring.replies ∧ (takeGreenEnd e g r).ring.aux = r.ring.aux ∧
    (takeGreenEnd e g r).ring.crcFlag = r.ring.crcFlag ∧ (takeGreenEnd e g r).mode = r.mode ∧ (takeGreenEnd e g
    r).lamp.failed = r.lamp.failed ∧ (takeGreenEnd e g r).lamp.brightness = r.lamp.brightness ∧ (takeGreenEnd e
    g r).lamp.settlingDue = r.lamp.settlingDue ∧ (takeGreenEnd e g r).lamp.sensorA = r.lamp.sensorA ∧
    (takeGreenEnd e g r).lamp.sensorB = r.lamp.sensorB ∧ (takeGreenEnd e g r).lamp.selected = r.lamp.selected ∧
    (takeGreenEnd e g r).lamp.run = r.lamp.run ∧ (takeGreenEnd e g r).stage.phase = r.stage.phase ∧
    (takeGreenEnd e g r).stage.activePlan = r.stage.activePlan ∧ (takeGreenEnd e g r).stage.taken =
    r.stage.taken ∧ (takeGreenEnd e g r).stage.position = r.stage.position ∧ (takeGreenEnd e g r).stage.current
    = r.stage.current ∧ (takeGreenEnd e g r).stage.pendingGo = r.stage.pendingGo ∧ (takeGreenEnd e g
    r).stage.hold = r.stage.hold ∧ (takeGreenEnd e g r).stage.greenEnds = r.stage.greenEnds ∧ (takeGreenEnd e g
    r).loops = r.loops ∧ (takeGreenEnd e g r).demand.active = r.demand.active ∧ (takeGreenEnd e g r).trams =
    r.trams ∧ (takeGreenEnd e g r).priority = r.priority ∧ (takeGreenEnd e g r).report.record = r.report.record := by
  simp only [takeGreenEnd]
  (repeat' split) <;> simp


@[simp] theorem clearingRun_frame (e : Env) (g : Group) (r : Rt) :
    (clearingRun e g r).ring.head = r.ring.head ∧ (clearingRun e g r).ring.field = r.ring.field ∧ (clearingRun e
    g r).ring.replies = r.ring.replies ∧ (clearingRun e g r).ring.aux = r.ring.aux ∧ (clearingRun e g
    r).ring.crcFlag = r.ring.crcFlag ∧ (clearingRun e g r).mode = r.mode ∧ (clearingRun e g r).lamp.confirms =
    r.lamp.confirms ∧ (clearingRun e g r).lamp.failed = r.lamp.failed ∧ (clearingRun e g r).lamp.brightness =
    r.lamp.brightness ∧ (clearingRun e g r).lamp.settlingDue = r.lamp.settlingDue ∧ (clearingRun e g
    r).lamp.sensorA = r.lamp.sensorA ∧ (clearingRun e g r).lamp.sensorB = r.lamp.sensorB ∧ (clearingRun e g
    r).lamp.selected = r.lamp.selected ∧ (clearingRun e g r).lamp.run = r.lamp.run ∧ (clearingRun e g
    r).stage.phase = r.stage.phase ∧ (clearingRun e g r).stage.activePlan = r.stage.activePlan ∧ (clearingRun e
    g r).stage.taken = r.stage.taken ∧ (clearingRun e g r).stage.position = r.stage.position ∧ (clearingRun e g
    r).stage.current = r.stage.current ∧ (clearingRun e g r).stage.pendingGo = r.stage.pendingGo ∧ (clearingRun
    e g r).stage.hold = r.stage.hold ∧ (clearingRun e g r).stage.greenEnds = r.stage.greenEnds ∧ (clearingRun e
    g r).loops = r.loops ∧ (clearingRun e g r).demand = r.demand ∧ (clearingRun e g r).trams = r.trams ∧
    (clearingRun e g r).priority = r.priority ∧ (clearingRun e g r).report.record = r.report.record := by
  simp only [clearingRun]
  (repeat' split) <;> simp


@[simp] theorem orderGroup_frame (target : GroupState) (g : Group) (r : Rt) :
    (orderGroup target g r).ring = r.ring ∧ (orderGroup target g r).mode = r.mode ∧ (orderGroup target g
    r).monitor = r.monitor ∧ (orderGroup target g r).lamp.modules = r.lamp.modules ∧ (orderGroup target g
    r).lamp.failed = r.lamp.failed ∧ (orderGroup target g r).lamp.brightness = r.lamp.brightness ∧ (orderGroup
    target g r).lamp.settlingDue = r.lamp.settlingDue ∧ (orderGroup target g r).lamp.sensorA = r.lamp.sensorA ∧
    (orderGroup target g r).lamp.sensorB = r.lamp.sensorB ∧ (orderGroup target g r).lamp.selected =
    r.lamp.selected ∧ (orderGroup target g r).lamp.run = r.lamp.run ∧ (orderGroup target g r).stage = r.stage ∧
    (orderGroup target g r).loops = r.loops ∧ (orderGroup target g r).demand = r.demand ∧ (orderGroup target g
    r).trams = r.trams ∧ (orderGroup target g r).priority = r.priority ∧ (orderGroup target g r).report =
    r.report ∧ (orderGroup target g r).notices = r.notices := by
  simp only [orderGroup]
  (repeat' split) <;> simp


@[simp] theorem flashGroups_frame (e : Env) (r : Rt) :
    (flashGroups e r).ring = r.ring ∧ (flashGroups e r).mode = r.mode ∧ (flashGroups e r).monitor = r.monitor ∧
    (flashGroups e r).lamp.modules = r.lamp.modules ∧ (flashGroups e r).lamp.failed = r.lamp.failed ∧
    (flashGroups e r).lamp.brightness = r.lamp.brightness ∧ (flashGroups e r).lamp.settlingDue =
    r.lamp.settlingDue ∧ (flashGroups e r).lamp.sensorA = r.lamp.sensorA ∧ (flashGroups e r).lamp.sensorB =
    r.lamp.sensorB ∧ (flashGroups e r).lamp.selected = r.lamp.selected ∧ (flashGroups e r).lamp.run = r.lamp.run
    ∧ (flashGroups e r).stage = r.stage ∧ (flashGroups e r).loops = r.loops ∧ (flashGroups e r).demand =
    r.demand ∧ (flashGroups e r).trams = r.trams ∧ (flashGroups e r).priority = r.priority ∧ (flashGroups e
    r).report = r.report ∧ (flashGroups e r).notices = r.notices := by
  simp only [flashGroups]
  (repeat' split)
  all_goals first
    | (simp; done)
    | (refine foldl_inv (fun x => x.ring = r.ring ∧ x.mode = r.mode ∧ x.monitor = r.monitor ∧ x.lamp.modules = r.lamp.modules ∧ x.lamp.failed = r.lamp.failed ∧ x.lamp.brightness = r.lamp.brightness ∧ x.lamp.settlingDue = r.lamp.settlingDue ∧ x.lamp.sensorA = r.lamp.sensorA ∧ x.lamp.sensorB = r.lamp.sensorB ∧ x.lamp.selected = r.lamp.selected ∧ x.lamp.run = r.lamp.run ∧ x.stage = r.stage ∧ x.loops = r.loops ∧ x.demand = r.demand ∧ x.trams = r.trams ∧ x.priority = r.priority ∧ x.report = r.report ∧ x.notices = r.notices) _ (fun x a hx => ?_) _ _ ?_
       · revert hx; (repeat' split) <;> simp <;> intros <;> simp_all
       · (repeat' split) <;> simp)


@[simp] theorem darkGroups_frame (r : Rt) :
    (darkGroups r).ring = r.ring ∧ (darkGroups r).mode = r.mode ∧ (darkGroups r).monitor = r.monitor ∧
    (darkGroups r).lamp.modules = r.lamp.modules ∧ (darkGroups r).lamp.failed = r.lamp.failed ∧ (darkGroups
    r).lamp.brightness = r.lamp.brightness ∧ (darkGroups r).lamp.settlingDue = r.lamp.settlingDue ∧ (darkGroups
    r).lamp.sensorA = r.lamp.sensorA ∧ (darkGroups r).lamp.sensorB = r.lamp.sensorB ∧ (darkGroups
    r).lamp.selected = r.lamp.selected ∧ (darkGroups r).lamp.run = r.lamp.run ∧ (darkGroups r).stage = r.stage ∧
    (darkGroups r).loops = r.loops ∧ (darkGroups r).demand = r.demand ∧ (darkGroups r).trams = r.trams ∧
    (darkGroups r).priority = r.priority ∧ (darkGroups r).report = r.report ∧ (darkGroups r).notices = r.notices := by
  simp only [darkGroups]
  (repeat' split)
  all_goals first
    | (simp; done)
    | (refine foldl_inv (fun x => x.ring = r.ring ∧ x.mode = r.mode ∧ x.monitor = r.monitor ∧ x.lamp.modules = r.lamp.modules ∧ x.lamp.failed = r.lamp.failed ∧ x.lamp.brightness = r.lamp.brightness ∧ x.lamp.settlingDue = r.lamp.settlingDue ∧ x.lamp.sensorA = r.lamp.sensorA ∧ x.lamp.sensorB = r.lamp.sensorB ∧ x.lamp.selected = r.lamp.selected ∧ x.lamp.run = r.lamp.run ∧ x.stage = r.stage ∧ x.loops = r.loops ∧ x.demand = r.demand ∧ x.trams = r.trams ∧ x.priority = r.priority ∧ x.report = r.report ∧ x.notices = r.notices) _ (fun x a hx => ?_) _ _ ?_
       · revert hx; (repeat' split) <;> simp <;> intros <;> simp_all
       · (repeat' split) <;> simp)


@[simp] theorem restGroup_frame (e : Env) (g : Group) (r : Rt) :
    (restGroup e g r).ring = r.ring ∧ (restGroup e g r).mode = r.mode ∧ (restGroup e g r).monitor = r.monitor ∧
    (restGroup e g r).lamp = r.lamp ∧ (restGroup e g r).stage = r.stage ∧ (restGroup e g r).loops = r.loops ∧
    (restGroup e g r).demand = r.demand ∧ (restGroup e g r).trams = r.trams ∧ (restGroup e g r).priority =
    r.priority ∧ (restGroup e g r).report = r.report ∧ (restGroup e g r).notices = r.notices := by
  simp only [restGroup]
  (repeat' split) <;> simp

@[simp] theorem foldl_restGroup_frame {α : Type} (e : Env) (f : α → Group) (l : List α) (r : Rt) :
    (l.foldl (fun r x => restGroup e (f x) r) r).ring = r.ring ∧ (l.foldl (fun r x => restGroup e (f x) r)
    r).mode = r.mode ∧ (l.foldl (fun r x => restGroup e (f x) r) r).monitor = r.monitor ∧ (l.foldl (fun r x =>
    restGroup e (f x) r) r).lamp = r.lamp ∧ (l.foldl (fun r x => restGroup e (f x) r) r).stage = r.stage ∧
    (l.foldl (fun r x => restGroup e (f x) r) r).loops = r.loops ∧ (l.foldl (fun r x => restGroup e (f x) r)
    r).demand = r.demand ∧ (l.foldl (fun r x => restGroup e (f x) r) r).trams = r.trams ∧ (l.foldl (fun r x =>
    restGroup e (f x) r) r).priority = r.priority ∧ (l.foldl (fun r x => restGroup e (f x) r) r).report =
    r.report ∧ (l.foldl (fun r x => restGroup e (f x) r) r).notices = r.notices := by
  refine foldl_inv (fun x => x.ring = r.ring ∧ x.mode = r.mode ∧ x.monitor = r.monitor ∧ x.lamp = r.lamp ∧ x.stage = r.stage ∧ x.loops = r.loops ∧ x.demand = r.demand ∧ x.trams = r.trams ∧ x.priority = r.priority ∧ x.report = r.report ∧ x.notices = r.notices) _ (fun x a hx => ?_) _ _ ?_
  · simp_all
  · simp


@[simp] theorem flashOrder_frame (e : Env) (r : Rt) :
    (flashOrder e r).ring.head = r.ring.head ∧ (flashOrder e r).ring.field = r.ring.field ∧ (flashOrder e
    r).ring.replies = r.ring.replies ∧ (flashOrder e r).ring.aux = r.ring.aux ∧ (flashOrder e r).ring.crcFlag =
    r.ring.crcFlag ∧ (flashOrder e r).mode = r.mode ∧ (flashOrder e r).lamp.failed = r.lamp.failed ∧ (flashOrder
    e r).lamp.brightness = r.lamp.brightness ∧ (flashOrder e r).lamp.settlingDue = r.lamp.settlingDue ∧
    (flashOrder e r).lamp.sensorA = r.lamp.sensorA ∧ (flashOrder e r).lamp.sensorB = r.lamp.sensorB ∧
    (flashOrder e r).lamp.selected = r.lamp.selected ∧ (flashOrder e r).lamp.run = r.lamp.run ∧ (flashOrder e
    r).stage = r.stage ∧ (flashOrder e r).loops = r.loops ∧ (flashOrder e r).demand = r.demand ∧ (flashOrder e
    r).trams = r.trams ∧ (flashOrder e r).priority = r.priority ∧ (flashOrder e r).report.record =
    r.report.record := by
  simp [flashOrder]


@[simp] theorem darkOrder_frame (e : Env) (r : Rt) :
    (darkOrder e r).ring.head = r.ring.head ∧ (darkOrder e r).ring.field = r.ring.field ∧ (darkOrder e
    r).ring.replies = r.ring.replies ∧ (darkOrder e r).ring.aux = r.ring.aux ∧ (darkOrder e r).ring.crcFlag =
    r.ring.crcFlag ∧ (darkOrder e r).mode = r.mode ∧ (darkOrder e r).lamp.failed = r.lamp.failed ∧ (darkOrder e
    r).lamp.brightness = r.lamp.brightness ∧ (darkOrder e r).lamp.settlingDue = r.lamp.settlingDue ∧ (darkOrder
    e r).lamp.sensorA = r.lamp.sensorA ∧ (darkOrder e r).lamp.sensorB = r.lamp.sensorB ∧ (darkOrder e
    r).lamp.selected = r.lamp.selected ∧ (darkOrder e r).lamp.run = r.lamp.run ∧ (darkOrder e r).stage = r.stage
    ∧ (darkOrder e r).loops = r.loops ∧ (darkOrder e r).demand = r.demand ∧ (darkOrder e r).trams = r.trams ∧
    (darkOrder e r).priority = r.priority ∧ (darkOrder e r).report.record = r.report.record := by
  simp [darkOrder]


@[simp] theorem restOrder_frame (e : Env) (r : Rt) :
    (restOrder e r).ring.head = r.ring.head ∧ (restOrder e r).ring.field = r.ring.field ∧ (restOrder e
    r).ring.replies = r.ring.replies ∧ (restOrder e r).ring.aux = r.ring.aux ∧ (restOrder e r).ring.crcFlag =
    r.ring.crcFlag ∧ (restOrder e r).mode = r.mode ∧ (restOrder e r).lamp.confirms = r.lamp.confirms ∧
    (restOrder e r).lamp.failed = r.lamp.failed ∧ (restOrder e r).lamp.brightness = r.lamp.brightness ∧
    (restOrder e r).lamp.settlingDue = r.lamp.settlingDue ∧ (restOrder e r).lamp.sensorA = r.lamp.sensorA ∧
    (restOrder e r).lamp.sensorB = r.lamp.sensorB ∧ (restOrder e r).lamp.selected = r.lamp.selected ∧ (restOrder
    e r).lamp.run = r.lamp.run ∧ (restOrder e r).stage = r.stage ∧ (restOrder e r).loops = r.loops ∧ (restOrder
    e r).demand = r.demand ∧ (restOrder e r).trams = r.trams ∧ (restOrder e r).priority = r.priority ∧
    (restOrder e r).report.record = r.report.record := by
  simp only [restOrder]
  (repeat' split) <;> simp


@[simp] theorem groupWritten_frame (e : Env) (g : Group) (r : Rt) :
    (groupWritten e g r).ring = r.ring ∧ (groupWritten e g r).mode = r.mode ∧ (groupWritten e g r).monitor =
    r.monitor ∧ (groupWritten e g r).lamp.modules = r.lamp.modules ∧ (groupWritten e g r).lamp.failed =
    r.lamp.failed ∧ (groupWritten e g r).lamp.brightness = r.lamp.brightness ∧ (groupWritten e g
    r).lamp.settlingDue = r.lamp.settlingDue ∧ (groupWritten e g r).lamp.sensorA = r.lamp.sensorA ∧
    (groupWritten e g r).lamp.sensorB = r.lamp.sensorB ∧ (groupWritten e g r).lamp.selected = r.lamp.selected ∧
    (groupWritten e g r).lamp.run = r.lamp.run ∧ (groupWritten e g r).stage = r.stage ∧ (groupWritten e g
    r).loops = r.loops ∧ (groupWritten e g r).demand = r.demand ∧ (groupWritten e g r).trams = r.trams ∧
    (groupWritten e g r).priority = r.priority ∧ (groupWritten e g r).report = r.report ∧ (groupWritten e g
    r).notices = r.notices := by
  simp only [groupWritten]
  (repeat' split) <;> simp


@[simp] theorem dropDirected_frame (r : Rt) :
    (dropDirected r).ring = r.ring ∧ (dropDirected r).mode = r.mode ∧ (dropDirected r).groups = r.groups ∧
    (dropDirected r).monitor = r.monitor ∧ (dropDirected r).lamp = r.lamp ∧ (dropDirected r).stage.phase =
    r.stage.phase ∧ (dropDirected r).stage.activePlan = r.stage.activePlan ∧ (dropDirected r).stage.taken =
    r.stage.taken ∧ (dropDirected r).stage.position = r.stage.position ∧ (dropDirected r).stage.current =
    r.stage.current ∧ (dropDirected r).stage.inter = r.stage.inter ∧ (dropDirected r).stage.greenEnds =
    r.stage.greenEnds ∧ (dropDirected r).loops = r.loops ∧ (dropDirected r).demand = r.demand ∧ (dropDirected
    r).trams = r.trams ∧ (dropDirected r).priority = r.priority ∧ (dropDirected r).report = r.report ∧
    (dropDirected r).notices = r.notices := by
  simp [dropDirected]


@[simp] theorem stageIdle_frame (r : Rt) :
    (stageIdle r).ring = r.ring ∧ (stageIdle r).mode = r.mode ∧ (stageIdle r).groups = r.groups ∧ (stageIdle
    r).monitor = r.monitor ∧ (stageIdle r).lamp = r.lamp ∧ (stageIdle r).stage.activePlan = r.stage.activePlan ∧
    (stageIdle r).stage.taken = r.stage.taken ∧ (stageIdle r).stage.position = r.stage.position ∧ (stageIdle
    r).loops = r.loops ∧ (stageIdle r).demand = r.demand ∧ (stageIdle r).trams = r.trams ∧ (stageIdle
    r).priority = r.priority ∧ (stageIdle r).report = r.report ∧ (stageIdle r).notices = r.notices := by
  simp [stageIdle]


@[simp] theorem stageNotice_frame (r : Rt) :
    (stageNotice r).ring = r.ring ∧ (stageNotice r).mode = r.mode ∧ (stageNotice r).groups = r.groups ∧
    (stageNotice r).monitor = r.monitor ∧ (stageNotice r).lamp = r.lamp ∧ (stageNotice r).stage.activePlan =
    r.stage.activePlan ∧ (stageNotice r).stage.taken = r.stage.taken ∧ (stageNotice r).loops = r.loops ∧
    (stageNotice r).demand = r.demand ∧ (stageNotice r).trams = r.trams ∧ (stageNotice r).priority = r.priority
    ∧ (stageNotice r).report = r.report ∧ (stageNotice r).notices = r.notices := by
  simp only [stageNotice]
  (repeat' split) <;> simp


@[simp] theorem demandNotice_frame (e : Env) (r : Rt) :
    (demandNotice e r).ring.head = r.ring.head ∧ (demandNotice e r).ring.field = r.ring.field ∧ (demandNotice e
    r).ring.replies = r.ring.replies ∧ (demandNotice e r).ring.aspects = r.ring.aspects ∧ (demandNotice e
    r).ring.crcFlag = r.ring.crcFlag ∧ (demandNotice e r).mode = r.mode ∧ (demandNotice e r).groups = r.groups ∧
    (demandNotice e r).monitor = r.monitor ∧ (demandNotice e r).lamp = r.lamp ∧ (demandNotice e r).stage =
    r.stage ∧ (demandNotice e r).loops = r.loops ∧ (demandNotice e r).trams = r.trams ∧ (demandNotice e
    r).priority = r.priority ∧ (demandNotice e r).report.record = r.report.record ∧ (demandNotice e r).notices =
    r.notices := by
  simp only [demandNotice]
  (repeat' split) <;> simp


@[simp] theorem loopNotice_frame (e : Env) (old : Mode) (r : Rt) :
    (loopNotice e old r).ring.head = r.ring.head ∧ (loopNotice e old r).ring.field = r.ring.field ∧ (loopNotice
    e old r).ring.replies = r.ring.replies ∧ (loopNotice e old r).ring.aspects = r.ring.aspects ∧ (loopNotice e
    old r).ring.crcFlag = r.ring.crcFlag ∧ (loopNotice e old r).mode = r.mode ∧ (loopNotice e old r).groups =
    r.groups ∧ (loopNotice e old r).monitor = r.monitor ∧ (loopNotice e old r).lamp = r.lamp ∧ (loopNotice e old
    r).stage = r.stage ∧ (loopNotice e old r).demand.active = r.demand.active ∧ (loopNotice e old r).trams =
    r.trams ∧ (loopNotice e old r).priority = r.priority ∧ (loopNotice e old r).notices = r.notices := by
  simp only [loopNotice]
  (repeat' split) <;> simp


@[simp] theorem tramNotice_frame (e : Env) (r : Rt) :
    (tramNotice e r).ring = r.ring ∧ (tramNotice e r).mode = r.mode ∧ (tramNotice e r).groups = r.groups ∧
    (tramNotice e r).monitor = r.monitor ∧ (tramNotice e r).lamp = r.lamp ∧ (tramNotice e r).stage = r.stage ∧
    (tramNotice e r).loops = r.loops ∧ (tramNotice e r).demand = r.demand ∧ (tramNotice e r).priority.enable =
    r.priority.enable ∧ (tramNotice e r).priority.lockoutDue = r.priority.lockoutDue ∧ (tramNotice e
    r).priority.extensionNoted = r.priority.extensionNoted ∧ (tramNotice e r).priority.served =
    r.priority.served ∧ (tramNotice e r).report = r.report ∧ (tramNotice e r).notices = r.notices := by
  simp only [tramNotice]
  (repeat' split) <;> simp


@[simp] theorem lampNotice_frame (e : Env) (old : Mode) (r : Rt) :
    (lampNotice e old r).ring.head = r.ring.head ∧ (lampNotice e old r).ring.field = r.ring.field ∧ (lampNotice
    e old r).ring.replies = r.ring.replies ∧ (lampNotice e old r).ring.aux = r.ring.aux ∧ (lampNotice e old
    r).ring.crcFlag = r.ring.crcFlag ∧ (lampNotice e old r).mode = r.mode ∧ (lampNotice e old r).groups =
    r.groups ∧ (lampNotice e old r).lamp.confirms = r.lamp.confirms ∧ (lampNotice e old r).lamp.failed =
    r.lamp.failed ∧ (lampNotice e old r).lamp.brightness = r.lamp.brightness ∧ (lampNotice e old
    r).lamp.settlingDue = r.lamp.settlingDue ∧ (lampNotice e old r).lamp.sensorA = r.lamp.sensorA ∧ (lampNotice
    e old r).lamp.sensorB = r.lamp.sensorB ∧ (lampNotice e old r).lamp.selected = r.lamp.selected ∧ (lampNotice
    e old r).lamp.run = r.lamp.run ∧ (lampNotice e old r).stage = r.stage ∧ (lampNotice e old r).loops = r.loops
    ∧ (lampNotice e old r).demand = r.demand ∧ (lampNotice e old r).trams = r.trams ∧ (lampNotice e old
    r).priority = r.priority ∧ (lampNotice e old r).report.record = r.report.record := by
  simp only [lampNotice]
  (repeat' split) <;> simp


@[simp] theorem setMode_frame (e : Env) (mode : Mode) (sub : SubPhase) (r : Rt) :
    (setMode e mode sub r).ring.head = r.ring.head ∧ (setMode e mode sub r).ring.field = r.ring.field ∧ (setMode
    e mode sub r).ring.replies = r.ring.replies ∧ (setMode e mode sub r).ring.crcFlag = r.ring.crcFlag ∧
    (setMode e mode sub r).mode.startValues = r.mode.startValues ∧ (setMode e mode sub r).mode.source =
    r.mode.source ∧ (setMode e mode sub r).mode.keep = r.mode.keep ∧ (setMode e mode sub r).mode.latch =
    r.mode.latch ∧ (setMode e mode sub r).mode.restartCause = r.mode.restartCause ∧ (setMode e mode sub
    r).mode.pendingStep = r.mode.pendingStep ∧ (setMode e mode sub r).mode.ownerViolation =
    r.mode.ownerViolation ∧ (setMode e mode sub r).groups = r.groups ∧ (setMode e mode sub r).lamp.confirms =
    r.lamp.confirms ∧ (setMode e mode sub r).lamp.failed = r.lamp.failed ∧ (setMode e mode sub
    r).lamp.brightness = r.lamp.brightness ∧ (setMode e mode sub r).lamp.settlingDue = r.lamp.settlingDue ∧
    (setMode e mode sub r).lamp.sensorA = r.lamp.sensorA ∧ (setMode e mode sub r).lamp.sensorB = r.lamp.sensorB
    ∧ (setMode e mode sub r).lamp.selected = r.lamp.selected ∧ (setMode e mode sub r).lamp.run = r.lamp.run ∧
    (setMode e mode sub r).stage.activePlan = r.stage.activePlan ∧ (setMode e mode sub r).stage.taken =
    r.stage.taken ∧ (setMode e mode sub r).priority.enable = r.priority.enable ∧ (setMode e mode sub
    r).priority.extensionNoted = r.priority.extensionNoted ∧ (setMode e mode sub r).priority.served =
    r.priority.served := by
  simp [setMode]


@[simp] theorem giveSource_frame (e : Env) (src : Source) (r : Rt) :
    (giveSource e src r).ring = r.ring ∧ (giveSource e src r).mode.mode = r.mode.mode ∧ (giveSource e src
    r).mode.sub = r.mode.sub ∧ (giveSource e src r).mode.startValues = r.mode.startValues ∧ (giveSource e src
    r).mode.phaseDue = r.mode.phaseDue ∧ (giveSource e src r).mode.keep = r.mode.keep ∧ (giveSource e src
    r).mode.latch = r.mode.latch ∧ (giveSource e src r).mode.restartCause = r.mode.restartCause ∧ (giveSource e
    src r).mode.pendingStep = r.mode.pendingStep ∧ (giveSource e src r).mode.ownerViolation =
    r.mode.ownerViolation ∧ (giveSource e src r).groups = r.groups ∧ (giveSource e src r).monitor = r.monitor ∧
    (giveSource e src r).lamp = r.lamp ∧ (giveSource e src r).stage = r.stage ∧ (giveSource e src r).loops =
    r.loops ∧ (giveSource e src r).demand = r.demand ∧ (giveSource e src r).trams = r.trams ∧ (giveSource e src
    r).priority.queue = r.priority.queue ∧ (giveSource e src r).priority.enable = r.priority.enable ∧ (giveSource
    e src r).priority.lockoutDue = r.priority.lockoutDue ∧ (giveSource e src r).priority.extensionNoted =
    r.priority.extensionNoted ∧ (giveSource e src r).priority.served = r.priority.served ∧ (giveSource e src
    r).report.record = r.report.record ∧ (giveSource e src r).notices = r.notices := by
  simp [giveSource]


@[simp] theorem setSource_frame (e : Env) (src : Source) (r : Rt) :
    (setSource e src r).ring = r.ring ∧ (setSource e src r).mode.mode = r.mode.mode ∧ (setSource e src
    r).mode.sub = r.mode.sub ∧ (setSource e src r).mode.startValues = r.mode.startValues ∧ (setSource e src
    r).mode.phaseDue = r.mode.phaseDue ∧ (setSource e src r).mode.keep = r.mode.keep ∧ (setSource e src
    r).mode.latch = r.mode.latch ∧ (setSource e src r).mode.restartCause = r.mode.restartCause ∧ (setSource e
    src r).mode.pendingStep = r.mode.pendingStep ∧ (setSource e src r).mode.ownerViolation =
    r.mode.ownerViolation ∧ (setSource e src r).groups = r.groups ∧ (setSource e src r).monitor = r.monitor ∧
    (setSource e src r).lamp = r.lamp ∧ (setSource e src r).stage = r.stage ∧ (setSource e src r).loops =
    r.loops ∧ (setSource e src r).demand = r.demand ∧ (setSource e src r).trams = r.trams ∧ (setSource e src
    r).priority.queue = r.priority.queue ∧ (setSource e src r).priority.enable = r.priority.enable ∧ (setSource
    e src r).priority.lockoutDue = r.priority.lockoutDue ∧ (setSource e src r).priority.extensionNoted =
    r.priority.extensionNoted ∧ (setSource e src r).priority.served = r.priority.served ∧ (setSource e src
    r).report.record = r.report.record ∧ (setSource e src r).notices = r.notices := by
  simp only [setSource]
  (repeat' split) <;> simp


@[simp] theorem dropStep_frame (r : Rt) :
    (dropStep r).ring = r.ring ∧ (dropStep r).mode.mode = r.mode.mode ∧ (dropStep r).mode.sub = r.mode.sub ∧
    (dropStep r).mode.startValues = r.mode.startValues ∧ (dropStep r).mode.phaseDue = r.mode.phaseDue ∧
    (dropStep r).mode.source = r.mode.source ∧ (dropStep r).mode.keep = r.mode.keep ∧ (dropStep r).mode.latch =
    r.mode.latch ∧ (dropStep r).mode.restartCause = r.mode.restartCause ∧ (dropStep r).mode.ownerViolation =
    r.mode.ownerViolation ∧ (dropStep r).groups = r.groups ∧ (dropStep r).monitor = r.monitor ∧ (dropStep
    r).lamp = r.lamp ∧ (dropStep r).stage = r.stage ∧ (dropStep r).loops = r.loops ∧ (dropStep r).demand =
    r.demand ∧ (dropStep r).trams = r.trams ∧ (dropStep r).priority = r.priority ∧ (dropStep r).report =
    r.report ∧ (dropStep r).notices = r.notices := by
  simp [dropStep]


@[simp] theorem takeNotice_frame (e : Env) (n : FaultNotice) (r : Rt) :
    (takeNotice e n r).ring.head = r.ring.head ∧ (takeNotice e n r).ring.field = r.ring.field ∧ (takeNotice e n
    r).ring.replies = r.ring.replies ∧ (takeNotice e n r).ring.crcFlag = r.ring.crcFlag ∧ (takeNotice e n
    r).mode.startValues = r.mode.startValues ∧ (takeNotice e n r).mode.keep = r.mode.keep ∧ (takeNotice e n
    r).mode.restartCause = r.mode.restartCause ∧ (takeNotice e n r).mode.ownerViolation = r.mode.ownerViolation
    ∧ (takeNotice e n r).lamp.failed = r.lamp.failed ∧ (takeNotice e n r).lamp.brightness = r.lamp.brightness ∧
    (takeNotice e n r).lamp.settlingDue = r.lamp.settlingDue ∧ (takeNotice e n r).lamp.sensorA = r.lamp.sensorA
    ∧ (takeNotice e n r).lamp.sensorB = r.lamp.sensorB ∧ (takeNotice e n r).lamp.selected = r.lamp.selected ∧
    (takeNotice e n r).lamp.run = r.lamp.run ∧ (takeNotice e n r).stage.activePlan = r.stage.activePlan ∧
    (takeNotice e n r).stage.taken = r.stage.taken ∧ (takeNotice e n r).priority.enable = r.priority.enable ∧
    (takeNotice e n r).priority.extensionNoted = r.priority.extensionNoted ∧ (takeNotice e n r).priority.served
    = r.priority.served := by
  simp only [takeNotice]
  (repeat' split) <;> simp

@[simp] theorem foldl_takeNotice_frame {α : Type} (e : Env) (f : α → FaultNotice) (l : List α) (r : Rt) :
    (l.foldl (fun r x => takeNotice e (f x) r) r).ring.head = r.ring.head ∧ (l.foldl (fun r x => takeNotice e (f
    x) r) r).ring.field = r.ring.field ∧ (l.foldl (fun r x => takeNotice e (f x) r) r).ring.replies =
    r.ring.replies ∧ (l.foldl (fun r x => takeNotice e (f x) r) r).ring.crcFlag = r.ring.crcFlag ∧ (l.foldl (fun
    r x => takeNotice e (f x) r) r).mode.startValues = r.mode.startValues ∧ (l.foldl (fun r x => takeNotice e (f
    x) r) r).mode.keep = r.mode.keep ∧ (l.foldl (fun r x => takeNotice e (f x) r) r).mode.restartCause =
    r.mode.restartCause ∧ (l.foldl (fun r x => takeNotice e (f x) r) r).mode.ownerViolation =
    r.mode.ownerViolation ∧ (l.foldl (fun r x => takeNotice e (f x) r) r).lamp.failed = r.lamp.failed ∧ (l.foldl
    (fun r x => takeNotice e (f x) r) r).lamp.brightness = r.lamp.brightness ∧ (l.foldl (fun r x => takeNotice e
    (f x) r) r).lamp.settlingDue = r.lamp.settlingDue ∧ (l.foldl (fun r x => takeNotice e (f x) r)
    r).lamp.sensorA = r.lamp.sensorA ∧ (l.foldl (fun r x => takeNotice e (f x) r) r).lamp.sensorB =
    r.lamp.sensorB ∧ (l.foldl (fun r x => takeNotice e (f x) r) r).lamp.selected = r.lamp.selected ∧ (l.foldl
    (fun r x => takeNotice e (f x) r) r).lamp.run = r.lamp.run ∧ (l.foldl (fun r x => takeNotice e (f x) r)
    r).stage.activePlan = r.stage.activePlan ∧ (l.foldl (fun r x => takeNotice e (f x) r) r).stage.taken =
    r.stage.taken ∧ (l.foldl (fun r x => takeNotice e (f x) r) r).priority.enable = r.priority.enable ∧ (l.foldl
    (fun r x => takeNotice e (f x) r) r).priority.extensionNoted = r.priority.extensionNoted ∧ (l.foldl (fun r x
    => takeNotice e (f x) r) r).priority.served = r.priority.served := by
  refine foldl_inv (fun x => x.ring.head = r.ring.head ∧ x.ring.field = r.ring.field ∧ x.ring.replies = r.ring.replies ∧ x.ring.crcFlag = r.ring.crcFlag ∧ x.mode.startValues = r.mode.startValues ∧ x.mode.keep = r.mode.keep ∧ x.mode.restartCause = r.mode.restartCause ∧ x.mode.ownerViolation = r.mode.ownerViolation ∧ x.lamp.failed = r.lamp.failed ∧ x.lamp.brightness = r.lamp.brightness ∧ x.lamp.settlingDue = r.lamp.settlingDue ∧ x.lamp.sensorA = r.lamp.sensorA ∧ x.lamp.sensorB = r.lamp.sensorB ∧ x.lamp.selected = r.lamp.selected ∧ x.lamp.run = r.lamp.run ∧ x.stage.activePlan = r.stage.activePlan ∧ x.stage.taken = r.stage.taken ∧ x.priority.enable = r.priority.enable ∧ x.priority.extensionNoted = r.priority.extensionNoted ∧ x.priority.served = r.priority.served) _ (fun x a hx => ?_) _ _ ?_
  · simp_all
  · simp


@[simp] theorem takeFaults_frame (e : Env) (r : Rt) :
    (takeFaults e r).ring.head = r.ring.head ∧ (takeFaults e r).ring.field = r.ring.field ∧ (takeFaults e
    r).ring.replies = r.ring.replies ∧ (takeFaults e r).ring.crcFlag = r.ring.crcFlag ∧ (takeFaults e
    r).mode.startValues = r.mode.startValues ∧ (takeFaults e r).mode.keep = r.mode.keep ∧ (takeFaults e
    r).mode.restartCause = r.mode.restartCause ∧ (takeFaults e r).mode.ownerViolation = r.mode.ownerViolation ∧
    (takeFaults e r).lamp.failed = r.lamp.failed ∧ (takeFaults e r).lamp.brightness = r.lamp.brightness ∧
    (takeFaults e r).lamp.settlingDue = r.lamp.settlingDue ∧ (takeFaults e r).lamp.sensorA = r.lamp.sensorA ∧
    (takeFaults e r).lamp.sensorB = r.lamp.sensorB ∧ (takeFaults e r).lamp.selected = r.lamp.selected ∧
    (takeFaults e r).lamp.run = r.lamp.run ∧ (takeFaults e r).stage.activePlan = r.stage.activePlan ∧
    (takeFaults e r).stage.taken = r.stage.taken ∧ (takeFaults e r).priority.enable = r.priority.enable ∧
    (takeFaults e r).priority.extensionNoted = r.priority.extensionNoted ∧ (takeFaults e r).priority.served =
    r.priority.served := by
  simp only [takeFaults]
  (repeat' split) <;> simp


@[simp] theorem endDirected_frame (e : Env) (r : Rt) :
    (endDirected e r).ring = r.ring ∧ (endDirected e r).mode.mode = r.mode.mode ∧ (endDirected e r).mode.sub =
    r.mode.sub ∧ (endDirected e r).mode.startValues = r.mode.startValues ∧ (endDirected e r).mode.phaseDue =
    r.mode.phaseDue ∧ (endDirected e r).mode.keep = r.mode.keep ∧ (endDirected e r).mode.latch = r.mode.latch ∧
    (endDirected e r).mode.restartCause = r.mode.restartCause ∧ (endDirected e r).mode.pendingStep =
    r.mode.pendingStep ∧ (endDirected e r).mode.ownerViolation = r.mode.ownerViolation ∧ (endDirected e
    r).groups = r.groups ∧ (endDirected e r).monitor = r.monitor ∧ (endDirected e r).lamp = r.lamp ∧
    (endDirected e r).stage.phase = r.stage.phase ∧ (endDirected e r).stage.activePlan = r.stage.activePlan ∧
    (endDirected e r).stage.taken = r.stage.taken ∧ (endDirected e r).stage.position = r.stage.position ∧
    (endDirected e r).stage.current = r.stage.current ∧ (endDirected e r).stage.inter = r.stage.inter ∧
    (endDirected e r).stage.greenEnds = r.stage.greenEnds ∧ (endDirected e r).loops = r.loops ∧ (endDirected e
    r).demand = r.demand ∧ (endDirected e r).trams = r.trams ∧ (endDirected e r).priority.queue =
    r.priority.queue ∧ (endDirected e r).priority.enable = r.priority.enable ∧ (endDirected e
    r).priority.lockoutDue = r.priority.lockoutDue ∧ (endDirected e r).priority.extensionNoted =
    r.priority.extensionNoted ∧ (endDirected e r).priority.served = r.priority.served ∧ (endDirected e
    r).report.record = r.report.record ∧ (endDirected e r).notices = r.notices := by
  simp only [endDirected]
  (repeat' split) <;> simp


@[simp] theorem lapse_frame (e : Env) (c : LapseCause) (r : Rt) :
    (lapse e c r).ring = r.ring ∧ (lapse e c r).mode.mode = r.mode.mode ∧ (lapse e c r).mode.sub = r.mode.sub ∧
    (lapse e c r).mode.startValues = r.mode.startValues ∧ (lapse e c r).mode.phaseDue = r.mode.phaseDue ∧ (lapse
    e c r).mode.latch = r.mode.latch ∧ (lapse e c r).mode.restartCause = r.mode.restartCause ∧ (lapse e c
    r).mode.pendingStep = r.mode.pendingStep ∧ (lapse e c r).mode.ownerViolation = r.mode.ownerViolation ∧
    (lapse e c r).groups = r.groups ∧ (lapse e c r).monitor = r.monitor ∧ (lapse e c r).lamp = r.lamp ∧ (lapse e
    c r).stage.phase = r.stage.phase ∧ (lapse e c r).stage.activePlan = r.stage.activePlan ∧ (lapse e c
    r).stage.taken = r.stage.taken ∧ (lapse e c r).stage.position = r.stage.position ∧ (lapse e c
    r).stage.current = r.stage.current ∧ (lapse e c r).stage.inter = r.stage.inter ∧ (lapse e c
    r).stage.greenEnds = r.stage.greenEnds ∧ (lapse e c r).loops = r.loops ∧ (lapse e c r).demand = r.demand ∧
    (lapse e c r).trams = r.trams ∧ (lapse e c r).priority.queue = r.priority.queue ∧ (lapse e c
    r).priority.enable = r.priority.enable ∧ (lapse e c r).priority.lockoutDue = r.priority.lockoutDue ∧ (lapse
    e c r).priority.extensionNoted = r.priority.extensionNoted ∧ (lapse e c r).priority.served =
    r.priority.served ∧ (lapse e c r).report.record = r.report.record ∧ (lapse e c r).notices = r.notices := by
  simp [lapse]


@[simp] theorem windowRun_frame (e : Env) (r : Rt) :
    (windowRun e r).ring = r.ring ∧ (windowRun e r).mode.mode = r.mode.mode ∧ (windowRun e r).mode.sub =
    r.mode.sub ∧ (windowRun e r).mode.startValues = r.mode.startValues ∧ (windowRun e r).mode.phaseDue =
    r.mode.phaseDue ∧ (windowRun e r).mode.latch = r.mode.latch ∧ (windowRun e r).mode.restartCause =
    r.mode.restartCause ∧ (windowRun e r).mode.pendingStep = r.mode.pendingStep ∧ (windowRun e
    r).mode.ownerViolation = r.mode.ownerViolation ∧ (windowRun e r).groups = r.groups ∧ (windowRun e r).monitor
    = r.monitor ∧ (windowRun e r).lamp = r.lamp ∧ (windowRun e r).stage.phase = r.stage.phase ∧ (windowRun e
    r).stage.activePlan = r.stage.activePlan ∧ (windowRun e r).stage.taken = r.stage.taken ∧ (windowRun e
    r).stage.position = r.stage.position ∧ (windowRun e r).stage.current = r.stage.current ∧ (windowRun e
    r).stage.inter = r.stage.inter ∧ (windowRun e r).stage.greenEnds = r.stage.greenEnds ∧ (windowRun e r).loops
    = r.loops ∧ (windowRun e r).demand = r.demand ∧ (windowRun e r).trams = r.trams ∧ (windowRun e
    r).priority.queue = r.priority.queue ∧ (windowRun e r).priority.enable = r.priority.enable ∧ (windowRun e
    r).priority.lockoutDue = r.priority.lockoutDue ∧ (windowRun e r).priority.extensionNoted =
    r.priority.extensionNoted ∧ (windowRun e r).priority.served = r.priority.served ∧ (windowRun e
    r).report.record = r.report.record ∧ (windowRun e r).notices = r.notices := by
  simp only [windowRun]
  (repeat' split) <;> simp


@[simp] theorem armRun_frame (e : Env) (r : Rt) :
    (armRun e r).ring = r.ring ∧ (armRun e r).mode.mode = r.mode.mode ∧ (armRun e r).mode.sub = r.mode.sub ∧
    (armRun e r).mode.startValues = r.mode.startValues ∧ (armRun e r).mode.phaseDue = r.mode.phaseDue ∧ (armRun
    e r).mode.latch = r.mode.latch ∧ (armRun e r).mode.restartCause = r.mode.restartCause ∧ (armRun e
    r).mode.pendingStep = r.mode.pendingStep ∧ (armRun e r).mode.ownerViolation = r.mode.ownerViolation ∧
    (armRun e r).groups = r.groups ∧ (armRun e r).monitor = r.monitor ∧ (armRun e r).lamp = r.lamp ∧ (armRun e
    r).stage.phase = r.stage.phase ∧ (armRun e r).stage.activePlan = r.stage.activePlan ∧ (armRun e
    r).stage.taken = r.stage.taken ∧ (armRun e r).stage.position = r.stage.position ∧ (armRun e r).stage.current
    = r.stage.current ∧ (armRun e r).stage.inter = r.stage.inter ∧ (armRun e r).stage.greenEnds =
    r.stage.greenEnds ∧ (armRun e r).loops = r.loops ∧ (armRun e r).demand = r.demand ∧ (armRun e r).trams =
    r.trams ∧ (armRun e r).priority.queue = r.priority.queue ∧ (armRun e r).priority.enable = r.priority.enable
    ∧ (armRun e r).priority.lockoutDue = r.priority.lockoutDue ∧ (armRun e r).priority.extensionNoted =
    r.priority.extensionNoted ∧ (armRun e r).priority.served = r.priority.served ∧ (armRun e r).report.record =
    r.report.record ∧ (armRun e r).notices = r.notices := by
  simp only [armRun]
  (repeat' split) <;> simp


@[simp] theorem orderGreenEnd_frame (e : Env) (g : Group) (r : Rt) :
    (orderGreenEnd e g r).ring.head = r.ring.head ∧ (orderGreenEnd e g r).ring.field = r.ring.field ∧
    (orderGreenEnd e g r).ring.replies = r.ring.replies ∧ (orderGreenEnd e g r).ring.aux = r.ring.aux ∧
    (orderGreenEnd e g r).ring.crcFlag = r.ring.crcFlag ∧ (orderGreenEnd e g r).mode = r.mode ∧ (orderGreenEnd e
    g r).lamp.failed = r.lamp.failed ∧ (orderGreenEnd e g r).lamp.brightness = r.lamp.brightness ∧
    (orderGreenEnd e g r).lamp.settlingDue = r.lamp.settlingDue ∧ (orderGreenEnd e g r).lamp.sensorA =
    r.lamp.sensorA ∧ (orderGreenEnd e g r).lamp.sensorB = r.lamp.sensorB ∧ (orderGreenEnd e g r).lamp.selected =
    r.lamp.selected ∧ (orderGreenEnd e g r).lamp.run = r.lamp.run ∧ (orderGreenEnd e g r).stage.phase =
    r.stage.phase ∧ (orderGreenEnd e g r).stage.activePlan = r.stage.activePlan ∧ (orderGreenEnd e g
    r).stage.taken = r.stage.taken ∧ (orderGreenEnd e g r).stage.position = r.stage.position ∧ (orderGreenEnd e
    g r).stage.current = r.stage.current ∧ (orderGreenEnd e g r).stage.pendingGo = r.stage.pendingGo ∧
    (orderGreenEnd e g r).stage.hold = r.stage.hold ∧ (orderGreenEnd e g r).loops = r.loops ∧ (orderGreenEnd e g
    r).demand.active = r.demand.active ∧ (orderGreenEnd e g r).trams = r.trams ∧ (orderGreenEnd e g r).priority
    = r.priority ∧ (orderGreenEnd e g r).report.record = r.report.record := by
  simp [orderGreenEnd]

@[simp] theorem foldl_orderGreenEnd_frame {α : Type} (e : Env) (f : α → Group) (l : List α) (r : Rt) :
    (l.foldl (fun r x => orderGreenEnd e (f x) r) r).ring.head = r.ring.head ∧ (l.foldl (fun r x =>
    orderGreenEnd e (f x) r) r).ring.field = r.ring.field ∧ (l.foldl (fun r x => orderGreenEnd e (f x) r)
    r).ring.replies = r.ring.replies ∧ (l.foldl (fun r x => orderGreenEnd e (f x) r) r).ring.aux = r.ring.aux ∧
    (l.foldl (fun r x => orderGreenEnd e (f x) r) r).ring.crcFlag = r.ring.crcFlag ∧ (l.foldl (fun r x =>
    orderGreenEnd e (f x) r) r).mode = r.mode ∧ (l.foldl (fun r x => orderGreenEnd e (f x) r) r).lamp.failed =
    r.lamp.failed ∧ (l.foldl (fun r x => orderGreenEnd e (f x) r) r).lamp.brightness = r.lamp.brightness ∧
    (l.foldl (fun r x => orderGreenEnd e (f x) r) r).lamp.settlingDue = r.lamp.settlingDue ∧ (l.foldl (fun r x
    => orderGreenEnd e (f x) r) r).lamp.sensorA = r.lamp.sensorA ∧ (l.foldl (fun r x => orderGreenEnd e (f x) r)
    r).lamp.sensorB = r.lamp.sensorB ∧ (l.foldl (fun r x => orderGreenEnd e (f x) r) r).lamp.selected =
    r.lamp.selected ∧ (l.foldl (fun r x => orderGreenEnd e (f x) r) r).lamp.run = r.lamp.run ∧ (l.foldl (fun r x
    => orderGreenEnd e (f x) r) r).stage.phase = r.stage.phase ∧ (l.foldl (fun r x => orderGreenEnd e (f x) r)
    r).stage.activePlan = r.stage.activePlan ∧ (l.foldl (fun r x => orderGreenEnd e (f x) r) r).stage.taken =
    r.stage.taken ∧ (l.foldl (fun r x => orderGreenEnd e (f x) r) r).stage.position = r.stage.position ∧
    (l.foldl (fun r x => orderGreenEnd e (f x) r) r).stage.current = r.stage.current ∧ (l.foldl (fun r x =>
    orderGreenEnd e (f x) r) r).stage.pendingGo = r.stage.pendingGo ∧ (l.foldl (fun r x => orderGreenEnd e (f x)
    r) r).stage.hold = r.stage.hold ∧ (l.foldl (fun r x => orderGreenEnd e (f x) r) r).loops = r.loops ∧
    (l.foldl (fun r x => orderGreenEnd e (f x) r) r).demand.active = r.demand.active ∧ (l.foldl (fun r x =>
    orderGreenEnd e (f x) r) r).trams = r.trams ∧ (l.foldl (fun r x => orderGreenEnd e (f x) r) r).priority =
    r.priority ∧ (l.foldl (fun r x => orderGreenEnd e (f x) r) r).report.record = r.report.record := by
  refine foldl_inv (fun x => x.ring.head = r.ring.head ∧ x.ring.field = r.ring.field ∧ x.ring.replies = r.ring.replies ∧ x.ring.aux = r.ring.aux ∧ x.ring.crcFlag = r.ring.crcFlag ∧ x.mode = r.mode ∧ x.lamp.failed = r.lamp.failed ∧ x.lamp.brightness = r.lamp.brightness ∧ x.lamp.settlingDue = r.lamp.settlingDue ∧ x.lamp.sensorA = r.lamp.sensorA ∧ x.lamp.sensorB = r.lamp.sensorB ∧ x.lamp.selected = r.lamp.selected ∧ x.lamp.run = r.lamp.run ∧ x.stage.phase = r.stage.phase ∧ x.stage.activePlan = r.stage.activePlan ∧ x.stage.taken = r.stage.taken ∧ x.stage.position = r.stage.position ∧ x.stage.current = r.stage.current ∧ x.stage.pendingGo = r.stage.pendingGo ∧ x.stage.hold = r.stage.hold ∧ x.loops = r.loops ∧ x.demand.active = r.demand.active ∧ x.trams = r.trams ∧ x.priority = r.priority ∧ x.report.record = r.report.record) _ (fun x a hx => ?_) _ _ ?_
  · simp_all
  · simp


@[simp] theorem fixGreen_frame (e : Env) (j : Group) (t : Time) (r : Rt) :
    (fixGreen e j t r).ring.head = r.ring.head ∧ (fixGreen e j t r).ring.field = r.ring.field ∧ (fixGreen e j t
    r).ring.replies = r.ring.replies ∧ (fixGreen e j t r).ring.crcFlag = r.ring.crcFlag ∧ (fixGreen e j t
    r).mode = r.mode ∧ (fixGreen e j t r).lamp.confirms = r.lamp.confirms ∧ (fixGreen e j t r).lamp.failed =
    r.lamp.failed ∧ (fixGreen e j t r).lamp.brightness = r.lamp.brightness ∧ (fixGreen e j t r).lamp.settlingDue
    = r.lamp.settlingDue ∧ (fixGreen e j t r).lamp.sensorA = r.lamp.sensorA ∧ (fixGreen e j t r).lamp.sensorB =
    r.lamp.sensorB ∧ (fixGreen e j t r).lamp.selected = r.lamp.selected ∧ (fixGreen e j t r).lamp.run =
    r.lamp.run ∧ (fixGreen e j t r).stage.phase = r.stage.phase ∧ (fixGreen e j t r).stage.activePlan =
    r.stage.activePlan ∧ (fixGreen e j t r).stage.taken = r.stage.taken ∧ (fixGreen e j t r).stage.position =
    r.stage.position ∧ (fixGreen e j t r).stage.current = r.stage.current ∧ (fixGreen e j t r).stage.pendingGo =
    r.stage.pendingGo ∧ (fixGreen e j t r).stage.hold = r.stage.hold ∧ (fixGreen e j t r).stage.greenEnds =
    r.stage.greenEnds ∧ (fixGreen e j t r).loops = r.loops ∧ (fixGreen e j t r).demand.active = r.demand.active
    ∧ (fixGreen e j t r).priority.enable = r.priority.enable ∧ (fixGreen e j t r).priority.lockoutDue =
    r.priority.lockoutDue ∧ (fixGreen e j t r).priority.extensionNoted = r.priority.extensionNoted ∧ (fixGreen e
    j t r).priority.served = r.priority.served ∧ (fixGreen e j t r).report.record = r.report.record := by
  simp only [fixGreen]
  (repeat' split) <;> simp


@[simp] theorem fixAtStart_frame (e : Env) (x : Gaining) (r : Rt) :
    (fixAtStart e x r).ring.head = r.ring.head ∧ (fixAtStart e x r).ring.field = r.ring.field ∧ (fixAtStart e x
    r).ring.replies = r.ring.replies ∧ (fixAtStart e x r).ring.crcFlag = r.ring.crcFlag ∧ (fixAtStart e x
    r).mode = r.mode ∧ (fixAtStart e x r).lamp.confirms = r.lamp.confirms ∧ (fixAtStart e x r).lamp.failed =
    r.lamp.failed ∧ (fixAtStart e x r).lamp.brightness = r.lamp.brightness ∧ (fixAtStart e x r).lamp.settlingDue
    = r.lamp.settlingDue ∧ (fixAtStart e x r).lamp.sensorA = r.lamp.sensorA ∧ (fixAtStart e x r).lamp.sensorB =
    r.lamp.sensorB ∧ (fixAtStart e x r).lamp.selected = r.lamp.selected ∧ (fixAtStart e x r).lamp.run =
    r.lamp.run ∧ (fixAtStart e x r).stage.phase = r.stage.phase ∧ (fixAtStart e x r).stage.activePlan =
    r.stage.activePlan ∧ (fixAtStart e x r).stage.taken = r.stage.taken ∧ (fixAtStart e x r).stage.position =
    r.stage.position ∧ (fixAtStart e x r).stage.current = r.stage.current ∧ (fixAtStart e x r).stage.pendingGo =
    r.stage.pendingGo ∧ (fixAtStart e x r).stage.hold = r.stage.hold ∧ (fixAtStart e x r).stage.greenEnds =
    r.stage.greenEnds ∧ (fixAtStart e x r).loops = r.loops ∧ (fixAtStart e x r).demand.active = r.demand.active
    ∧ (fixAtStart e x r).priority.enable = r.priority.enable ∧ (fixAtStart e x r).priority.lockoutDue =
    r.priority.lockoutDue ∧ (fixAtStart e x r).priority.extensionNoted = r.priority.extensionNoted ∧ (fixAtStart
    e x r).priority.served = r.priority.served ∧ (fixAtStart e x r).report.record = r.report.record := by
  simp only [fixAtStart]
  (repeat' split) <;> simp

@[simp] theorem foldl_fixAtStart_frame {α : Type} (e : Env) (f : α → Gaining) (l : List α) (r : Rt) :
    (l.foldl (fun r x => fixAtStart e (f x) r) r).ring.head = r.ring.head ∧ (l.foldl (fun r x => fixAtStart e (f
    x) r) r).ring.field = r.ring.field ∧ (l.foldl (fun r x => fixAtStart e (f x) r) r).ring.replies =
    r.ring.replies ∧ (l.foldl (fun r x => fixAtStart e (f x) r) r).ring.crcFlag = r.ring.crcFlag ∧ (l.foldl (fun
    r x => fixAtStart e (f x) r) r).mode = r.mode ∧ (l.foldl (fun r x => fixAtStart e (f x) r) r).lamp.confirms
    = r.lamp.confirms ∧ (l.foldl (fun r x => fixAtStart e (f x) r) r).lamp.failed = r.lamp.failed ∧ (l.foldl
    (fun r x => fixAtStart e (f x) r) r).lamp.brightness = r.lamp.brightness ∧ (l.foldl (fun r x => fixAtStart e
    (f x) r) r).lamp.settlingDue = r.lamp.settlingDue ∧ (l.foldl (fun r x => fixAtStart e (f x) r)
    r).lamp.sensorA = r.lamp.sensorA ∧ (l.foldl (fun r x => fixAtStart e (f x) r) r).lamp.sensorB =
    r.lamp.sensorB ∧ (l.foldl (fun r x => fixAtStart e (f x) r) r).lamp.selected = r.lamp.selected ∧ (l.foldl
    (fun r x => fixAtStart e (f x) r) r).lamp.run = r.lamp.run ∧ (l.foldl (fun r x => fixAtStart e (f x) r)
    r).stage.phase = r.stage.phase ∧ (l.foldl (fun r x => fixAtStart e (f x) r) r).stage.activePlan =
    r.stage.activePlan ∧ (l.foldl (fun r x => fixAtStart e (f x) r) r).stage.taken = r.stage.taken ∧ (l.foldl
    (fun r x => fixAtStart e (f x) r) r).stage.position = r.stage.position ∧ (l.foldl (fun r x => fixAtStart e
    (f x) r) r).stage.current = r.stage.current ∧ (l.foldl (fun r x => fixAtStart e (f x) r) r).stage.pendingGo
    = r.stage.pendingGo ∧ (l.foldl (fun r x => fixAtStart e (f x) r) r).stage.hold = r.stage.hold ∧ (l.foldl
    (fun r x => fixAtStart e (f x) r) r).stage.greenEnds = r.stage.greenEnds ∧ (l.foldl (fun r x => fixAtStart e
    (f x) r) r).loops = r.loops ∧ (l.foldl (fun r x => fixAtStart e (f x) r) r).demand.active = r.demand.active
    ∧ (l.foldl (fun r x => fixAtStart e (f x) r) r).priority.enable = r.priority.enable ∧ (l.foldl (fun r x =>
    fixAtStart e (f x) r) r).priority.lockoutDue = r.priority.lockoutDue ∧ (l.foldl (fun r x => fixAtStart e (f
    x) r) r).priority.extensionNoted = r.priority.extensionNoted ∧ (l.foldl (fun r x => fixAtStart e (f x) r)
    r).priority.served = r.priority.served ∧ (l.foldl (fun r x => fixAtStart e (f x) r) r).report.record =
    r.report.record := by
  refine foldl_inv (fun x => x.ring.head = r.ring.head ∧ x.ring.field = r.ring.field ∧ x.ring.replies = r.ring.replies ∧ x.ring.crcFlag = r.ring.crcFlag ∧ x.mode = r.mode ∧ x.lamp.confirms = r.lamp.confirms ∧ x.lamp.failed = r.lamp.failed ∧ x.lamp.brightness = r.lamp.brightness ∧ x.lamp.settlingDue = r.lamp.settlingDue ∧ x.lamp.sensorA = r.lamp.sensorA ∧ x.lamp.sensorB = r.lamp.sensorB ∧ x.lamp.selected = r.lamp.selected ∧ x.lamp.run = r.lamp.run ∧ x.stage.phase = r.stage.phase ∧ x.stage.activePlan = r.stage.activePlan ∧ x.stage.taken = r.stage.taken ∧ x.stage.position = r.stage.position ∧ x.stage.current = r.stage.current ∧ x.stage.pendingGo = r.stage.pendingGo ∧ x.stage.hold = r.stage.hold ∧ x.stage.greenEnds = r.stage.greenEnds ∧ x.loops = r.loops ∧ x.demand.active = r.demand.active ∧ x.priority.enable = r.priority.enable ∧ x.priority.lockoutDue = r.priority.lockoutDue ∧ x.priority.extensionNoted = r.priority.extensionNoted ∧ x.priority.served = r.priority.served ∧ x.report.record = r.report.record) _ (fun x a hx => ?_) _ _ ?_
  · simp_all
  · simp


@[simp] theorem fixAtConfirm_frame (e : Env) (x : Gaining) (r : Rt) :
    (fixAtConfirm e x r).ring.head = r.ring.head ∧ (fixAtConfirm e x r).ring.field = r.ring.field ∧
    (fixAtConfirm e x r).ring.replies = r.ring.replies ∧ (fixAtConfirm e x r).ring.crcFlag = r.ring.crcFlag ∧
    (fixAtConfirm e x r).mode = r.mode ∧ (fixAtConfirm e x r).lamp.confirms = r.lamp.confirms ∧ (fixAtConfirm e
    x r).lamp.failed = r.lamp.failed ∧ (fixAtConfirm e x r).lamp.brightness = r.lamp.brightness ∧ (fixAtConfirm
    e x r).lamp.settlingDue = r.lamp.settlingDue ∧ (fixAtConfirm e x r).lamp.sensorA = r.lamp.sensorA ∧
    (fixAtConfirm e x r).lamp.sensorB = r.lamp.sensorB ∧ (fixAtConfirm e x r).lamp.selected = r.lamp.selected ∧
    (fixAtConfirm e x r).lamp.run = r.lamp.run ∧ (fixAtConfirm e x r).stage.phase = r.stage.phase ∧
    (fixAtConfirm e x r).stage.activePlan = r.stage.activePlan ∧ (fixAtConfirm e x r).stage.taken =
    r.stage.taken ∧ (fixAtConfirm e x r).stage.position = r.stage.position ∧ (fixAtConfirm e x r).stage.current
    = r.stage.current ∧ (fixAtConfirm e x r).stage.pendingGo = r.stage.pendingGo ∧ (fixAtConfirm e x
    r).stage.hold = r.stage.hold ∧ (fixAtConfirm e x r).stage.greenEnds = r.stage.greenEnds ∧ (fixAtConfirm e x
    r).loops = r.loops ∧ (fixAtConfirm e x r).demand.active = r.demand.active ∧ (fixAtConfirm e x
    r).priority.enable = r.priority.enable ∧ (fixAtConfirm e x r).priority.lockoutDue = r.priority.lockoutDue ∧
    (fixAtConfirm e x r).priority.extensionNoted = r.priority.extensionNoted ∧ (fixAtConfirm e x
    r).priority.served = r.priority.served ∧ (fixAtConfirm e x r).report.record = r.report.record := by
  simp only [fixAtConfirm]
  (repeat' split) <;> simp

@[simp] theorem foldl_fixAtConfirm_frame {α : Type} (e : Env) (f : α → Gaining) (l : List α) (r : Rt) :
    (l.foldl (fun r x => fixAtConfirm e (f x) r) r).ring.head = r.ring.head ∧ (l.foldl (fun r x => fixAtConfirm
    e (f x) r) r).ring.field = r.ring.field ∧ (l.foldl (fun r x => fixAtConfirm e (f x) r) r).ring.replies =
    r.ring.replies ∧ (l.foldl (fun r x => fixAtConfirm e (f x) r) r).ring.crcFlag = r.ring.crcFlag ∧ (l.foldl
    (fun r x => fixAtConfirm e (f x) r) r).mode = r.mode ∧ (l.foldl (fun r x => fixAtConfirm e (f x) r)
    r).lamp.confirms = r.lamp.confirms ∧ (l.foldl (fun r x => fixAtConfirm e (f x) r) r).lamp.failed =
    r.lamp.failed ∧ (l.foldl (fun r x => fixAtConfirm e (f x) r) r).lamp.brightness = r.lamp.brightness ∧
    (l.foldl (fun r x => fixAtConfirm e (f x) r) r).lamp.settlingDue = r.lamp.settlingDue ∧ (l.foldl (fun r x =>
    fixAtConfirm e (f x) r) r).lamp.sensorA = r.lamp.sensorA ∧ (l.foldl (fun r x => fixAtConfirm e (f x) r)
    r).lamp.sensorB = r.lamp.sensorB ∧ (l.foldl (fun r x => fixAtConfirm e (f x) r) r).lamp.selected =
    r.lamp.selected ∧ (l.foldl (fun r x => fixAtConfirm e (f x) r) r).lamp.run = r.lamp.run ∧ (l.foldl (fun r x
    => fixAtConfirm e (f x) r) r).stage.phase = r.stage.phase ∧ (l.foldl (fun r x => fixAtConfirm e (f x) r)
    r).stage.activePlan = r.stage.activePlan ∧ (l.foldl (fun r x => fixAtConfirm e (f x) r) r).stage.taken =
    r.stage.taken ∧ (l.foldl (fun r x => fixAtConfirm e (f x) r) r).stage.position = r.stage.position ∧ (l.foldl
    (fun r x => fixAtConfirm e (f x) r) r).stage.current = r.stage.current ∧ (l.foldl (fun r x => fixAtConfirm e
    (f x) r) r).stage.pendingGo = r.stage.pendingGo ∧ (l.foldl (fun r x => fixAtConfirm e (f x) r) r).stage.hold
    = r.stage.hold ∧ (l.foldl (fun r x => fixAtConfirm e (f x) r) r).stage.greenEnds = r.stage.greenEnds ∧
    (l.foldl (fun r x => fixAtConfirm e (f x) r) r).loops = r.loops ∧ (l.foldl (fun r x => fixAtConfirm e (f x)
    r) r).demand.active = r.demand.active ∧ (l.foldl (fun r x => fixAtConfirm e (f x) r) r).priority.enable =
    r.priority.enable ∧ (l.foldl (fun r x => fixAtConfirm e (f x) r) r).priority.lockoutDue =
    r.priority.lockoutDue ∧ (l.foldl (fun r x => fixAtConfirm e (f x) r) r).priority.extensionNoted =
    r.priority.extensionNoted ∧ (l.foldl (fun r x => fixAtConfirm e (f x) r) r).priority.served =
    r.priority.served ∧ (l.foldl (fun r x => fixAtConfirm e (f x) r) r).report.record = r.report.record := by
  refine foldl_inv (fun x => x.ring.head = r.ring.head ∧ x.ring.field = r.ring.field ∧ x.ring.replies = r.ring.replies ∧ x.ring.crcFlag = r.ring.crcFlag ∧ x.mode = r.mode ∧ x.lamp.confirms = r.lamp.confirms ∧ x.lamp.failed = r.lamp.failed ∧ x.lamp.brightness = r.lamp.brightness ∧ x.lamp.settlingDue = r.lamp.settlingDue ∧ x.lamp.sensorA = r.lamp.sensorA ∧ x.lamp.sensorB = r.lamp.sensorB ∧ x.lamp.selected = r.lamp.selected ∧ x.lamp.run = r.lamp.run ∧ x.stage.phase = r.stage.phase ∧ x.stage.activePlan = r.stage.activePlan ∧ x.stage.taken = r.stage.taken ∧ x.stage.position = r.stage.position ∧ x.stage.current = r.stage.current ∧ x.stage.pendingGo = r.stage.pendingGo ∧ x.stage.hold = r.stage.hold ∧ x.stage.greenEnds = r.stage.greenEnds ∧ x.loops = r.loops ∧ x.demand.active = r.demand.active ∧ x.priority.enable = r.priority.enable ∧ x.priority.lockoutDue = r.priority.lockoutDue ∧ x.priority.extensionNoted = r.priority.extensionNoted ∧ x.priority.served = r.priority.served ∧ x.report.record = r.report.record) _ (fun x a hx => ?_) _ _ ?_
  · simp_all
  · simp


@[simp] theorem stageConfirm_frame (e : Env) (i : Group) (stamp : Time) (r : Rt) :
    (stageConfirm e i stamp r).ring.head = r.ring.head ∧ (stageConfirm e i stamp r).ring.field = r.ring.field ∧
    (stageConfirm e i stamp r).ring.replies = r.ring.replies ∧ (stageConfirm e i stamp r).ring.crcFlag =
    r.ring.crcFlag ∧ (stageConfirm e i stamp r).mode = r.mode ∧ (stageConfirm e i stamp r).lamp.confirms =
    r.lamp.confirms ∧ (stageConfirm e i stamp r).lamp.failed = r.lamp.failed ∧ (stageConfirm e i stamp
    r).lamp.brightness = r.lamp.brightness ∧ (stageConfirm e i stamp r).lamp.settlingDue = r.lamp.settlingDue ∧
    (stageConfirm e i stamp r).lamp.sensorA = r.lamp.sensorA ∧ (stageConfirm e i stamp r).lamp.sensorB =
    r.lamp.sensorB ∧ (stageConfirm e i stamp r).lamp.selected = r.lamp.selected ∧ (stageConfirm e i stamp
    r).lamp.run = r.lamp.run ∧ (stageConfirm e i stamp r).stage.phase = r.stage.phase ∧ (stageConfirm e i stamp
    r).stage.activePlan = r.stage.activePlan ∧ (stageConfirm e i stamp r).stage.taken = r.stage.taken ∧
    (stageConfirm e i stamp r).stage.position = r.stage.position ∧ (stageConfirm e i stamp r).stage.current =
    r.stage.current ∧ (stageConfirm e i stamp r).stage.pendingGo = r.stage.pendingGo ∧ (stageConfirm e i stamp
    r).stage.hold = r.stage.hold ∧ (stageConfirm e i stamp r).loops = r.loops ∧ (stageConfirm e i stamp
    r).demand.active = r.demand.active ∧ (stageConfirm e i stamp r).priority.enable = r.priority.enable ∧
    (stageConfirm e i stamp r).priority.lockoutDue = r.priority.lockoutDue ∧ (stageConfirm e i stamp
    r).priority.extensionNoted = r.priority.extensionNoted ∧ (stageConfirm e i stamp r).priority.served =
    r.priority.served ∧ (stageConfirm e i stamp r).report.record = r.report.record := by
  simp only [stageConfirm]
  split
  · simp
  · have h := foldl_fixAtConfirm_frame e id
    simp only [id] at h
    simp [h]


@[simp] theorem endStage_frame (e : Env) (s' : Stage) (cause : EndCause) (truncated outOfOrder : Bool) (r : Rt) :
    (endStage e s' cause truncated outOfOrder r).ring.head = r.ring.head ∧ (endStage e s' cause truncated
    outOfOrder r).ring.field = r.ring.field ∧ (endStage e s' cause truncated outOfOrder r).ring.replies =
    r.ring.replies ∧ (endStage e s' cause truncated outOfOrder r).ring.crcFlag = r.ring.crcFlag ∧ (endStage e s'
    cause truncated outOfOrder r).mode = r.mode ∧ (endStage e s' cause truncated outOfOrder r).lamp.failed =
    r.lamp.failed ∧ (endStage e s' cause truncated outOfOrder r).lamp.brightness = r.lamp.brightness ∧ (endStage
    e s' cause truncated outOfOrder r).lamp.settlingDue = r.lamp.settlingDue ∧ (endStage e s' cause truncated
    outOfOrder r).lamp.sensorA = r.lamp.sensorA ∧ (endStage e s' cause truncated outOfOrder r).lamp.sensorB =
    r.lamp.sensorB ∧ (endStage e s' cause truncated outOfOrder r).lamp.selected = r.lamp.selected ∧ (endStage e
    s' cause truncated outOfOrder r).lamp.run = r.lamp.run ∧ (endStage e s' cause truncated outOfOrder
    r).stage.activePlan = r.stage.activePlan ∧ (endStage e s' cause truncated outOfOrder r).stage.taken =
    r.stage.taken ∧ (endStage e s' cause truncated outOfOrder r).stage.position = r.stage.position ∧ (endStage e
    s' cause truncated outOfOrder r).stage.pendingGo = r.stage.pendingGo ∧ (endStage e s' cause truncated
    outOfOrder r).stage.hold = r.stage.hold ∧ (endStage e s' cause truncated outOfOrder r).loops = r.loops ∧
    (endStage e s' cause truncated outOfOrder r).demand.active = r.demand.active ∧ (endStage e s' cause
    truncated outOfOrder r).priority.enable = r.priority.enable ∧ (endStage e s' cause truncated outOfOrder
    r).priority.extensionNoted = r.priority.extensionNoted ∧ (endStage e s' cause truncated outOfOrder
    r).report.record = r.report.record := by
  simp only [endStage]
  (repeat' split) <;> simp


@[simp] theorem firstInterstage_frame (e : Env) (s' : Stage) (r : Rt) :
    (firstInterstage e s' r).ring.head = r.ring.head ∧ (firstInterstage e s' r).ring.field = r.ring.field ∧
    (firstInterstage e s' r).ring.replies = r.ring.replies ∧ (firstInterstage e s' r).ring.crcFlag =
    r.ring.crcFlag ∧ (firstInterstage e s' r).mode = r.mode ∧ (firstInterstage e s' r).lamp.confirms =
    r.lamp.confirms ∧ (firstInterstage e s' r).lamp.failed = r.lamp.failed ∧ (firstInterstage e s'
    r).lamp.brightness = r.lamp.brightness ∧ (firstInterstage e s' r).lamp.settlingDue = r.lamp.settlingDue ∧
    (firstInterstage e s' r).lamp.sensorA = r.lamp.sensorA ∧ (firstInterstage e s' r).lamp.sensorB =
    r.lamp.sensorB ∧ (firstInterstage e s' r).lamp.selected = r.lamp.selected ∧ (firstInterstage e s'
    r).lamp.run = r.lamp.run ∧ (firstInterstage e s' r).stage.activePlan = r.stage.activePlan ∧ (firstInterstage
    e s' r).stage.taken = r.stage.taken ∧ (firstInterstage e s' r).stage.position = r.stage.position ∧
    (firstInterstage e s' r).stage.current = r.stage.current ∧ (firstInterstage e s' r).stage.pendingGo =
    r.stage.pendingGo ∧ (firstInterstage e s' r).stage.hold = r.stage.hold ∧ (firstInterstage e s'
    r).stage.greenEnds = r.stage.greenEnds ∧ (firstInterstage e s' r).loops = r.loops ∧ (firstInterstage e s'
    r).demand.active = r.demand.active ∧ (firstInterstage e s' r).priority.enable = r.priority.enable ∧
    (firstInterstage e s' r).priority.lockoutDue = r.priority.lockoutDue ∧ (firstInterstage e s'
    r).priority.extensionNoted = r.priority.extensionNoted ∧ (firstInterstage e s' r).priority.served =
    r.priority.served ∧ (firstInterstage e s' r).report.record = r.report.record := by
  simp only [firstInterstage]
  (repeat' split)
  all_goals first
    | (simp; done)
    | (refine foldl_inv (fun x => x.ring.head = r.ring.head ∧ x.ring.field = r.ring.field ∧ x.ring.replies = r.ring.replies ∧ x.ring.crcFlag = r.ring.crcFlag ∧ x.mode = r.mode ∧ x.lamp.confirms = r.lamp.confirms ∧ x.lamp.failed = r.lamp.failed ∧ x.lamp.brightness = r.lamp.brightness ∧ x.lamp.settlingDue = r.lamp.settlingDue ∧ x.lamp.sensorA = r.lamp.sensorA ∧ x.lamp.sensorB = r.lamp.sensorB ∧ x.lamp.selected = r.lamp.selected ∧ x.lamp.run = r.lamp.run ∧ x.stage.activePlan = r.stage.activePlan ∧ x.stage.taken = r.stage.taken ∧ x.stage.position = r.stage.position ∧ x.stage.current = r.stage.current ∧ x.stage.pendingGo = r.stage.pendingGo ∧ x.stage.hold = r.stage.hold ∧ x.stage.greenEnds = r.stage.greenEnds ∧ x.loops = r.loops ∧ x.demand.active = r.demand.active ∧ x.priority.enable = r.priority.enable ∧ x.priority.lockoutDue = r.priority.lockoutDue ∧ x.priority.extensionNoted = r.priority.extensionNoted ∧ x.priority.served = r.priority.served ∧ x.report.record = r.report.record) _ (fun x a hx => ?_) _ _ ?_
       · revert hx; (repeat' split) <;> simp <;> intros <;> simp_all
       · (repeat' split) <;> simp)


@[simp] theorem takePlan_frame (e : Env) (s : Stage) (r : Rt) :
    (takePlan e s r).ring = r.ring ∧ (takePlan e s r).mode = r.mode ∧ (takePlan e s r).groups = r.groups ∧
    (takePlan e s r).monitor = r.monitor ∧ (takePlan e s r).lamp = r.lamp ∧ (takePlan e s r).stage.phase =
    r.stage.phase ∧ (takePlan e s r).stage.activePlan = r.stage.activePlan ∧ (takePlan e s r).stage.current =
    r.stage.current ∧ (takePlan e s r).stage.pendingGo = r.stage.pendingGo ∧ (takePlan e s r).stage.hold =
    r.stage.hold ∧ (takePlan e s r).stage.inter = r.stage.inter ∧ (takePlan e s r).stage.greenEnds =
    r.stage.greenEnds ∧ (takePlan e s r).loops = r.loops ∧ (takePlan e s r).demand.active = r.demand.active ∧
    (takePlan e s r).demand.assigns = r.demand.assigns ∧ (takePlan e s r).trams = r.trams ∧ (takePlan e s
    r).priority = r.priority ∧ (takePlan e s r).report = r.report ∧ (takePlan e s r).notices = r.notices := by
  simp only [takePlan]
  (repeat' split) <;> simp


@[simp] theorem stageStart_frame (e : Env) (k : Interstage) (r : Rt) :
    (stageStart e k r).ring.head = r.ring.head ∧ (stageStart e k r).ring.field = r.ring.field ∧ (stageStart e k
    r).ring.replies = r.ring.replies ∧ (stageStart e k r).ring.crcFlag = r.ring.crcFlag ∧ (stageStart e k
    r).mode.startValues = r.mode.startValues ∧ (stageStart e k r).mode.source = r.mode.source ∧ (stageStart e k
    r).mode.keep = r.mode.keep ∧ (stageStart e k r).mode.latch = r.mode.latch ∧ (stageStart e k
    r).mode.restartCause = r.mode.restartCause ∧ (stageStart e k r).mode.pendingStep = r.mode.pendingStep ∧
    (stageStart e k r).mode.ownerViolation = r.mode.ownerViolation ∧ (stageStart e k r).groups = r.groups ∧
    (stageStart e k r).lamp.confirms = r.lamp.confirms ∧ (stageStart e k r).lamp.failed = r.lamp.failed ∧
    (stageStart e k r).lamp.brightness = r.lamp.brightness ∧ (stageStart e k r).lamp.settlingDue =
    r.lamp.settlingDue ∧ (stageStart e k r).lamp.sensorA = r.lamp.sensorA ∧ (stageStart e k r).lamp.sensorB =
    r.lamp.sensorB ∧ (stageStart e k r).lamp.selected = r.lamp.selected ∧ (stageStart e k r).lamp.run =
    r.lamp.run ∧ (stageStart e k r).stage.activePlan = r.stage.activePlan ∧ (stageStart e k r).priority.enable =
    r.priority.enable ∧ (stageStart e k r).priority.served = r.priority.served := by
  simp only [stageStart]
  (repeat' split) <;> simp


@[simp] theorem maxGreenCheck_frame (e : Env) (r : Rt) :
    (maxGreenCheck e r).ring = r.ring ∧ (maxGreenCheck e r).mode = r.mode ∧ (maxGreenCheck e r).groups =
    r.groups ∧ (maxGreenCheck e r).monitor = r.monitor ∧ (maxGreenCheck e r).lamp = r.lamp ∧ (maxGreenCheck e
    r).stage.phase = r.stage.phase ∧ (maxGreenCheck e r).stage.activePlan = r.stage.activePlan ∧ (maxGreenCheck
    e r).stage.taken = r.stage.taken ∧ (maxGreenCheck e r).stage.position = r.stage.position ∧ (maxGreenCheck e
    r).stage.pendingGo = r.stage.pendingGo ∧ (maxGreenCheck e r).stage.hold = r.stage.hold ∧ (maxGreenCheck e
    r).stage.inter = r.stage.inter ∧ (maxGreenCheck e r).stage.greenEnds = r.stage.greenEnds ∧ (maxGreenCheck e
    r).loops = r.loops ∧ (maxGreenCheck e r).demand = r.demand ∧ (maxGreenCheck e r).trams = r.trams ∧
    (maxGreenCheck e r).priority.queue = r.priority.queue ∧ (maxGreenCheck e r).priority.enable =
    r.priority.enable ∧ (maxGreenCheck e r).priority.lockoutDue = r.priority.lockoutDue ∧ (maxGreenCheck e
    r).priority.extensionNoted = r.priority.extensionNoted ∧ (maxGreenCheck e r).priority.served =
    r.priority.served ∧ (maxGreenCheck e r).report = r.report ∧ (maxGreenCheck e r).notices = r.notices := by
  simp only [maxGreenCheck]
  (repeat' split) <;> simp


@[simp] theorem maxGreenLapse_frame (e : Env) (r : Rt) :
    (maxGreenLapse e r).ring = r.ring ∧ (maxGreenLapse e r).mode = r.mode ∧ (maxGreenLapse e r).groups =
    r.groups ∧ (maxGreenLapse e r).monitor = r.monitor ∧ (maxGreenLapse e r).lamp = r.lamp ∧ (maxGreenLapse e
    r).stage.phase = r.stage.phase ∧ (maxGreenLapse e r).stage.activePlan = r.stage.activePlan ∧ (maxGreenLapse
    e r).stage.taken = r.stage.taken ∧ (maxGreenLapse e r).stage.position = r.stage.position ∧ (maxGreenLapse e
    r).stage.pendingGo = r.stage.pendingGo ∧ (maxGreenLapse e r).stage.hold = r.stage.hold ∧ (maxGreenLapse e
    r).stage.inter = r.stage.inter ∧ (maxGreenLapse e r).stage.greenEnds = r.stage.greenEnds ∧ (maxGreenLapse e
    r).loops = r.loops ∧ (maxGreenLapse e r).demand = r.demand ∧ (maxGreenLapse e r).trams = r.trams ∧
    (maxGreenLapse e r).priority.queue = r.priority.queue ∧ (maxGreenLapse e r).priority.enable =
    r.priority.enable ∧ (maxGreenLapse e r).priority.lockoutDue = r.priority.lockoutDue ∧ (maxGreenLapse e
    r).priority.extensionNoted = r.priority.extensionNoted ∧ (maxGreenLapse e r).priority.served =
    r.priority.served ∧ (maxGreenLapse e r).report = r.report ∧ (maxGreenLapse e r).notices = r.notices := by
  simp [maxGreenLapse]


@[simp] theorem autonomousStep_frame (e : Env) (r : Rt) :
    (autonomousStep e r).1.ring.head = r.ring.head ∧ (autonomousStep e r).1.ring.field = r.ring.field ∧
    (autonomousStep e r).1.ring.replies = r.ring.replies ∧ (autonomousStep e r).1.ring.crcFlag = r.ring.crcFlag
    ∧ (autonomousStep e r).1.mode = r.mode ∧ (autonomousStep e r).1.lamp.failed = r.lamp.failed ∧
    (autonomousStep e r).1.lamp.brightness = r.lamp.brightness ∧ (autonomousStep e r).1.lamp.settlingDue =
    r.lamp.settlingDue ∧ (autonomousStep e r).1.lamp.sensorA = r.lamp.sensorA ∧ (autonomousStep e
    r).1.lamp.sensorB = r.lamp.sensorB ∧ (autonomousStep e r).1.lamp.selected = r.lamp.selected ∧
    (autonomousStep e r).1.lamp.run = r.lamp.run ∧ (autonomousStep e r).1.stage.activePlan = r.stage.activePlan
    ∧ (autonomousStep e r).1.stage.taken = r.stage.taken ∧ (autonomousStep e r).1.stage.position =
    r.stage.position ∧ (autonomousStep e r).1.stage.pendingGo = r.stage.pendingGo ∧ (autonomousStep e
    r).1.stage.hold = r.stage.hold ∧ (autonomousStep e r).1.loops = r.loops ∧ (autonomousStep e
    r).1.demand.active = r.demand.active ∧ (autonomousStep e r).1.priority.enable = r.priority.enable ∧
    (autonomousStep e r).1.report.record = r.report.record := by
  simp only [autonomousStep]
  (repeat' split) <;> simp


@[simp] theorem directedStep_frame (e : Env) (r : Rt) :
    (directedStep e r).1.ring.head = r.ring.head ∧ (directedStep e r).1.ring.field = r.ring.field ∧
    (directedStep e r).1.ring.replies = r.ring.replies ∧ (directedStep e r).1.ring.crcFlag = r.ring.crcFlag ∧
    (directedStep e r).1.mode = r.mode ∧ (directedStep e r).1.lamp.failed = r.lamp.failed ∧ (directedStep e
    r).1.lamp.brightness = r.lamp.brightness ∧ (directedStep e r).1.lamp.settlingDue = r.lamp.settlingDue ∧
    (directedStep e r).1.lamp.sensorA = r.lamp.sensorA ∧ (directedStep e r).1.lamp.sensorB = r.lamp.sensorB ∧
    (directedStep e r).1.lamp.selected = r.lamp.selected ∧ (directedStep e r).1.lamp.run = r.lamp.run ∧
    (directedStep e r).1.stage.activePlan = r.stage.activePlan ∧ (directedStep e r).1.stage.taken =
    r.stage.taken ∧ (directedStep e r).1.stage.position = r.stage.position ∧ (directedStep e r).1.stage.hold =
    r.stage.hold ∧ (directedStep e r).1.loops = r.loops ∧ (directedStep e r).1.demand.active = r.demand.active ∧
    (directedStep e r).1.priority.enable = r.priority.enable ∧ (directedStep e r).1.report.record =
    r.report.record := by
  simp only [directedStep]
  (repeat' split) <;> simp


@[simp] theorem manualStep_frame (e : Env) (r : Rt) :
    (manualStep e r).1.ring.head = r.ring.head ∧ (manualStep e r).1.ring.field = r.ring.field ∧ (manualStep e
    r).1.ring.replies = r.ring.replies ∧ (manualStep e r).1.ring.crcFlag = r.ring.crcFlag ∧ (manualStep e
    r).1.mode.mode = r.mode.mode ∧ (manualStep e r).1.mode.sub = r.mode.sub ∧ (manualStep e
    r).1.mode.startValues = r.mode.startValues ∧ (manualStep e r).1.mode.phaseDue = r.mode.phaseDue ∧
    (manualStep e r).1.mode.source = r.mode.source ∧ (manualStep e r).1.mode.keep = r.mode.keep ∧ (manualStep e
    r).1.mode.latch = r.mode.latch ∧ (manualStep e r).1.mode.restartCause = r.mode.restartCause ∧ (manualStep e
    r).1.mode.ownerViolation = r.mode.ownerViolation ∧ (manualStep e r).1.lamp.failed = r.lamp.failed ∧
    (manualStep e r).1.lamp.brightness = r.lamp.brightness ∧ (manualStep e r).1.lamp.settlingDue =
    r.lamp.settlingDue ∧ (manualStep e r).1.lamp.sensorA = r.lamp.sensorA ∧ (manualStep e r).1.lamp.sensorB =
    r.lamp.sensorB ∧ (manualStep e r).1.lamp.selected = r.lamp.selected ∧ (manualStep e r).1.lamp.run =
    r.lamp.run ∧ (manualStep e r).1.stage.activePlan = r.stage.activePlan ∧ (manualStep e r).1.stage.taken =
    r.stage.taken ∧ (manualStep e r).1.stage.position = r.stage.position ∧ (manualStep e r).1.stage.pendingGo =
    r.stage.pendingGo ∧ (manualStep e r).1.stage.hold = r.stage.hold ∧ (manualStep e r).1.loops = r.loops ∧
    (manualStep e r).1.demand.active = r.demand.active ∧ (manualStep e r).1.priority.enable = r.priority.enable
    ∧ (manualStep e r).1.priority.extensionNoted = r.priority.extensionNoted ∧ (manualStep e r).1.report.record
    = r.report.record := by
  simp only [manualStep]
  (repeat' split) <;> simp


@[simp] theorem clearingAll_frame (e : Env) (r : Rt) :
    (clearingAll e r).ring.head = r.ring.head ∧ (clearingAll e r).ring.field = r.ring.field ∧ (clearingAll e
    r).ring.replies = r.ring.replies ∧ (clearingAll e r).ring.crcFlag = r.ring.crcFlag ∧ (clearingAll e
    r).mode.startValues = r.mode.startValues ∧ (clearingAll e r).mode.source = r.mode.source ∧ (clearingAll e
    r).mode.keep = r.mode.keep ∧ (clearingAll e r).mode.latch = r.mode.latch ∧ (clearingAll e
    r).mode.restartCause = r.mode.restartCause ∧ (clearingAll e r).mode.pendingStep = r.mode.pendingStep ∧
    (clearingAll e r).mode.ownerViolation = r.mode.ownerViolation ∧ (clearingAll e r).lamp.failed =
    r.lamp.failed ∧ (clearingAll e r).lamp.brightness = r.lamp.brightness ∧ (clearingAll e r).lamp.settlingDue =
    r.lamp.settlingDue ∧ (clearingAll e r).lamp.sensorA = r.lamp.sensorA ∧ (clearingAll e r).lamp.sensorB =
    r.lamp.sensorB ∧ (clearingAll e r).lamp.selected = r.lamp.selected ∧ (clearingAll e r).lamp.run = r.lamp.run
    ∧ (clearingAll e r).stage.activePlan = r.stage.activePlan ∧ (clearingAll e r).stage.taken = r.stage.taken ∧
    (clearingAll e r).priority.enable = r.priority.enable ∧ (clearingAll e r).priority.extensionNoted =
    r.priority.extensionNoted ∧ (clearingAll e r).priority.served = r.priority.served := by
  simp only [clearingAll]
  (repeat' split) <;> simp


@[simp] theorem shutdownAllRed_frame (e : Env) (r : Rt) :
    (shutdownAllRed e r).ring.head = r.ring.head ∧ (shutdownAllRed e r).ring.field = r.ring.field ∧
    (shutdownAllRed e r).ring.replies = r.ring.replies ∧ (shutdownAllRed e r).ring.crcFlag = r.ring.crcFlag ∧
    (shutdownAllRed e r).mode.startValues = r.mode.startValues ∧ (shutdownAllRed e r).mode.source =
    r.mode.source ∧ (shutdownAllRed e r).mode.keep = r.mode.keep ∧ (shutdownAllRed e r).mode.latch =
    r.mode.latch ∧ (shutdownAllRed e r).mode.restartCause = r.mode.restartCause ∧ (shutdownAllRed e
    r).mode.pendingStep = r.mode.pendingStep ∧ (shutdownAllRed e r).mode.ownerViolation = r.mode.ownerViolation
    ∧ (shutdownAllRed e r).lamp.confirms = r.lamp.confirms ∧ (shutdownAllRed e r).lamp.failed = r.lamp.failed ∧
    (shutdownAllRed e r).lamp.brightness = r.lamp.brightness ∧ (shutdownAllRed e r).lamp.settlingDue =
    r.lamp.settlingDue ∧ (shutdownAllRed e r).lamp.sensorA = r.lamp.sensorA ∧ (shutdownAllRed e r).lamp.sensorB
    = r.lamp.sensorB ∧ (shutdownAllRed e r).lamp.selected = r.lamp.selected ∧ (shutdownAllRed e r).lamp.run =
    r.lamp.run ∧ (shutdownAllRed e r).stage.activePlan = r.stage.activePlan ∧ (shutdownAllRed e r).stage.taken =
    r.stage.taken ∧ (shutdownAllRed e r).priority.enable = r.priority.enable ∧ (shutdownAllRed e
    r).priority.extensionNoted = r.priority.extensionNoted ∧ (shutdownAllRed e r).priority.served =
    r.priority.served := by
  simp only [shutdownAllRed]
  (repeat' split) <;> simp


@[simp] theorem stageEval_frame (e : Env) (r : Rt) :
    (stageEval e r).1.ring.head = r.ring.head ∧ (stageEval e r).1.ring.field = r.ring.field ∧ (stageEval e
    r).1.ring.replies = r.ring.replies ∧ (stageEval e r).1.ring.crcFlag = r.ring.crcFlag ∧ (stageEval e
    r).1.mode.startValues = r.mode.startValues ∧ (stageEval e r).1.mode.source = r.mode.source ∧ (stageEval e
    r).1.mode.keep = r.mode.keep ∧ (stageEval e r).1.mode.latch = r.mode.latch ∧ (stageEval e
    r).1.mode.restartCause = r.mode.restartCause ∧ (stageEval e r).1.mode.ownerViolation = r.mode.ownerViolation
    ∧ (stageEval e r).1.lamp.failed = r.lamp.failed ∧ (stageEval e r).1.lamp.brightness = r.lamp.brightness ∧
    (stageEval e r).1.lamp.settlingDue = r.lamp.settlingDue ∧ (stageEval e r).1.lamp.sensorA = r.lamp.sensorA ∧
    (stageEval e r).1.lamp.sensorB = r.lamp.sensorB ∧ (stageEval e r).1.lamp.selected = r.lamp.selected ∧
    (stageEval e r).1.lamp.run = r.lamp.run ∧ (stageEval e r).1.stage.activePlan = r.stage.activePlan ∧
    (stageEval e r).1.priority.enable = r.priority.enable := by
  simp only [stageEval]
  (repeat' split) <;> simp


/-- What is noted of gap-out changes the stage record alone (log entry 46). -/
@[simp] theorem noteGap_frame (e : Env) (r : Rt) :
    (noteGap e r).ring = r.ring ∧
    (noteGap e r).mode = r.mode ∧
    (noteGap e r).groups = r.groups ∧
    (noteGap e r).monitor = r.monitor ∧
    (noteGap e r).lamp = r.lamp ∧
    (noteGap e r).loops = r.loops ∧
    (noteGap e r).demand = r.demand ∧
    (noteGap e r).trams = r.trams ∧
    (noteGap e r).priority = r.priority ∧
    (noteGap e r).report = r.report ∧
    (noteGap e r).notices = r.notices ∧
    (noteGap e r).stage.phase = r.stage.phase ∧
    (noteGap e r).stage.activePlan = r.stage.activePlan ∧
    (noteGap e r).stage.taken = r.stage.taken ∧
    (noteGap e r).stage.position = r.stage.position ∧
    (noteGap e r).stage.pendingGo = r.stage.pendingGo ∧
    (noteGap e r).stage.hold = r.stage.hold ∧
    (noteGap e r).stage.inter = r.stage.inter ∧
    (noteGap e r).stage.greenEnds = r.stage.greenEnds := by
  simp only [noteGap]
  (repeat' split) <;> simp


@[simp] theorem settleFor_frame (e : Env) (n : Nat) (r : Rt) :
    (settleFor e n r).ring.head = r.ring.head ∧ (settleFor e n r).ring.field = r.ring.field ∧ (settleFor e n
    r).ring.replies = r.ring.replies ∧ (settleFor e n r).ring.crcFlag = r.ring.crcFlag ∧ (settleFor e n
    r).mode.startValues = r.mode.startValues ∧ (settleFor e n r).mode.source = r.mode.source ∧ (settleFor e n
    r).mode.keep = r.mode.keep ∧ (settleFor e n r).mode.latch = r.mode.latch ∧ (settleFor e n
    r).mode.restartCause = r.mode.restartCause ∧ (settleFor e n r).mode.ownerViolation = r.mode.ownerViolation ∧
    (settleFor e n r).lamp.failed = r.lamp.failed ∧ (settleFor e n r).lamp.brightness = r.lamp.brightness ∧
    (settleFor e n r).lamp.settlingDue = r.lamp.settlingDue ∧ (settleFor e n r).lamp.sensorA = r.lamp.sensorA ∧
    (settleFor e n r).lamp.sensorB = r.lamp.sensorB ∧ (settleFor e n r).lamp.selected = r.lamp.selected ∧
    (settleFor e n r).lamp.run = r.lamp.run ∧ (settleFor e n r).stage.activePlan = r.stage.activePlan ∧
    (settleFor e n r).priority.enable = r.priority.enable := by
  induction n generalizing r with
  | zero => simp [settleFor]
  | succ n ih =>
    have h := stageEval_frame e (maxGreenCheck e r)
    simp only [settleFor]
    split <;> rename_i heq <;> rw [heq] at h <;> simp at h <;> simp [ih, h]


@[simp] theorem finish_frame (e : Env) (r : Rt) :
    (finish e r).ring.head = r.ring.head ∧ (finish e r).ring.field = r.ring.field ∧ (finish e r).ring.replies =
    r.ring.replies ∧ (finish e r).ring.crcFlag = r.ring.crcFlag ∧ (finish e r).mode.startValues =
    r.mode.startValues ∧ (finish e r).mode.keep = r.mode.keep ∧ (finish e r).mode.restartCause =
    r.mode.restartCause ∧ (finish e r).mode.ownerViolation = r.mode.ownerViolation ∧ (finish e r).lamp.failed =
    r.lamp.failed ∧ (finish e r).lamp.brightness = r.lamp.brightness ∧ (finish e r).lamp.settlingDue =
    r.lamp.settlingDue ∧ (finish e r).lamp.sensorA = r.lamp.sensorA ∧ (finish e r).lamp.sensorB = r.lamp.sensorB
    ∧ (finish e r).lamp.selected = r.lamp.selected ∧ (finish e r).lamp.run = r.lamp.run ∧ (finish e
    r).stage.activePlan = r.stage.activePlan ∧ (finish e r).priority.enable = r.priority.enable := by
  simp [finish]


@[simp] theorem startupAllRed_frame (e : Env) (r : Rt) :
    (startupAllRed e r).ring.head = r.ring.head ∧ (startupAllRed e r).ring.field = r.ring.field ∧ (startupAllRed
    e r).ring.replies = r.ring.replies ∧ (startupAllRed e r).ring.crcFlag = r.ring.crcFlag ∧ (startupAllRed e
    r).mode.startValues = r.mode.startValues ∧ (startupAllRed e r).mode.source = r.mode.source ∧ (startupAllRed
    e r).mode.keep = r.mode.keep ∧ (startupAllRed e r).mode.latch = r.mode.latch ∧ (startupAllRed e
    r).mode.restartCause = r.mode.restartCause ∧ (startupAllRed e r).mode.pendingStep = r.mode.pendingStep ∧
    (startupAllRed e r).mode.ownerViolation = r.mode.ownerViolation ∧ (startupAllRed e r).lamp.confirms =
    r.lamp.confirms ∧ (startupAllRed e r).lamp.failed = r.lamp.failed ∧ (startupAllRed e r).lamp.brightness =
    r.lamp.brightness ∧ (startupAllRed e r).lamp.settlingDue = r.lamp.settlingDue ∧ (startupAllRed e
    r).lamp.sensorA = r.lamp.sensorA ∧ (startupAllRed e r).lamp.sensorB = r.lamp.sensorB ∧ (startupAllRed e
    r).lamp.selected = r.lamp.selected ∧ (startupAllRed e r).lamp.run = r.lamp.run ∧ (startupAllRed e
    r).stage.activePlan = r.stage.activePlan ∧ (startupAllRed e r).stage.taken = r.stage.taken ∧ (startupAllRed
    e r).priority.enable = r.priority.enable ∧ (startupAllRed e r).priority.extensionNoted =
    r.priority.extensionNoted ∧ (startupAllRed e r).priority.served = r.priority.served := by
  simp only [startupAllRed]
  (repeat' split) <;> simp


@[simp] theorem firstStart_frame (e : Env) (r : Rt) :
    (firstStart e r).ring.head = r.ring.head ∧ (firstStart e r).ring.field = r.ring.field ∧ (firstStart e
    r).ring.replies = r.ring.replies ∧ (firstStart e r).ring.crcFlag = r.ring.crcFlag ∧ (firstStart e
    r).mode.startValues = r.mode.startValues ∧ (firstStart e r).mode.source = r.mode.source ∧ (firstStart e
    r).mode.keep = r.mode.keep ∧ (firstStart e r).mode.latch = r.mode.latch ∧ (firstStart e r).mode.restartCause
    = r.mode.restartCause ∧ (firstStart e r).mode.pendingStep = r.mode.pendingStep ∧ (firstStart e
    r).mode.ownerViolation = r.mode.ownerViolation ∧ (firstStart e r).lamp.confirms = r.lamp.confirms ∧
    (firstStart e r).lamp.failed = r.lamp.failed ∧ (firstStart e r).lamp.brightness = r.lamp.brightness ∧
    (firstStart e r).lamp.settlingDue = r.lamp.settlingDue ∧ (firstStart e r).lamp.sensorA = r.lamp.sensorA ∧
    (firstStart e r).lamp.sensorB = r.lamp.sensorB ∧ (firstStart e r).lamp.selected = r.lamp.selected ∧
    (firstStart e r).lamp.run = r.lamp.run ∧ (firstStart e r).stage.activePlan = r.stage.activePlan ∧
    (firstStart e r).stage.taken = r.stage.taken ∧ (firstStart e r).priority.enable = r.priority.enable ∧
    (firstStart e r).priority.extensionNoted = r.priority.extensionNoted ∧ (firstStart e r).priority.served =
    r.priority.served := by
  simp only [firstStart]
  (repeat' split) <;> simp


@[simp] theorem enterShutdown_frame (e : Env) (r : Rt) :
    (enterShutdown e r).ring.head = r.ring.head ∧ (enterShutdown e r).ring.field = r.ring.field ∧ (enterShutdown
    e r).ring.replies = r.ring.replies ∧ (enterShutdown e r).ring.crcFlag = r.ring.crcFlag ∧ (enterShutdown e
    r).mode.startValues = r.mode.startValues ∧ (enterShutdown e r).mode.keep = r.mode.keep ∧ (enterShutdown e
    r).mode.latch = r.mode.latch ∧ (enterShutdown e r).mode.restartCause = r.mode.restartCause ∧ (enterShutdown
    e r).mode.ownerViolation = r.mode.ownerViolation ∧ (enterShutdown e r).groups = r.groups ∧ (enterShutdown e
    r).lamp.confirms = r.lamp.confirms ∧ (enterShutdown e r).lamp.failed = r.lamp.failed ∧ (enterShutdown e
    r).lamp.brightness = r.lamp.brightness ∧ (enterShutdown e r).lamp.settlingDue = r.lamp.settlingDue ∧
    (enterShutdown e r).lamp.sensorA = r.lamp.sensorA ∧ (enterShutdown e r).lamp.sensorB = r.lamp.sensorB ∧
    (enterShutdown e r).lamp.selected = r.lamp.selected ∧ (enterShutdown e r).lamp.run = r.lamp.run ∧
    (enterShutdown e r).stage.activePlan = r.stage.activePlan ∧ (enterShutdown e r).stage.taken = r.stage.taken
    ∧ (enterShutdown e r).priority.enable = r.priority.enable ∧ (enterShutdown e r).priority.extensionNoted =
    r.priority.extensionNoted ∧ (enterShutdown e r).priority.served = r.priority.served := by
  simp [enterShutdown]


@[simp] theorem minEndRun_frame (e : Env) (r : Rt) :
    (minEndRun e r).ring = r.ring ∧ (minEndRun e r).mode = r.mode ∧ (minEndRun e r).groups = r.groups ∧
    (minEndRun e r).monitor = r.monitor ∧ (minEndRun e r).lamp = r.lamp ∧ (minEndRun e r).stage.activePlan =
    r.stage.activePlan ∧ (minEndRun e r).stage.taken = r.stage.taken ∧ (minEndRun e r).stage.position =
    r.stage.position ∧ (minEndRun e r).stage.current = r.stage.current ∧ (minEndRun e r).stage.pendingGo =
    r.stage.pendingGo ∧ (minEndRun e r).stage.hold = r.stage.hold ∧ (minEndRun e r).stage.inter = r.stage.inter
    ∧ (minEndRun e r).stage.greenEnds = r.stage.greenEnds ∧ (minEndRun e r).loops = r.loops ∧ (minEndRun e
    r).demand = r.demand ∧ (minEndRun e r).trams = r.trams ∧ (minEndRun e r).priority = r.priority ∧ (minEndRun
    e r).report = r.report ∧ (minEndRun e r).notices = r.notices := by
  simp only [minEndRun]
  (repeat' split) <;> simp


@[simp] theorem slotConfirm_frame (e : Env) (addr : Byte) (pl : List Byte) (s : Slot) (r : Rt) :
    (slotConfirm e addr pl s r).ring.head = r.ring.head ∧ (slotConfirm e addr pl s r).ring.field = r.ring.field
    ∧ (slotConfirm e addr pl s r).ring.replies = r.ring.replies ∧ (slotConfirm e addr pl s r).ring.crcFlag =
    r.ring.crcFlag ∧ (slotConfirm e addr pl s r).mode = r.mode ∧ (slotConfirm e addr pl s r).lamp.failed =
    r.lamp.failed ∧ (slotConfirm e addr pl s r).lamp.brightness = r.lamp.brightness ∧ (slotConfirm e addr pl s
    r).lamp.settlingDue = r.lamp.settlingDue ∧ (slotConfirm e addr pl s r).lamp.sensorA = r.lamp.sensorA ∧
    (slotConfirm e addr pl s r).lamp.sensorB = r.lamp.sensorB ∧ (slotConfirm e addr pl s r).lamp.selected =
    r.lamp.selected ∧ (slotConfirm e addr pl s r).lamp.run = r.lamp.run ∧ (slotConfirm e addr pl s
    r).stage.phase = r.stage.phase ∧ (slotConfirm e addr pl s r).stage.activePlan = r.stage.activePlan ∧
    (slotConfirm e addr pl s r).stage.taken = r.stage.taken ∧ (slotConfirm e addr pl s r).stage.position =
    r.stage.position ∧ (slotConfirm e addr pl s r).stage.current = r.stage.current ∧ (slotConfirm e addr pl s
    r).stage.pendingGo = r.stage.pendingGo ∧ (slotConfirm e addr pl s r).stage.hold = r.stage.hold ∧
    (slotConfirm e addr pl s r).loops = r.loops ∧ (slotConfirm e addr pl s r).demand.active = r.demand.active ∧
    (slotConfirm e addr pl s r).priority.enable = r.priority.enable ∧ (slotConfirm e addr pl s
    r).priority.lockoutDue = r.priority.lockoutDue ∧ (slotConfirm e addr pl s r).priority.extensionNoted =
    r.priority.extensionNoted ∧ (slotConfirm e addr pl s r).priority.served = r.priority.served ∧ (slotConfirm e
    addr pl s r).report.record = r.report.record := by
  simp only [slotConfirm]
  (repeat' split) <;> simp

@[simp] theorem foldl_slotConfirm_frame {α : Type} (e : Env) (addr : Byte) (pl : List Byte) (f : α → Slot) (l : List α) (r : Rt) :
    (l.foldl (fun r x => slotConfirm e addr pl (f x) r) r).ring.head = r.ring.head ∧ (l.foldl (fun r x =>
    slotConfirm e addr pl (f x) r) r).ring.field = r.ring.field ∧ (l.foldl (fun r x => slotConfirm e addr pl (f
    x) r) r).ring.replies = r.ring.replies ∧ (l.foldl (fun r x => slotConfirm e addr pl (f x) r) r).ring.crcFlag
    = r.ring.crcFlag ∧ (l.foldl (fun r x => slotConfirm e addr pl (f x) r) r).mode = r.mode ∧ (l.foldl (fun r x
    => slotConfirm e addr pl (f x) r) r).lamp.failed = r.lamp.failed ∧ (l.foldl (fun r x => slotConfirm e addr
    pl (f x) r) r).lamp.brightness = r.lamp.brightness ∧ (l.foldl (fun r x => slotConfirm e addr pl (f x) r)
    r).lamp.settlingDue = r.lamp.settlingDue ∧ (l.foldl (fun r x => slotConfirm e addr pl (f x) r)
    r).lamp.sensorA = r.lamp.sensorA ∧ (l.foldl (fun r x => slotConfirm e addr pl (f x) r) r).lamp.sensorB =
    r.lamp.sensorB ∧ (l.foldl (fun r x => slotConfirm e addr pl (f x) r) r).lamp.selected = r.lamp.selected ∧
    (l.foldl (fun r x => slotConfirm e addr pl (f x) r) r).lamp.run = r.lamp.run ∧ (l.foldl (fun r x =>
    slotConfirm e addr pl (f x) r) r).stage.phase = r.stage.phase ∧ (l.foldl (fun r x => slotConfirm e addr pl
    (f x) r) r).stage.activePlan = r.stage.activePlan ∧ (l.foldl (fun r x => slotConfirm e addr pl (f x) r)
    r).stage.taken = r.stage.taken ∧ (l.foldl (fun r x => slotConfirm e addr pl (f x) r) r).stage.position =
    r.stage.position ∧ (l.foldl (fun r x => slotConfirm e addr pl (f x) r) r).stage.current = r.stage.current ∧
    (l.foldl (fun r x => slotConfirm e addr pl (f x) r) r).stage.pendingGo = r.stage.pendingGo ∧ (l.foldl (fun r
    x => slotConfirm e addr pl (f x) r) r).stage.hold = r.stage.hold ∧ (l.foldl (fun r x => slotConfirm e addr
    pl (f x) r) r).loops = r.loops ∧ (l.foldl (fun r x => slotConfirm e addr pl (f x) r) r).demand.active =
    r.demand.active ∧ (l.foldl (fun r x => slotConfirm e addr pl (f x) r) r).priority.enable = r.priority.enable
    ∧ (l.foldl (fun r x => slotConfirm e addr pl (f x) r) r).priority.lockoutDue = r.priority.lockoutDue ∧
    (l.foldl (fun r x => slotConfirm e addr pl (f x) r) r).priority.extensionNoted = r.priority.extensionNoted ∧
    (l.foldl (fun r x => slotConfirm e addr pl (f x) r) r).priority.served = r.priority.served ∧ (l.foldl (fun r
    x => slotConfirm e addr pl (f x) r) r).report.record = r.report.record := by
  refine foldl_inv (fun x => x.ring.head = r.ring.head ∧ x.ring.field = r.ring.field ∧ x.ring.replies = r.ring.replies ∧ x.ring.crcFlag = r.ring.crcFlag ∧ x.mode = r.mode ∧ x.lamp.failed = r.lamp.failed ∧ x.lamp.brightness = r.lamp.brightness ∧ x.lamp.settlingDue = r.lamp.settlingDue ∧ x.lamp.sensorA = r.lamp.sensorA ∧ x.lamp.sensorB = r.lamp.sensorB ∧ x.lamp.selected = r.lamp.selected ∧ x.lamp.run = r.lamp.run ∧ x.stage.phase = r.stage.phase ∧ x.stage.activePlan = r.stage.activePlan ∧ x.stage.taken = r.stage.taken ∧ x.stage.position = r.stage.position ∧ x.stage.current = r.stage.current ∧ x.stage.pendingGo = r.stage.pendingGo ∧ x.stage.hold = r.stage.hold ∧ x.loops = r.loops ∧ x.demand.active = r.demand.active ∧ x.priority.enable = r.priority.enable ∧ x.priority.lockoutDue = r.priority.lockoutDue ∧ x.priority.extensionNoted = r.priority.extensionNoted ∧ x.priority.served = r.priority.served ∧ x.report.record = r.report.record) _ (fun x a hx => ?_) _ _ ?_
  · simp_all
  · simp


@[simp] theorem takeLampStatus_frame (e : Env) (addr : Byte) (pl : List Byte) (r : Rt) :
    (takeLampStatus e addr pl r).ring.head = r.ring.head ∧ (takeLampStatus e addr pl r).ring.field =
    r.ring.field ∧ (takeLampStatus e addr pl r).ring.replies = r.ring.replies ∧ (takeLampStatus e addr pl
    r).ring.crcFlag = r.ring.crcFlag ∧ (takeLampStatus e addr pl r).mode = r.mode ∧ (takeLampStatus e addr pl
    r).lamp.brightness = r.lamp.brightness ∧ (takeLampStatus e addr pl r).lamp.settlingDue = r.lamp.settlingDue
    ∧ (takeLampStatus e addr pl r).lamp.sensorA = r.lamp.sensorA ∧ (takeLampStatus e addr pl r).lamp.sensorB =
    r.lamp.sensorB ∧ (takeLampStatus e addr pl r).lamp.selected = r.lamp.selected ∧ (takeLampStatus e addr pl
    r).lamp.run = r.lamp.run ∧ (takeLampStatus e addr pl r).stage.phase = r.stage.phase ∧ (takeLampStatus e addr
    pl r).stage.activePlan = r.stage.activePlan ∧ (takeLampStatus e addr pl r).stage.taken = r.stage.taken ∧
    (takeLampStatus e addr pl r).stage.position = r.stage.position ∧ (takeLampStatus e addr pl r).stage.current
    = r.stage.current ∧ (takeLampStatus e addr pl r).stage.pendingGo = r.stage.pendingGo ∧ (takeLampStatus e
    addr pl r).stage.hold = r.stage.hold ∧ (takeLampStatus e addr pl r).loops = r.loops ∧ (takeLampStatus e addr
    pl r).demand.active = r.demand.active ∧ (takeLampStatus e addr pl r).priority.enable = r.priority.enable ∧
    (takeLampStatus e addr pl r).priority.lockoutDue = r.priority.lockoutDue ∧ (takeLampStatus e addr pl
    r).priority.extensionNoted = r.priority.extensionNoted ∧ (takeLampStatus e addr pl r).priority.served =
    r.priority.served := by
  simp only [takeLampStatus]
  split
  · simp
  · have h1 := foldl_slotConfirm_frame e addr pl id
    have h2 := fun s => foldl_slotOutputs_frame e addr s pl id
    simp only [id] at h1 h2
    simp [h1, h2]


end Sys2Proof.Machine
end

