-- ==== Sys2Proof/Laws/Commands.lean ====
section
/-! SUPPORT. Frame lemmas of the Ring Interface's operations, of the dimming operations and of the changes that single commands make. -/

namespace Sys2Proof.Machine

/-! ### The Lamp Interface's dimming operations -/

@[simp] theorem reselect_frame (x : LampUnit) :
    (reselect x).modules = x.modules ∧ (reselect x).confirms = x.confirms ∧ (reselect x).failed = x.failed ∧
    (reselect x).brightness = x.brightness ∧ (reselect x).settlingDue = x.settlingDue ∧
    (reselect x).sensorA = x.sensorA ∧ (reselect x).sensorB = x.sensorB := by
  simp only [reselect]
  split <;> simp

@[simp] theorem qualify_frame (e : Env) (v : Nat) (x : LampUnit) :
    (qualify e v x).modules = x.modules ∧ (qualify e v x).confirms = x.confirms ∧ (qualify e v x).failed = x.failed ∧
    (qualify e v x).brightness = x.brightness ∧ (qualify e v x).settlingDue = x.settlingDue ∧
    (qualify e v x).sensorA = x.sensorA ∧ (qualify e v x).sensorB = x.sensorB ∧
    (qualify e v x).selected = x.selected := by
  cases h : x.brightness <;> simp only [qualify, h] <;> (repeat' split) <;> simp [h]

@[simp] theorem sensorRead_frame (e : Env) (y : Sensor) (v : Nat) (x : LampUnit) :
    (sensorRead e y v x).modules = x.modules ∧ (sensorRead e y v x).confirms = x.confirms ∧
    (sensorRead e y v x).failed = x.failed ∧ (sensorRead e y v x).brightness = x.brightness ∧
    (sensorRead e y v x).settlingDue = x.settlingDue := by
  cases y <;> simp only [sensorRead] <;> split <;> simp

@[simp] theorem sensorStale_frame (e : Env) (y : Sensor) (x : LampUnit) :
    (sensorStale e y x).modules = x.modules ∧ (sensorStale e y x).confirms = x.confirms ∧
    (sensorStale e y x).failed = x.failed ∧ (sensorStale e y x).brightness = x.brightness ∧
    (sensorStale e y x).settlingDue = x.settlingDue := by
  cases y <;> simp only [sensorStale] <;> split <;> simp

@[simp] theorem settingsStored_frame (a b : Settings) (x : LampUnit) :
    (settingsStored a b x).modules = x.modules ∧ (settingsStored a b x).confirms = x.confirms ∧
    (settingsStored a b x).failed = x.failed ∧ (settingsStored a b x).brightness = x.brightness ∧
    (settingsStored a b x).settlingDue = x.settlingDue := by
  simp only [settingsStored]
  (repeat' split) <;> simp

/-! ### Commands -/

@[simp] theorem postLink_frame (e : Env) (p : Port) (up : Bool) (r : Rt) :
    (postLink e p up r).ring = r.ring ∧ (postLink e p up r).mode = r.mode ∧ (postLink e p up r).groups =
    r.groups ∧ (postLink e p up r).monitor = r.monitor ∧ (postLink e p up r).lamp = r.lamp ∧ (postLink e p up
    r).stage = r.stage ∧ (postLink e p up r).loops = r.loops ∧ (postLink e p up r).demand = r.demand ∧ (postLink
    e p up r).trams = r.trams ∧ (postLink e p up r).priority = r.priority ∧ (postLink e p up r).report.record =
    r.report.record ∧ (postLink e p up r).notices = r.notices := by
  simp [postLink]


@[simp] theorem linkUp_frame (e : Env) (p : Port) (r : Rt) :
    (linkUp e p r).ring.replies = r.ring.replies ∧ (linkUp e p r).ring.aspects = r.ring.aspects ∧ (linkUp e p
    r).ring.aux = r.ring.aux ∧ (linkUp e p r).ring.crcFlag = r.ring.crcFlag ∧ (linkUp e p r).mode = r.mode ∧
    (linkUp e p r).groups = r.groups ∧ (linkUp e p r).monitor = r.monitor ∧ (linkUp e p r).lamp = r.lamp ∧
    (linkUp e p r).stage = r.stage ∧ (linkUp e p r).loops = r.loops ∧ (linkUp e p r).demand = r.demand ∧ (linkUp
    e p r).trams = r.trams ∧ (linkUp e p r).priority = r.priority ∧ (linkUp e p r).report.record =
    r.report.record ∧ (linkUp e p r).notices = r.notices := by
  simp only [linkUp]
  (repeat' split) <;> simp


@[simp] theorem linkDown_frame (e : Env) (p : Port) (r : Rt) :
    (linkDown e p r).ring.replies = r.ring.replies ∧ (linkDown e p r).ring.aspects = r.ring.aspects ∧ (linkDown
    e p r).ring.aux = r.ring.aux ∧ (linkDown e p r).ring.crcFlag = r.ring.crcFlag ∧ (linkDown e p r).mode =
    r.mode ∧ (linkDown e p r).groups = r.groups ∧ (linkDown e p r).monitor = r.monitor ∧ (linkDown e p r).lamp =
    r.lamp ∧ (linkDown e p r).stage = r.stage ∧ (linkDown e p r).loops = r.loops ∧ (linkDown e p r).demand =
    r.demand ∧ (linkDown e p r).trams = r.trams ∧ (linkDown e p r).priority = r.priority ∧ (linkDown e p
    r).report.record = r.report.record ∧ (linkDown e p r).notices = r.notices := by
  simp only [linkDown]
  (repeat' split) <;> simp


@[simp] theorem ageDiscard_frame (e : Env) (p : Port) (r : Rt) :
    (ageDiscard e p r).ring.replies = r.ring.replies ∧ (ageDiscard e p r).ring.aspects = r.ring.aspects ∧
    (ageDiscard e p r).ring.aux = r.ring.aux ∧ (ageDiscard e p r).ring.crcFlag = r.ring.crcFlag ∧ (ageDiscard e
    p r).mode = r.mode ∧ (ageDiscard e p r).groups = r.groups ∧ (ageDiscard e p r).monitor = r.monitor ∧
    (ageDiscard e p r).lamp = r.lamp ∧ (ageDiscard e p r).stage = r.stage ∧ (ageDiscard e p r).loops = r.loops ∧
    (ageDiscard e p r).demand = r.demand ∧ (ageDiscard e p r).trams = r.trams ∧ (ageDiscard e p r).priority =
    r.priority ∧ (ageDiscard e p r).report = r.report ∧ (ageDiscard e p r).notices = r.notices := by
  simp only [ageDiscard]
  (repeat' split) <;> simp


@[simp] theorem sendForward_frame (p : Port) (r : Rt) :
    (sendForward p r).ring.replies = r.ring.replies ∧ (sendForward p r).ring.aspects = r.ring.aspects ∧
    (sendForward p r).ring.aux = r.ring.aux ∧ (sendForward p r).ring.crcFlag = r.ring.crcFlag ∧ (sendForward p
    r).mode = r.mode ∧ (sendForward p r).groups = r.groups ∧ (sendForward p r).monitor = r.monitor ∧
    (sendForward p r).lamp = r.lamp ∧ (sendForward p r).stage = r.stage ∧ (sendForward p r).loops = r.loops ∧
    (sendForward p r).demand = r.demand ∧ (sendForward p r).trams = r.trams ∧ (sendForward p r).priority =
    r.priority ∧ (sendForward p r).report = r.report ∧ (sendForward p r).notices = r.notices := by
  simp only [sendForward]
  (repeat' split) <;> simp


@[simp] theorem sendReport_frame (e : Env) (r : Rt) :
    (sendReport e r).ring.field = r.ring.field ∧ (sendReport e r).ring.replies = r.ring.replies ∧ (sendReport e
    r).ring.aspects = r.ring.aspects ∧ (sendReport e r).ring.aux = r.ring.aux ∧ (sendReport e r).ring.crcFlag =
    r.ring.crcFlag ∧ (sendReport e r).mode = r.mode ∧ (sendReport e r).groups = r.groups ∧ (sendReport e
    r).monitor = r.monitor ∧ (sendReport e r).lamp = r.lamp ∧ (sendReport e r).stage = r.stage ∧ (sendReport e
    r).loops = r.loops ∧ (sendReport e r).demand = r.demand ∧ (sendReport e r).trams = r.trams ∧ (sendReport e
    r).priority = r.priority ∧ (sendReport e r).report.summary = r.report.summary ∧ (sendReport e
    r).report.record = r.report.record ∧ (sendReport e r).notices = r.notices := by
  simp [sendReport]


@[simp] theorem headGrant_frame (e : Env) (r : Rt) :
    (headGrant e r).ring.aspects = r.ring.aspects ∧ (headGrant e r).ring.aux = r.ring.aux ∧ (headGrant e
    r).ring.crcFlag = r.ring.crcFlag ∧ (headGrant e r).mode = r.mode ∧ (headGrant e r).groups = r.groups ∧
    (headGrant e r).monitor = r.monitor ∧ (headGrant e r).lamp = r.lamp ∧ (headGrant e r).stage = r.stage ∧
    (headGrant e r).loops = r.loops ∧ (headGrant e r).demand = r.demand ∧ (headGrant e r).trams = r.trams ∧
    (headGrant e r).priority = r.priority ∧ (headGrant e r).report.summary = r.report.summary ∧ (headGrant e
    r).report.record = r.report.record ∧ (headGrant e r).notices = r.notices := by
  simp only [headGrant]
  (repeat' split) <;> simp


@[simp] theorem fieldGrant_frame (r : Rt) :
    (fieldGrant r).ring.replies = r.ring.replies ∧ (fieldGrant r).ring.crcFlag = r.ring.crcFlag ∧ (fieldGrant
    r).mode = r.mode ∧ (fieldGrant r).groups = r.groups ∧ (fieldGrant r).monitor = r.monitor ∧ (fieldGrant
    r).lamp = r.lamp ∧ (fieldGrant r).stage = r.stage ∧ (fieldGrant r).loops = r.loops ∧ (fieldGrant r).demand =
    r.demand ∧ (fieldGrant r).trams = r.trams ∧ (fieldGrant r).priority = r.priority ∧ (fieldGrant r).report =
    r.report ∧ (fieldGrant r).notices = r.notices := by
  simp only [fieldGrant]
  (repeat' split) <;> simp


@[simp] theorem postRefused_frame (e : Env) (f : Frame) (code : Nat) (r : Rt) :
    (postRefused e f code r).ring = r.ring ∧ (postRefused e f code r).mode = r.mode ∧ (postRefused e f code
    r).groups = r.groups ∧ (postRefused e f code r).monitor = r.monitor ∧ (postRefused e f code r).lamp = r.lamp
    ∧ (postRefused e f code r).stage = r.stage ∧ (postRefused e f code r).loops = r.loops ∧ (postRefused e f
    code r).demand = r.demand ∧ (postRefused e f code r).trams = r.trams ∧ (postRefused e f code r).priority =
    r.priority ∧ (postRefused e f code r).report.record = r.report.record ∧ (postRefused e f code r).notices =
    r.notices := by
  simp [postRefused]


@[simp] theorem answer_frame (e : Env) (f : Frame) (x : Result) (r : Rt) :
    (answer e f x r).ring.head = r.ring.head ∧ (answer e f x r).ring.field = r.ring.field ∧ (answer e f x
    r).ring.aspects = r.ring.aspects ∧ (answer e f x r).ring.aux = r.ring.aux ∧ (answer e f x r).ring.crcFlag =
    r.ring.crcFlag ∧ (answer e f x r).mode = r.mode ∧ (answer e f x r).groups = r.groups ∧ (answer e f x
    r).monitor = r.monitor ∧ (answer e f x r).lamp = r.lamp ∧ (answer e f x r).stage = r.stage ∧ (answer e f x
    r).loops = r.loops ∧ (answer e f x r).demand = r.demand ∧ (answer e f x r).trams = r.trams ∧ (answer e f x
    r).priority = r.priority ∧ (answer e f x r).report.record = r.report.record ∧ (answer e f x r).notices =
    r.notices := by
  simp only [answer]
  (repeat' split) <;> simp


@[simp] theorem startUp_frame (e : Env) (p : PlanEntry) (r : Rt) :
    (startUp e p r).ring.head = r.ring.head ∧ (startUp e p r).ring.field = r.ring.field ∧ (startUp e p
    r).ring.replies = r.ring.replies ∧ (startUp e p r).ring.crcFlag = r.ring.crcFlag ∧ (startUp e p r).mode.keep
    = r.mode.keep ∧ (startUp e p r).mode.restartCause = r.mode.restartCause ∧ (startUp e p
    r).mode.ownerViolation = r.mode.ownerViolation ∧ (startUp e p r).lamp.failed = r.lamp.failed ∧ (startUp e p
    r).lamp.brightness = r.lamp.brightness ∧ (startUp e p r).lamp.settlingDue = r.lamp.settlingDue ∧ (startUp e
    p r).lamp.sensorA = r.lamp.sensorA ∧ (startUp e p r).lamp.sensorB = r.lamp.sensorB ∧ (startUp e p
    r).lamp.selected = r.lamp.selected ∧ (startUp e p r).lamp.run = r.lamp.run ∧ (startUp e p
    r).stage.activePlan = r.stage.activePlan ∧ (startUp e p r).stage.taken = r.stage.taken ∧ (startUp e p
    r).priority.enable = r.priority.enable ∧ (startUp e p r).priority.extensionNoted = r.priority.extensionNoted
    ∧ (startUp e p r).priority.served = r.priority.served := by
  simp only [startUp]
  (repeat' split) <;> simp


@[simp] theorem restartRing_frame (r : Rt) :
    (restartRing r).ring.crcFlag = r.ring.crcFlag ∧ (restartRing r).mode = r.mode ∧ (restartRing r).groups =
    r.groups ∧ (restartRing r).monitor = r.monitor ∧ (restartRing r).lamp = r.lamp ∧ (restartRing r).stage =
    r.stage ∧ (restartRing r).loops = r.loops ∧ (restartRing r).demand = r.demand ∧ (restartRing r).trams =
    r.trams ∧ (restartRing r).priority = r.priority ∧ (restartRing r).report = r.report ∧ (restartRing
    r).notices = r.notices := by
  simp [restartRing]


@[simp] theorem restartMode_frame (e : Env) (mode : Mode) (r : Rt) :
    (restartMode e mode r).ring = r.ring ∧ (restartMode e mode r).mode.latch = r.mode.latch ∧ (restartMode e
    mode r).mode.ownerViolation = r.mode.ownerViolation ∧ (restartMode e mode r).groups = r.groups ∧
    (restartMode e mode r).monitor = r.monitor ∧ (restartMode e mode r).lamp = r.lamp ∧ (restartMode e mode
    r).stage = r.stage ∧ (restartMode e mode r).loops = r.loops ∧ (restartMode e mode r).demand = r.demand ∧
    (restartMode e mode r).trams = r.trams ∧ (restartMode e mode r).priority.queue = r.priority.queue ∧
    (restartMode e mode r).priority.enable = r.priority.enable ∧ (restartMode e mode r).priority.lockoutDue =
    r.priority.lockoutDue ∧ (restartMode e mode r).priority.extensionNoted = r.priority.extensionNoted ∧
    (restartMode e mode r).priority.served = r.priority.served ∧ (restartMode e mode r).report.record =
    r.report.record ∧ (restartMode e mode r).notices = r.notices := by
  simp [restartMode]


@[simp] theorem restartTrams_frame (r : Rt) :
    (restartTrams r).ring = r.ring ∧ (restartTrams r).mode = r.mode ∧ (restartTrams r).groups = r.groups ∧
    (restartTrams r).monitor = r.monitor ∧ (restartTrams r).lamp = r.lamp ∧ (restartTrams r).stage = r.stage ∧
    (restartTrams r).loops = r.loops ∧ (restartTrams r).demand = r.demand ∧ (restartTrams r).priority.enable =
    r.priority.enable ∧ (restartTrams r).priority.served = r.priority.served ∧ (restartTrams r).report =
    r.report ∧ (restartTrams r).notices = r.notices := by
  simp [restartTrams]


@[simp] theorem softSet_frame (g : Group) (on : Bool) (r : Rt) :
    (softSet g on r).ring = r.ring ∧ (softSet g on r).mode = r.mode ∧ (softSet g on r).groups = r.groups ∧
    (softSet g on r).monitor = r.monitor ∧ (softSet g on r).lamp = r.lamp ∧ (softSet g on r).stage = r.stage ∧
    (softSet g on r).loops = r.loops ∧ (softSet g on r).demand.active = r.demand.active ∧ (softSet g on
    r).demand.assigns = r.demand.assigns ∧ (softSet g on r).trams = r.trams ∧ (softSet g on r).priority =
    r.priority ∧ (softSet g on r).report = r.report ∧ (softSet g on r).notices = r.notices := by
  simp only [softSet]
  (repeat' split) <;> simp


@[simp] theorem setEnable_frame (e : Env) (on : Bool) (r : Rt) :
    (setEnable e on r).ring = r.ring ∧ (setEnable e on r).mode = r.mode ∧ (setEnable e on r).groups = r.groups ∧
    (setEnable e on r).monitor = r.monitor ∧ (setEnable e on r).lamp = r.lamp ∧ (setEnable e on r).stage =
    r.stage ∧ (setEnable e on r).loops = r.loops ∧ (setEnable e on r).demand = r.demand ∧ (setEnable e on
    r).trams = r.trams ∧ (setEnable e on r).priority.lockoutDue = r.priority.lockoutDue ∧ (setEnable e on
    r).priority.extensionNoted = r.priority.extensionNoted ∧ (setEnable e on r).priority.served =
    r.priority.served ∧ (setEnable e on r).report = r.report ∧ (setEnable e on r).notices = r.notices := by
  simp only [setEnable]
  (repeat' split) <;> simp


@[simp] theorem flashKeyRun_frame (e : Env) (r : Rt) :
    (flashKeyRun e r).ring.head = r.ring.head ∧ (flashKeyRun e r).ring.field = r.ring.field ∧ (flashKeyRun e
    r).ring.replies = r.ring.replies ∧ (flashKeyRun e r).ring.crcFlag = r.ring.crcFlag ∧ (flashKeyRun e
    r).mode.startValues = r.mode.startValues ∧ (flashKeyRun e r).mode.keep = r.mode.keep ∧ (flashKeyRun e
    r).mode.latch = r.mode.latch ∧ (flashKeyRun e r).mode.restartCause = r.mode.restartCause ∧ (flashKeyRun e
    r).mode.ownerViolation = r.mode.ownerViolation ∧ (flashKeyRun e r).groups = r.groups ∧ (flashKeyRun e
    r).lamp.confirms = r.lamp.confirms ∧ (flashKeyRun e r).lamp.failed = r.lamp.failed ∧ (flashKeyRun e
    r).lamp.brightness = r.lamp.brightness ∧ (flashKeyRun e r).lamp.settlingDue = r.lamp.settlingDue ∧
    (flashKeyRun e r).lamp.sensorA = r.lamp.sensorA ∧ (flashKeyRun e r).lamp.sensorB = r.lamp.sensorB ∧
    (flashKeyRun e r).lamp.selected = r.lamp.selected ∧ (flashKeyRun e r).lamp.run = r.lamp.run ∧ (flashKeyRun e
    r).stage.activePlan = r.stage.activePlan ∧ (flashKeyRun e r).stage.taken = r.stage.taken ∧ (flashKeyRun e
    r).priority.enable = r.priority.enable ∧ (flashKeyRun e r).priority.extensionNoted =
    r.priority.extensionNoted ∧ (flashKeyRun e r).priority.served = r.priority.served := by
  simp only [flashKeyRun]
  (repeat' split) <;> simp


@[simp] theorem manualOnRun_frame (e : Env) (r : Rt) :
    (manualOnRun e r).ring = r.ring ∧ (manualOnRun e r).mode.mode = r.mode.mode ∧ (manualOnRun e r).mode.sub =
    r.mode.sub ∧ (manualOnRun e r).mode.startValues = r.mode.startValues ∧ (manualOnRun e r).mode.phaseDue =
    r.mode.phaseDue ∧ (manualOnRun e r).mode.keep = r.mode.keep ∧ (manualOnRun e r).mode.latch = r.mode.latch ∧
    (manualOnRun e r).mode.restartCause = r.mode.restartCause ∧ (manualOnRun e r).mode.pendingStep =
    r.mode.pendingStep ∧ (manualOnRun e r).mode.ownerViolation = r.mode.ownerViolation ∧ (manualOnRun e
    r).groups = r.groups ∧ (manualOnRun e r).monitor = r.monitor ∧ (manualOnRun e r).lamp = r.lamp ∧
    (manualOnRun e r).stage.phase = r.stage.phase ∧ (manualOnRun e r).stage.activePlan = r.stage.activePlan ∧
    (manualOnRun e r).stage.taken = r.stage.taken ∧ (manualOnRun e r).stage.position = r.stage.position ∧
    (manualOnRun e r).stage.current = r.stage.current ∧ (manualOnRun e r).stage.inter = r.stage.inter ∧
    (manualOnRun e r).stage.greenEnds = r.stage.greenEnds ∧ (manualOnRun e r).loops = r.loops ∧ (manualOnRun e
    r).demand = r.demand ∧ (manualOnRun e r).trams = r.trams ∧ (manualOnRun e r).priority.queue =
    r.priority.queue ∧ (manualOnRun e r).priority.enable = r.priority.enable ∧ (manualOnRun e
    r).priority.lockoutDue = r.priority.lockoutDue ∧ (manualOnRun e r).priority.extensionNoted =
    r.priority.extensionNoted ∧ (manualOnRun e r).priority.served = r.priority.served ∧ (manualOnRun e
    r).report.record = r.report.record ∧ (manualOnRun e r).notices = r.notices := by
  simp only [manualOnRun]
  (repeat' split) <;> simp


@[simp] theorem manualOffRun_frame (e : Env) (r : Rt) :
    (manualOffRun e r).ring = r.ring ∧ (manualOffRun e r).mode.mode = r.mode.mode ∧ (manualOffRun e r).mode.sub
    = r.mode.sub ∧ (manualOffRun e r).mode.startValues = r.mode.startValues ∧ (manualOffRun e r).mode.phaseDue =
    r.mode.phaseDue ∧ (manualOffRun e r).mode.keep = r.mode.keep ∧ (manualOffRun e r).mode.latch = r.mode.latch
    ∧ (manualOffRun e r).mode.restartCause = r.mode.restartCause ∧ (manualOffRun e r).mode.ownerViolation =
    r.mode.ownerViolation ∧ (manualOffRun e r).groups = r.groups ∧ (manualOffRun e r).monitor = r.monitor ∧
    (manualOffRun e r).lamp = r.lamp ∧ (manualOffRun e r).stage = r.stage ∧ (manualOffRun e r).loops = r.loops ∧
    (manualOffRun e r).demand = r.demand ∧ (manualOffRun e r).trams = r.trams ∧ (manualOffRun e
    r).priority.queue = r.priority.queue ∧ (manualOffRun e r).priority.enable = r.priority.enable ∧
    (manualOffRun e r).priority.lockoutDue = r.priority.lockoutDue ∧ (manualOffRun e r).priority.extensionNoted
    = r.priority.extensionNoted ∧ (manualOffRun e r).priority.served = r.priority.served ∧ (manualOffRun e
    r).report.record = r.report.record ∧ (manualOffRun e r).notices = r.notices := by
  simp only [manualOffRun]
  (repeat' split) <;> simp


@[simp] theorem stepRun_frame (_e : Env) (r : Rt) :
    (stepRun _e r).ring = r.ring ∧ (stepRun _e r).mode.mode = r.mode.mode ∧ (stepRun _e r).mode.sub = r.mode.sub
    ∧ (stepRun _e r).mode.startValues = r.mode.startValues ∧ (stepRun _e r).mode.phaseDue = r.mode.phaseDue ∧
    (stepRun _e r).mode.source = r.mode.source ∧ (stepRun _e r).mode.keep = r.mode.keep ∧ (stepRun _e
    r).mode.latch = r.mode.latch ∧ (stepRun _e r).mode.restartCause = r.mode.restartCause ∧ (stepRun _e
    r).mode.ownerViolation = r.mode.ownerViolation ∧ (stepRun _e r).groups = r.groups ∧ (stepRun _e r).monitor =
    r.monitor ∧ (stepRun _e r).lamp = r.lamp ∧ (stepRun _e r).stage = r.stage ∧ (stepRun _e r).loops = r.loops ∧
    (stepRun _e r).demand = r.demand ∧ (stepRun _e r).trams = r.trams ∧ (stepRun _e r).priority = r.priority ∧
    (stepRun _e r).report = r.report ∧ (stepRun _e r).notices = r.notices := by
  simp only [stepRun]
  (repeat' split) <;> simp


@[simp] theorem pushRun_frame (src index : Byte) (e : Env) (r : Rt) :
    (pushRun src index e r).ring.head = r.ring.head ∧ (pushRun src index e r).ring.field = r.ring.field ∧
    (pushRun src index e r).ring.replies = r.ring.replies ∧ (pushRun src index e r).ring.aspects =
    r.ring.aspects ∧ (pushRun src index e r).ring.crcFlag = r.ring.crcFlag ∧ (pushRun src index e r).mode =
    r.mode ∧ (pushRun src index e r).groups = r.groups ∧ (pushRun src index e r).monitor = r.monitor ∧ (pushRun
    src index e r).lamp = r.lamp ∧ (pushRun src index e r).stage = r.stage ∧ (pushRun src index e r).loops =
    r.loops ∧ (pushRun src index e r).demand.active = r.demand.active ∧ (pushRun src index e r).demand.assigns =
    r.demand.assigns ∧ (pushRun src index e r).trams = r.trams ∧ (pushRun src index e r).priority = r.priority ∧
    (pushRun src index e r).report.record = r.report.record ∧ (pushRun src index e r).notices = r.notices := by
  simp only [pushRun]
  (repeat' split) <;> simp


@[simp] theorem sensorRun_frame (src : Byte) (value : Nat) (e : Env) (r : Rt) :
    (sensorRun src value e r).ring = r.ring ∧ (sensorRun src value e r).mode = r.mode ∧ (sensorRun src value e
    r).groups = r.groups ∧ (sensorRun src value e r).monitor = r.monitor ∧ (sensorRun src value e
    r).lamp.modules = r.lamp.modules ∧ (sensorRun src value e r).lamp.confirms = r.lamp.confirms ∧ (sensorRun
    src value e r).lamp.failed = r.lamp.failed ∧ (sensorRun src value e r).lamp.brightness = r.lamp.brightness ∧
    (sensorRun src value e r).lamp.settlingDue = r.lamp.settlingDue ∧ (sensorRun src value e r).stage = r.stage
    ∧ (sensorRun src value e r).loops = r.loops ∧ (sensorRun src value e r).demand = r.demand ∧ (sensorRun src
    value e r).trams = r.trams ∧ (sensorRun src value e r).priority = r.priority ∧ (sensorRun src value e
    r).report = r.report ∧ (sensorRun src value e r).notices = r.notices := by
  simp only [sensorRun]
  split <;> simp


@[simp] theorem lockoutRun_frame (e : Env) (r : Rt) :
    (lockoutRun e r).ring = r.ring ∧ (lockoutRun e r).mode = r.mode ∧ (lockoutRun e r).groups = r.groups ∧
    (lockoutRun e r).monitor = r.monitor ∧ (lockoutRun e r).lamp = r.lamp ∧ (lockoutRun e r).stage = r.stage ∧
    (lockoutRun e r).loops = r.loops ∧ (lockoutRun e r).demand = r.demand ∧ (lockoutRun e r).trams = r.trams ∧
    (lockoutRun e r).priority.queue = r.priority.queue ∧ (lockoutRun e r).priority.enable = r.priority.enable ∧
    (lockoutRun e r).priority.extensionNoted = r.priority.extensionNoted ∧ (lockoutRun e r).priority.served =
    r.priority.served ∧ (lockoutRun e r).report = r.report ∧ (lockoutRun e r).notices = r.notices := by
  simp [lockoutRun]


@[simp] theorem indicatorFrame_frame (e : Env) (x : Option ButtonEntry) (lit : Bool) (r : Rt) :
    (indicatorFrame e x lit r).ring.head = r.ring.head ∧ (indicatorFrame e x lit r).ring.field = r.ring.field ∧
    (indicatorFrame e x lit r).ring.replies = r.ring.replies ∧ (indicatorFrame e x lit r).ring.aspects =
    r.ring.aspects ∧ (indicatorFrame e x lit r).ring.crcFlag = r.ring.crcFlag ∧ (indicatorFrame e x lit r).mode
    = r.mode ∧ (indicatorFrame e x lit r).groups = r.groups ∧ (indicatorFrame e x lit r).monitor = r.monitor ∧
    (indicatorFrame e x lit r).lamp = r.lamp ∧ (indicatorFrame e x lit r).stage = r.stage ∧ (indicatorFrame e x
    lit r).loops = r.loops ∧ (indicatorFrame e x lit r).demand = r.demand ∧ (indicatorFrame e x lit r).trams =
    r.trams ∧ (indicatorFrame e x lit r).priority = r.priority ∧ (indicatorFrame e x lit r).report.record =
    r.report.record ∧ (indicatorFrame e x lit r).notices = r.notices := by
  simp only [indicatorFrame]
  (repeat' split) <;> simp


end Sys2Proof.Machine
end

