-- ==== Sys2Proof/Laws/Frames.lean ====
section
/-! SUPPORT. Laws of the CRC of R178: words as polynomials over GF(2), and what the shifts of the register do to them. -/

namespace Sys2Proof

/-- A word as a polynomial over GF(2), bit i the coefficient of x^i. -/
noncomputable def wordPoly {n : Nat} (w : BitVec n) : Polynomial (ZMod 2) :=
  ∑ i : Fin n, if w.getLsbD i.val then Polynomial.X ^ i.val else 0

/-- Exclusive or is addition. -/
theorem wordPoly_xor {n : Nat} (a b : BitVec n) : wordPoly (a ^^^ b) = wordPoly a + wordPoly b := by
  simp only [wordPoly, ← Finset.sum_add_distrib]
  refine Finset.sum_congr rfl fun i _ => ?_
  rw [BitVec.getLsbD_xor]
  cases a.getLsbD i.val <;> cases b.getLsbD i.val <;> simp [CharTwo.add_self_eq_zero]

/-- A shift multiplies by x, but for the bit that it loses. -/
theorem wordPoly_shiftLeft (c : BitVec 16) : wordPoly (c <<< 1) + (if c.getLsbD 15 then Polynomial.X ^ 16 else 0) =
    Polynomial.X * wordPoly c := by
  simp only [wordPoly]
  rw [Fin.sum_univ_succ, Fin.sum_univ_castSucc (n := 15) (f := fun i : Fin 16 => if c.getLsbD i.val then Polynomial.X ^ i.val else 0)]
  have h : ∀ i : Fin 15, (if (c <<< 1).getLsbD (i.succ).val then (Polynomial.X : Polynomial (ZMod 2)) ^ (i.succ).val else 0) =
      Polynomial.X * if c.getLsbD i.castSucc.val then Polynomial.X ^ i.castSucc.val else 0 := by
    intro i
    have : (c <<< 1).getLsbD i.succ.val = c.getLsbD i.castSucc.val := by
      simp [BitVec.getLsbD_shiftLeft, Nat.lt_of_lt_of_le i.isLt]
      omega
    rw [this, mul_ite, mul_zero, Fin.val_succ, Fin.val_castSucc, pow_succ, mul_comm]
  simp only [h, ← Finset.mul_sum]
  rw [mul_add, mul_ite, mul_zero]
  simp
  ring_nf

/-- `n` shifts of the register multiply by x^n modulo the polynomial of R178. -/
theorem wordPoly_crcShift (n : Nat) (c : BitVec 16) :
    Polynomial.X ^ 16 + Polynomial.X ^ 12 + Polynomial.X ^ 5 + 1 ∣ wordPoly (crcShift n c) + Polynomial.X ^ n * wordPoly c := by
  induction n generalizing c with
  | zero => simp [crcShift, CharTwo.add_self_eq_zero]
  | succ n ih =>
    simp only [crcShift]
    have key : Polynomial.X ^ 16 + Polynomial.X ^ 12 + Polynomial.X ^ 5 + 1 ∣
        wordPoly (if c.getLsbD 15 then (c <<< 1) ^^^ 0x1021#16 else c <<< 1) + Polynomial.X * wordPoly c := by
      rw [← wordPoly_shiftLeft]
      by_cases h : c.getLsbD 15 = true
      · have hp : wordPoly 0x1021#16 = Polynomial.X ^ 12 + Polynomial.X ^ 5 + 1 := by
          have hb : ∀ i : Fin 16, (0x1021#16).getLsbD i.val = decide (i.val = 0 ∨ i.val = 5 ∨ i.val = 12) := by decide
          simp only [wordPoly, hb]
          simp [Fin.sum_univ_succ]
          ring
        simp only [h, if_true, wordPoly_xor, hp]
        refine ⟨1, ?_⟩
        have := CharTwo.add_self_eq_zero (wordPoly (c <<< 1))
        linear_combination this
      · rw [if_neg h, if_neg h, add_zero, CharTwo.add_self_eq_zero]
        exact dvd_zero _
    have := (ih (if c.getLsbD 15 then (c <<< 1) ^^^ 0x1021#16 else c <<< 1)).add (key.mul_left (Polynomial.X ^ n))
    refine this.trans (dvd_of_eq ?_)
    have h2 := CharTwo.add_self_eq_zero (Polynomial.X ^ n * wordPoly (if c.getLsbD 15 then (c <<< 1) ^^^ 0x1021#16 else c <<< 1))
    linear_combination h2

end Sys2Proof
end

