-- ==== Sys2Proof/Laws/Operations.lean ====
section
/-! SUPPORT. For each shared operation that many commands go through, one lemma that says what it does: element update, the
taking of fault notices, a still Stage Engine, changes of mode and source, the disposition of a management frame. -/

namespace Sys2Proof.Machine

/-! ### Elements -/

@[simp] theorem upd_get_self {α : Type} {n : Nat} (v : Vector α n) (i : Fin n) (f : α → α) :
    (upd v i f).get i = f (v.get i) := by
  show (v.set i.val (f (v.get i)) i.isLt)[i.val] = f (v.get i)
  simp

theorem upd_get {α : Type} {n : Nat} (v : Vector α n) (i j : Fin n) (f : α → α) :
    (upd v i f).get j = if i = j then f (v.get j) else v.get j := by
  by_cases h : i = j
  · subst h; simp
  · have : i.val ≠ j.val := fun h' => h (Fin.ext h')
    show (v.set i.val (f (v.get i)) i.isLt)[j.val] = _
    rw [Vector.getElem_set_ne i.isLt j.isLt this, if_neg h]
    rfl

theorem upd_get_ne {α : Type} {n : Nat} (v : Vector α n) (i j : Fin n) (f : α → α) (h : j ≠ i) :
    (upd v i f).get j = v.get j := by
  rw [upd_get, if_neg (Ne.symm h)]

/-! ### Fault notices and the reading of conditions -/

theorem takeFaults_nil (e : Env) (r : Rt) (h : r.notices = []) : takeFaults e r = r := by
  simp [takeFaults, h, Rt.withNotices]
  cases r
  simp_all

/-- What stillness says. -/
theorem Rt.still_notices (e : Env) (r : Rt) (h : r.still e = true) : r.notices = [] := by
  simp [Rt.still] at h
  exact h.1

theorem stageEval_still (e : Env) (r : Rt) (h : r.still e = true) : stageEval e r = (r, false) := by
  simp only [Rt.still, Bool.and_eq_true] at h
  obtain ⟨-, h⟩ := h
  unfold stageEval
  cases hp : r.stage.phase <;> simp [hp] at h ⊢
  · intro hm hs ha
    simp [hm, hs, ha] at h
  · cases hi : r.stage.inter <;> simp [hi] at h ⊢
    simp [h]

/-- The max-green check keeps a still Stage Engine still. -/
theorem maxGreenCheck_still (e : Env) (r : Rt) (h : r.still e = true) : (maxGreenCheck e r).still e = true := by
  have h1 : (maxGreenCheck e r).stage.phase = r.stage.phase ∧ (maxGreenCheck e r).stage.inter = r.stage.inter ∧
      (maxGreenCheck e r).notices = r.notices ∧ (maxGreenCheck e r).mode = r.mode ∧ (maxGreenCheck e r).groups = r.groups := by
    simp
  obtain ⟨hp, hi, hn, hm, hg⟩ := h1
  simp only [Rt.still, allRest, hp, hi, hn, hm, hg]
  exact h

/-- Without a stage in progress nothing is noted of gap-out. -/
theorem noteGap_quiet (e : Env) (r : Rt) (h : r.inStagePhase = false) : noteGap e r = r := by
  simp [noteGap, h]

/-- Disregarding demands changes the sources of the groups outside the list, and nothing else. -/
theorem demandOnly_eq (l : List Group) (r : Rt) :
    demandOnly l r = { r with demand := { r.demand with groups := (demandOnly l r).demand.groups } } := by
  simp only [demandOnly, Rt.withDemand]

theorem demandOnly_get (l : List Group) (r : Rt) (g : Group) :
    (demandOnly l r).demand.groups.get g = if g ∈ l then r.demand.groups.get g else (r.demand.groups.get g).without := by
  simp only [demandOnly, Rt.withDemand]
  show (Vector.ofFn _)[g.val] = _
  simp

@[simp] theorem demandOnly_stage (l : List Group) (r : Rt) : (demandOnly l r).stage = r.stage := by simp [demandOnly]
@[simp] theorem demandOnly_priority (l : List Group) (r : Rt) : (demandOnly l r).priority = r.priority := by simp [demandOnly]
@[simp] theorem demandOnly_groups (l : List Group) (r : Rt) : (demandOnly l r).groups = r.groups := by simp [demandOnly]
@[simp] theorem demandOnly_mode (l : List Group) (r : Rt) : (demandOnly l r).mode = r.mode := by simp [demandOnly]

/-- A stage that goes on, in full: no field but the reading of gap-out changes. -/
theorem noteGap_run (e : Env) (r : Rt) (c : StageRec) (hp : r.inStagePhase = true) (hc : r.stage.current = some c) :
    noteGap e r = { r with stage := { r.stage with current := some { c with gap := gapReading e r c } } } := by
  simp [noteGap, hp, hc, Rt.withStage]

/-- The end of a hold changes the reading of gap-out alone. -/
theorem holdEnds_eq (e : Env) (r : Rt) :
    holdEnds e r = { r with stage := { r.stage with current := r.stage.current.map fun c =>
      { c with gap := if r.priority.holdOffer.map HoldOffer.holdTo = some e.now
          then c.gap.map fun x => { x with standing := none } else c.gap } } } := by
  unfold holdEnds
  split
  · rfl
  · simp

/-- While the Stage Engine has nothing to act on, a command's end is the max-green check and the reading of gap-out. -/
theorem finish_still (e : Env) (r : Rt) (h : r.still e = true) : finish e r = noteGap e (maxGreenCheck e r) := by
  have h2 := maxGreenCheck_still e r h
  simp only [finish, takeFaults_nil e r (Rt.still_notices e r h), Config.stageFuel, settleFor, stageEval_still e _ h2]
  exact takeFaults_nil e _ (by simpa using Rt.still_notices e _ h2)

/-- Stillness reads the notices, the phase, the interstage record, the mode with its sub-phase, and the groups alone. -/
theorem still_congr (e : Env) (r r' : Rt) (hn : r'.notices = r.notices) (hp : r'.stage.phase = r.stage.phase)
    (hi : r'.stage.inter = r.stage.inter) (hm : r'.mode.mode = r.mode.mode)
    (hs : r'.mode.sub = r.mode.sub) (hg : r'.groups = r.groups) : r'.still e = r.still e := by
  simp only [Rt.still, allRest, hn, hp, hi, hm, hs, hg]

/-- In DARK and FLASH a fault notice posts its event and nothing else. -/
theorem takeNotice_quiet (e : Env) (n : FaultNotice) (r : Rt) (h : stagesRun r.mode.mode = false) :
    takeNotice e n r = postFault e n r := by
  simp [takeNotice, h]

/-! ### Mode and source -/

/-- A change of mode writes the mode, the sub-phase and the sub-phase's timer of the Mode Controller. -/
theorem setMode_mode (e : Env) (m : Mode) (sub : SubPhase) (r : Rt) :
    (setMode e m sub r).mode = { r.mode with mode := m, sub := sub, phaseDue := none } := by
  simp [setMode]

/-- Giving the source writes the source of the Mode Controller, also where it is that already. -/
theorem giveSource_mode (e : Env) (src : Source) (r : Rt) : (giveSource e src r).mode = { r.mode with source := src } := by
  simp [giveSource]

/-- A change of source writes the source of the Mode Controller. -/
theorem setSource_mode (e : Env) (src : Source) (r : Rt) : (setSource e src r).mode = { r.mode with source := src } := by
  simp only [setSource]
  split
  · subst_vars; rfl
  · exact giveSource_mode e src r

/-! ### Frames -/

/-- A frame at the head port that is delivered reaches the Command Unit after its arrival. -/
theorem headFrame_delivered (f : Frame) (d : Decoding) (owner : Owner) (p : Part) (h : Delivered p f) :
    headFrame f d owner p =
      (match d.refusal with
        | some c => { p with rt := answer p.env f ⟨c, []⟩ (p.arrived .head) }
        | none =>
          if d.isRead && !asks p.env f then { p with rt := p.arrived .head }
          else
            ({ (owner { p with rt := p.arrived .head }).1 with
              rt := answer (owner { p with rt := p.arrived .head }).1.env f (owner { p with rt := p.arrived .head }).2
                (owner { p with rt := p.arrived .head }).1.rt })) := by
  obtain ⟨h1, h2, h3, h4⟩ := h
  have hq : p.onRt (fun e r => linkUp e .head r) = { p with rt := p.arrived .head } := rfl
  have h5 : ¬ (asks p.env f && decide (Config.replySlots ≤ (p.arrived .head).ring.replies.length) && !d.isRestart) = true := by
    have : (p.arrived .head).ring.replies = p.rt.ring.replies := by simp
    rw [this]
    cases ha : asks p.env f
    · simp
    · have := h4 ha
      have : ¬ Config.replySlots ≤ p.rt.ring.replies.length := by omega
      simp [this]
  unfold headFrame
  rw [if_pos h1, hq]
  show (if f.dst = p.env.own then _ else _) = _
  rw [if_pos h2]
  unfold commandUnit
  rw [if_neg (by simp [h3]), if_neg h5]
  cases d.refusal
  · show (if _ then _ else _) = (if _ then _ else _)
    split <;> rfl
  · rfl

/-- Frames addressed to the part share what makes them delivered: destination, flags and a payload within bounds. -/
theorem delivered_congr (p : Part) (f k : Frame) (hd : k.dst = f.dst) (hf : k.flags = f.flags)
    (hl : k.payload.length ≤ 240) (h : Delivered p f) : Delivered p k := by
  obtain ⟨h1, h2, h3, h4⟩ := h
  refine ⟨?_, ?_, ?_, ?_⟩
  · simp [frameOk, hd, hl] at h1 ⊢; exact h1.1
  · rw [hd, h2]
  · simpa [isReply, hf] using h3
  · simpa [asks, hf, hd] using h4

/-- A valid frame of a field kind with its kind's length reaches its block after its arrival, and is forwarded after it. -/
theorem fieldFrame_valid (f : Frame) (block : Part → Part) (p : Part) (h : frameOk f = true)
    (hl : fieldKindLength f.kind = some f.payload.length) :
    fieldFrame f block true p =
      (block { p with rt := p.arrived .field }).onRt fun e r => forwardTo e .head f r := by
  simp [fieldFrame, h, hl, Part.onRt]

end Sys2Proof.Machine
end

