-- ==== Sys2Proof/WellFormed.lean ====
section
/-! DEFINITION. Well-formed commands: a frame command's frame passes the checks of R180 and is the command of its own
row (R181, R186); a CRC_ERROR_FRAME fails those checks; a command that names a module or a card names a ring address
those can have (R2, R89). A command that is not well formed names something that its row is not: see log entry 3. -/

namespace Sys2Proof

/-- Addresses a module, a card or a sensor may have: 2 to 126 (R2, R89, R175). -/
def moduleAddrOk (a : Byte) : Bool := decide (2 ≤ a.toNat) && decide (a.toNat ≤ 126)

/-- The destinations under which a frame command reaches its row, with `own` the part's ring address: a frame for the
Command Unit is addressed to the part or broadcast; the other rows take any valid destination (R181). -/
def rowDstOk (own : Byte) (i : Instr) : Bool :=
  match frameOf i with
  | some (p, f) => frameOk f && decide (frameCommand own p f = i)
  | none => true

/-- The checks of a command that is not a frame. -/
def eventOk : Instr → Bool
  | .crcErrorFrame _ bytes => decide (gather bytes = .bad)
  | .cardSilenceExpiry a | .refreshTimerExpiry a | .moduleSilenceExpiry a => moduleAddrOk a
  | _ => true

/-- A command is well formed for a part whose ring address is `own`. -/
def Instr.wellFormed (own : Byte) (i : Instr) : Bool := rowDstOk own i && eventOk i

end Sys2Proof
end

