-- ==== Sys2Proof/Laws/PerInstr.lean ====
section
/-! SUPPORT. One statement about every command as syntax: a well-formed command that is a frame is read back from its
frame, and no other well-formed command has that frame; one that is no frame is checked by `eventOk` alone. -/

namespace Sys2Proof.Laws

/-- A well-formed command and its frame determine each other at the part's own address (R180, R181, R186); a command
that is no frame is well formed exactly when its event is. -/
def Decoded.Statement (i : Instr) : Prop :=
  ∀ own : Byte,
    (∀ p f, i.wellFormed own = true → frameOf i = some (p, f) →
      frameOk f = true ∧ frameCommand own p f = i ∧
      ∀ j : Instr, j.wellFormed own = true → frameOf j = some (p, f) → j = i) ∧
    (frameOf i = none → i.wellFormed own = eventOk i)

/-- The frame of a well-formed command passes its checks and is that command's. -/
theorem frame_of_wellFormed {own : Byte} {i : Instr} {p : Port} {f : Frame} (hw : i.wellFormed own = true)
    (hf : frameOf i = some (p, f)) : frameOk f = true ∧ frameCommand own p f = i := by
  have h : rowDstOk own i = true := ((Bool.and_eq_true _ _).mp hw).1
  simpa [rowDstOk, hf] using h

/-- The statement holds of every command: the row of a frame is a function of port and frame. -/
theorem decoded_of_frame (i : Instr) : Decoded.Statement i := fun own =>
  ⟨fun _ _ hw hf => ⟨(frame_of_wellFormed hw hf).1, (frame_of_wellFormed hw hf).2, fun _ hj hfj =>
    (frame_of_wellFormed hj hfj).2.symm.trans (frame_of_wellFormed hw hf).2⟩,
   fun hn => by simp [Instr.wellFormed, rowDstOk, hn]⟩

theorem Decoded.powerOn (strap : BitVec 3) : Decoded.Statement (.powerOn strap) :=
  decoded_of_frame _
theorem Decoded.flashOn (h : Header) (rest : List Byte) : Decoded.Statement (.flashOn h rest) :=
  decoded_of_frame _
theorem Decoded.dark (h : Header) (rest : List Byte) : Decoded.Statement (.dark h rest) :=
  decoded_of_frame _
theorem Decoded.start (h : Header) (rest : List Byte) : Decoded.Statement (.start h rest) :=
  decoded_of_frame _
theorem Decoded.stop (h : Header) (rest : List Byte) : Decoded.Statement (.stop h rest) :=
  decoded_of_frame _
theorem Decoded.restart (h : Header) (rest : List Byte) : Decoded.Statement (.restart h rest) :=
  decoded_of_frame _
theorem Decoded.clearFault (h : Header) (rest : List Byte) : Decoded.Statement (.clearFault h rest) :=
  decoded_of_frame _
theorem Decoded.take (h : Header) (rest : List Byte) : Decoded.Statement (.take h rest) :=
  decoded_of_frame _
theorem Decoded.release (h : Header) (rest : List Byte) : Decoded.Statement (.release h rest) :=
  decoded_of_frame _
theorem Decoded.goStage (h : Header) (rest : List Byte) : Decoded.Statement (.goStage h rest) :=
  decoded_of_frame _
theorem Decoded.hold (h : Header) (rest : List Byte) : Decoded.Statement (.hold h rest) :=
  decoded_of_frame _
theorem Decoded.planSelect (h : Header) (rest : List Byte) : Decoded.Statement (.planSelect h rest) :=
  decoded_of_frame _
theorem Decoded.softDemand (h : Header) (rest : List Byte) : Decoded.Statement (.softDemand h rest) :=
  decoded_of_frame _
theorem Decoded.priorityEnable (h : Header) (rest : List Byte) : Decoded.Statement (.priorityEnable h rest) :=
  decoded_of_frame _
theorem Decoded.cancelTram (h : Header) (rest : List Byte) : Decoded.Statement (.cancelTram h rest) :=
  decoded_of_frame _
theorem Decoded.keepaliveArm (h : Header) (pl : List Byte) : Decoded.Statement (.keepaliveArm h pl) :=
  decoded_of_frame _
theorem Decoded.keepaliveRefresh (h : Header) (pl : List Byte) : Decoded.Statement (.keepaliveRefresh h pl) :=
  decoded_of_frame _
theorem Decoded.tableWriteGroup (h : Header) (rest : List Byte) : Decoded.Statement (.tableWriteGroup h rest) :=
  decoded_of_frame _
theorem Decoded.tableWriteConflict (h : Header) (rest : List Byte) : Decoded.Statement (.tableWriteConflict h rest) :=
  decoded_of_frame _
theorem Decoded.tableWriteIntergreen (h : Header) (rest : List Byte) : Decoded.Statement (.tableWriteIntergreen h rest) :=
  decoded_of_frame _
theorem Decoded.tableWriteStage (h : Header) (rest : List Byte) : Decoded.Statement (.tableWriteStage h rest) :=
  decoded_of_frame _
theorem Decoded.tableWritePermitted (h : Header) (rest : List Byte) : Decoded.Statement (.tableWritePermitted h rest) :=
  decoded_of_frame _
theorem Decoded.tableWritePlan (h : Header) (rest : List Byte) : Decoded.Statement (.tableWritePlan h rest) :=
  decoded_of_frame _
theorem Decoded.tableWriteLoop (h : Header) (rest : List Byte) : Decoded.Statement (.tableWriteLoop h rest) :=
  decoded_of_frame _
theorem Decoded.tableWriteAssignment (h : Header) (rest : List Byte) : Decoded.Statement (.tableWriteAssignment h rest) :=
  decoded_of_frame _
theorem Decoded.tableWriteButton (h : Header) (rest : List Byte) : Decoded.Statement (.tableWriteButton h rest) :=
  decoded_of_frame _
theorem Decoded.tableWriteRoute (h : Header) (rest : List Byte) : Decoded.Statement (.tableWriteRoute h rest) :=
  decoded_of_frame _
theorem Decoded.tableWriteSettings (h : Header) (rest : List Byte) : Decoded.Statement (.tableWriteSettings h rest) :=
  decoded_of_frame _
theorem Decoded.tableRead (h : Header) (pl : List Byte) : Decoded.Statement (.tableRead h pl) :=
  decoded_of_frame _
theorem Decoded.queryStatus (h : Header) (rest : List Byte) : Decoded.Statement (.queryStatus h rest) :=
  decoded_of_frame _
theorem Decoded.queryCounts (h : Header) (rest : List Byte) : Decoded.Statement (.queryCounts h rest) :=
  decoded_of_frame _
theorem Decoded.queryFaultRecord (h : Header) (rest : List Byte) : Decoded.Statement (.queryFaultRecord h rest) :=
  decoded_of_frame _
theorem Decoded.queryTramTable (h : Header) (rest : List Byte) : Decoded.Statement (.queryTramTable h rest) :=
  decoded_of_frame _
theorem Decoded.badKindFrame (h : Header) (kind : Byte) (pl : List Byte) : Decoded.Statement (.badKindFrame h kind pl) :=
  decoded_of_frame _
theorem Decoded.loopCounts (h : Header) (pl : List Byte) : Decoded.Statement (.loopCounts h pl) :=
  decoded_of_frame _
theorem Decoded.telegramCheckIn (h : Header) (pl : List Byte) : Decoded.Statement (.telegramCheckIn h pl) :=
  decoded_of_frame _
theorem Decoded.telegramDoorClosed (h : Header) (pl : List Byte) : Decoded.Statement (.telegramDoorClosed h pl) :=
  decoded_of_frame _
theorem Decoded.telegramCheckOut (h : Header) (pl : List Byte) : Decoded.Statement (.telegramCheckOut h pl) :=
  decoded_of_frame _
theorem Decoded.telegramCancel (h : Header) (pl : List Byte) : Decoded.Statement (.telegramCancel h pl) :=
  decoded_of_frame _
theorem Decoded.lampStatus (h : Header) (pl : List Byte) : Decoded.Statement (.lampStatus h pl) :=
  decoded_of_frame _
theorem Decoded.flashKey (h : Header) (rest : List Byte) : Decoded.Statement (.flashKey h rest) :=
  decoded_of_frame _
theorem Decoded.manualOn (h : Header) (rest : List Byte) : Decoded.Statement (.manualOn h rest) :=
  decoded_of_frame _
theorem Decoded.manualOff (h : Header) (rest : List Byte) : Decoded.Statement (.manualOff h rest) :=
  decoded_of_frame _
theorem Decoded.stepKey (h : Header) (rest : List Byte) : Decoded.Statement (.stepKey h rest) :=
  decoded_of_frame _
theorem Decoded.pushButton (h : Header) (pl : List Byte) : Decoded.Statement (.pushButton h pl) :=
  decoded_of_frame _
theorem Decoded.sensorReading (h : Header) (pl : List Byte) : Decoded.Statement (.sensorReading h pl) :=
  decoded_of_frame _
theorem Decoded.foreignAspect (p : Port) (h : Header) (pl : List Byte) : Decoded.Statement (.foreignAspect p h pl) :=
  decoded_of_frame _
theorem Decoded.forwardFrame (p : Port) (h : Header) (kind : Byte) (pl : List Byte) : Decoded.Statement (.forwardFrame p h kind pl) :=
  decoded_of_frame _
theorem Decoded.crcErrorFrame (p : Port) (bytes : List Byte) : Decoded.Statement (.crcErrorFrame p bytes) :=
  decoded_of_frame _
theorem Decoded.linkTimeout (p : Port) : Decoded.Statement (.linkTimeout p) :=
  decoded_of_frame _
theorem Decoded.forwardAgeDiscard (p : Port) : Decoded.Statement (.forwardAgeDiscard p) :=
  decoded_of_frame _
theorem Decoded.headPortGrant : Decoded.Statement (.headPortGrant) :=
  decoded_of_frame _
theorem Decoded.fieldPortGrant : Decoded.Statement (.fieldPortGrant) :=
  decoded_of_frame _
theorem Decoded.startFlashEnd : Decoded.Statement (.startFlashEnd) :=
  decoded_of_frame _
theorem Decoded.startupAllRedEnd : Decoded.Statement (.startupAllRedEnd) :=
  decoded_of_frame _
theorem Decoded.shutdownAllRedEnd : Decoded.Statement (.shutdownAllRedEnd) :=
  decoded_of_frame _
theorem Decoded.keepaliveWindowExpiry : Decoded.Statement (.keepaliveWindowExpiry) :=
  decoded_of_frame _
theorem Decoded.keepaliveArmExpiry : Decoded.Statement (.keepaliveArmExpiry) :=
  decoded_of_frame _
theorem Decoded.groupEnterStarting (g : Group) : Decoded.Statement (.groupEnterStarting g) :=
  decoded_of_frame _
theorem Decoded.groupEnterGreen (g : Group) : Decoded.Statement (.groupEnterGreen g) :=
  decoded_of_frame _
theorem Decoded.minGreenMet (g : Group) : Decoded.Statement (.minGreenMet g) :=
  decoded_of_frame _
theorem Decoded.clearingEnd (g : Group) : Decoded.Statement (.clearingEnd g) :=
  decoded_of_frame _
theorem Decoded.minEnd : Decoded.Statement (.minEnd) :=
  decoded_of_frame _
theorem Decoded.maxOut : Decoded.Statement (.maxOut) :=
  decoded_of_frame _
theorem Decoded.extensionHoldEnd : Decoded.Statement (.extensionHoldEnd) :=
  decoded_of_frame _
theorem Decoded.truncationPointReached : Decoded.Statement (.truncationPointReached) :=
  decoded_of_frame _
theorem Decoded.gapTimerExpiry (g : Group) : Decoded.Statement (.gapTimerExpiry g) :=
  decoded_of_frame _
theorem Decoded.demandDelayExpiry (a : Assign) : Decoded.Statement (.demandDelayExpiry a) :=
  decoded_of_frame _
theorem Decoded.cardSilenceExpiry (addr : Byte) : Decoded.Statement (.cardSilenceExpiry addr) :=
  decoded_of_frame _
theorem Decoded.tuneEchoExpiry (l : Loop) : Decoded.Statement (.tuneEchoExpiry l) :=
  decoded_of_frame _
theorem Decoded.tuneRetryExpiry (l : Loop) : Decoded.Statement (.tuneRetryExpiry l) :=
  decoded_of_frame _
theorem Decoded.stopLimitExpiry (t : TramSlot) : Decoded.Statement (.stopLimitExpiry t) :=
  decoded_of_frame _
theorem Decoded.windowEndExpiry (t : TramSlot) : Decoded.Statement (.windowEndExpiry t) :=
  decoded_of_frame _
theorem Decoded.guardEndExpiry (t : TramSlot) : Decoded.Statement (.guardEndExpiry t) :=
  decoded_of_frame _
theorem Decoded.lockoutExpiry : Decoded.Statement (.lockoutExpiry) :=
  decoded_of_frame _
theorem Decoded.refreshTimerExpiry (addr : Byte) : Decoded.Statement (.refreshTimerExpiry addr) :=
  decoded_of_frame _
theorem Decoded.moduleSilenceExpiry (addr : Byte) : Decoded.Statement (.moduleSilenceExpiry addr) :=
  decoded_of_frame _
theorem Decoded.confirmTimeout (g : Group) : Decoded.Statement (.confirmTimeout g) :=
  decoded_of_frame _
theorem Decoded.sensorFreshnessExpiry (x : Sensor) : Decoded.Statement (.sensorFreshnessExpiry x) :=
  decoded_of_frame _
theorem Decoded.qualificationTimerExpiry : Decoded.Statement (.qualificationTimerExpiry) :=
  decoded_of_frame _
theorem Decoded.settlingWindowEnd : Decoded.Statement (.settlingWindowEnd) :=
  decoded_of_frame _

end Sys2Proof.Laws
end

