-- ==== Sys2Proof/Tests/Slice0.lean ====
section
/-! SUPPORT. Tests against the manual's own numbers, and for every statement of Obligations.lean that has hypotheses a
witness: a concrete state and operands that meet them, clause by clause. -/

namespace Sys2Proof.Tests

-- one theorem after another: every thread of the host takes its own stack
set_option Elab.async false

open Sys2Proof Sys2Proof.Machine

/-! ### A small junction: G1 VEHICLE, G5 PEDESTRIAN, G9 TRAM, two stages, one plan, a loop, a button, two routes -/

/-- Header of a frame from the strategy computer to the part, with reply-wanted. -/
def ask : Header := ⟨0x20#8, 1#8, 1#8⟩
/-- The same without reply-wanted. -/
def tell : Header := ⟨0x20#8, 1#8, 0#8⟩
/-- Header of a frame from a field module to the strategy computer. -/
def fieldFrom (src : Byte) : Header := ⟨1#8, src, 0#8⟩

/-- A vector with one element set. -/
def put {α : Type} {n : Nat} (v : Vector α n) (i : Fin n) (x : α) : Vector α n := upd v i fun _ => x

/-- L7 of chapter 5's worked sequence. -/
def loop7 : LoopEntry := ⟨0x51#8, 2, 1500, 800, 2, 3, 8, 60, .demand, 16, 30000, 50000, false⟩
/-- Route code 7 of chapter 7's worked lifecycle. -/
def route7 : RouteEntry := ⟨7#8, 31#8, none, 33#8, 8, none, 180, 20, 1, 60, 30, 100, 100⟩
/-- Route code 12 of chapter 7's worked lifecycle. -/
def route12 : RouteEntry := ⟨12#8, 40#8, some 41#8, 43#8, 8, none, 150, 30, 0, 120, 60, 100, 50⟩
/-- A plan of two stages. -/
def plan1 : PlanEntry := ⟨[0, 1], Vector.replicate 16 300, Vector.replicate 24 30, 0, 50, 30, 80, 600⟩

/-- Tables that pass the consistency check. -/
def tab : Tables :=
  { groups := put (put (put (Vector.replicate 24 none)
      0 (some ⟨.vehicle, 80, 10, 30, some ⟨0x41#8, 0⟩⟩)) 4 (some ⟨.pedestrian, 50, 0, 80, some ⟨0x41#8, 2⟩⟩))
      8 (some ⟨.tram, 60, 0, 30, some ⟨0x43#8, 0⟩⟩)
    conflict := put (put (Vector.replicate 24 (Vector.replicate 24 none)) 0 (put (Vector.replicate 24 none) 4 (some true)))
      4 (put (Vector.replicate 24 none) 0 (some true))
    intergreen := put (put (Vector.replicate 24 (Vector.replicate 24 none)) 0 (put (Vector.replicate 24 none) 4 (some 50)))
      4 (put (Vector.replicate 24 none) 0 (some 100))
    stages := put (put (Vector.replicate 16 none) 0 (some ⟨0x101#24, 100, true, false⟩)) 1 (some ⟨0x10#24, 100, false, false⟩)
    permitted := put (put (Vector.replicate 16 (Vector.replicate 16 none)) 0 (put (Vector.replicate 16 none) 1 (some true)))
      1 (put (Vector.replicate 16 none) 0 (some true))
    plans := put (Vector.replicate 4 none) 0 (some plan1)
    loops := put (Vector.replicate 32 none) 6 (some loop7)
    assigns := put (put (Vector.replicate 64 none) 0 (some ⟨6, 0, .lockingAndExtend, 20⟩)) 1 (some ⟨6, 4, .demandNonlocking, 10⟩)
    buttons := put (Vector.replicate 32 none) 0 (some ⟨0x61#8, 0, 4⟩)
    routes := put (put (Vector.replicate 32 none) 0 (some route7)) 1 (some route12) }

/-- The blocks in a mode. -/
def inMode (m : Mode) : Rt := { mode := { mode := m } }

/-- RUNNING under a source, in STAGE_MIN of S1. -/
def running (src : Source) : Rt :=
  { mode := { mode := .running, source := src }
    stage := { phase := .stageMin, current := some ⟨0, 0#32, 100#32, none, none⟩, taken := some plan1.taken, position := 1 } }

/-- A state at a junction time over the small junction. -/
def at' (now : Nat) (r : Rt) : State := { part := { env := { now := BitVec.ofNat 32 now, tab := tab }, rt := r } }

/-- The blocks after a command that is answered with a next state. -/
def rtAfter (i : Instr) (s : State) : Rt :=
  match exec i s with
  | .next t => t.part.rt
  | _ => {}

/-! ### Well-formedness refuses what is ill formed -/

theorem test_wellFormed_accepts : (Instr.flashOn ask []).wellFormed 0x20#8 = true ∧
    (Instr.loopCounts (fieldFrom 0x51#8) (zeros 16)).wellFormed 0x20#8 = true ∧
    (Instr.crcErrorFrame .head [0xC3#8, 0x3C#8, 0#8]).wellFormed 0x20#8 = true := by decide +kernel
theorem test_wellFormed_refuses_destination_0 : (Instr.flashOn ⟨0#8, 1#8, 0#8⟩ []).wellFormed 0x20#8 = false := by
  decide +kernel
theorem test_wellFormed_refuses_another_station : (Instr.flashOn ⟨0x21#8, 1#8, 0#8⟩ []).wellFormed 0x20#8 = false := by
  decide +kernel
theorem test_wellFormed_refuses_long_payload : (Instr.flashOn ask (zeros 240)).wellFormed 0x20#8 = false := by
  decide +kernel
theorem test_wellFormed_refuses_another_row :
    (Instr.badKindFrame ask kindJunctionCmd [0#8]).wellFormed 0x20#8 = false ∧
    (Instr.forwardFrame .field (fieldFrom 0x51#8) kindPushButton [0#8]).wellFormed 0x20#8 = false ∧
    (Instr.telegramCancel (fieldFrom 9#8) [31#8, 0#8, 0#8, 4#8, 0#8, 210#8, 7#8, 0#8, 95#8]).wellFormed 0x20#8 = false := by
  decide +kernel
theorem test_wellFormed_refuses_good_bytes :
    (Instr.crcErrorFrame .head (encodeFrame (tell.frame kindKeepaliveArm []))).wellFormed 0x20#8 = false := by decide +kernel
theorem test_wellFormed_refuses_module_address :
    (Instr.moduleSilenceExpiry 127#8).wellFormed 0x20#8 = false ∧ (Instr.cardSilenceExpiry 1#8).wellFormed 0x20#8 = false := by
  decide +kernel

/-! ### Frames written out byte by byte (R178) -/

/-- The CRC with R178's parameters of the nine characters "123456789" (the parameters' published check value). -/
theorem test_crc_check_value :
    crc16 [0x31#8, 0x32#8, 0x33#8, 0x34#8, 0x35#8, 0x36#8, 0x37#8, 0x38#8, 0x39#8] = 0x29B1#16 := by decide +kernel
theorem test_decode_start : decodeRing 0x20#8 .head
    ([0xC3#8, 0x3C#8, 0x20#8, 1#8, 0x30#8, 1#8, 1#8, 2#8] ++ crcBytes [0x20#8, 1#8, 0x30#8, 1#8, 1#8, 2#8]) =
      some (.start ask []) := by decide +kernel
theorem test_decode_goStage : decodeRing 0x20#8 .head
    ([9#8, 0xC3#8, 0x3C#8, 0x20#8, 1#8, 0x31#8, 1#8, 2#8, 2#8, 3#8] ++
      crcBytes [0x20#8, 1#8, 0x31#8, 1#8, 2#8, 2#8, 3#8]) = some (.goStage ask [3#8]) := by decide +kernel
theorem test_decode_telegram : decodeRing 0x20#8 .field
    (encodeFrame ⟨1#8, 9#8, 0x11#8, 0#8, [31#8, 0#8, 0#8, 4#8, 0#8, 210#8, 7#8, 0#8, 95#8]⟩) =
      some (.telegramCheckIn (fieldFrom 9#8) [31#8, 0#8, 0#8, 4#8, 0#8, 210#8, 7#8, 0#8, 95#8]) := by decide +kernel
theorem test_decode_bad_crc : decodeRing 0x20#8 .head [0xC3#8, 0x3C#8, 0x20#8, 1#8, 0x32#8, 0#8, 0#8, 0#8, 0#8] =
    some (.crcErrorFrame .head [0xC3#8, 0x3C#8, 0x20#8, 1#8, 0x32#8, 0#8, 0#8, 0#8, 0#8]) := by decide +kernel
theorem test_no_row_has_bits : decodeTableWord 16 0 = none ∧ State.reset.withFetchWord 16 0 = State.reset := ⟨rfl, rfl⟩

/-! ### The manual's worked numbers -/

/-- R94's table. -/
theorem test_deviation_table : deviation 40000 39850 = 3750 ∧ deviation 40001 40002 = -24 ∧
    deviation 40000 20000 = 32767 ∧ deviation 40000 50000 = -32767 := by decide
/-- Chapter 5's worked tracking steps, and the ±1 step. -/
theorem test_tracking_steps : track 8 10240000 40010 = 10240010 ∧ track 8 10240010 40020 = 10240029 ∧
    track 2 10240029 40100 = 10246421 ∧ track 8 10240010 40000 = 10240009 := by decide
/-- R138's table of levels. -/
theorem test_level_table : levelOf { route7 with early := 0 } 95 = 2 ∧ levelOf { route7 with early := 0 } 130 = 3 ∧
    levelOf { route7 with baseLevel := 2 } 130 = 3 ∧ levelOf route7 (-45) = 0 ∧ levelOf route12 (-70) = 0 ∧
    levelOf { route7 with early := 0 } (-999) = 1 := by decide
/-- R137's window of line 4 run 210 (chapter 7's worked lifecycle). -/
theorem test_window : windowOpen 1000#32 route7 = 1160#32 ∧ windowClose 1000#32 route7 = 1200#32 := by decide
/-- R2: a min green of 25 is refused for VEHICLE and accepted for TRAM; RA is 0 for PEDESTRIAN. -/
theorem test_group_ranges : groupTimesOk .vehicle 25 0 30 = false ∧ groupTimesOk .tram 25 0 30 = true ∧
    groupTimesOk .pedestrian 50 1 80 = false := by decide
/-- The small junction passes the check; without one direction of a conflict it is ASYMMETRIC (R25). -/
theorem test_consistency : consistency tab 0 = none ∧
    checkConflicts { tab with conflict := put tab.conflict 4 (Vector.replicate 24 none) } =
      some ⟨1, .asymmetric, 1, 5, 0⟩ := by decide +kernel
/-- R26 to R30 on the small junction, each step's first failure. -/
theorem test_consistency_steps :
    consistency { tab with intergreen := put tab.intergreen 0 (Vector.replicate 24 none) } 0 = some ⟨2, .igMissing, 1, 5, 0⟩ ∧
    consistency { tab with intergreen := put tab.intergreen 4 (put (Vector.replicate 24 none) 0 (some 89)) } 0 =
      some ⟨2, .igTooShort, 5, 1, 90⟩ ∧
    consistency { tab with stages := put tab.stages 2 (some ⟨0x11#24, 100, true, true⟩) } 0 = some ⟨3, .stageConflict, 3, 1, 5⟩ ∧
    consistency { tab with groups := put tab.groups 8 (some ⟨.tram, 60, 0, 30, some ⟨0x41#8, 2⟩⟩) } 0 = some ⟨4, .mappingShared, 5, 9, 0⟩ ∧
    consistency { tab with permitted := put tab.permitted 1 (Vector.replicate 16 none) } 0 =
      some ⟨6, .transitionNotPermitted, 1, 2, 1⟩ := by decide +kernel
/-- R94 to R96 in one frame: chapter 5's sample at 501 raises the on-count and leaves the baseline. -/
theorem test_sample_on_threshold :
    (clearSample { tab := tab } 6 loop7 10240000 3750 ⟨39850, 3⟩
      { loops := { recs := put (Vector.replicate 32 {}) 6 { state := .clear, bf := some 10240000 } } }).loops.recs.get 6 =
      { state := .clear, bf := some 10240000, onCount := 1 } := by decide +kernel
/-- R8: a group written in FLASH as a VEHICLE flashes. -/
theorem test_group_write_in_flash :
    ((rtAfter (.tableWriteGroup tell [2#8, 0#8, 1#8, 1#8, 0#8, 80#8, 10#8, 0#8, 30#8, 1#8, 0x42#8, 0#8])
      (at' 0 (inMode .flash))).groups.get 1).state = .flashing := by decide +kernel
/-- The worked sequence of chapter 3: START at 1000 brings START_FLASH, due at 1050. -/
theorem test_start : (rtAfter (.start ask []) (at' 1000 (inMode .flash))).mode.phaseDue = some 1050#32 := by decide +kernel
/-- The worked sequence of chapter 7: the CHECK_IN at 1000 gives level 2 and WINDOW_END 1200. -/
theorem test_check_in :
    ((rtAfter (.telegramCheckIn (fieldFrom 9#8) [31#8, 0#8, 0#8, 4#8, 0#8, 210#8, 7#8, 0#8, 95#8])
      (at' 1000 (running .autonomous))).trams.get 0).map (fun x => (x.level, x.timerDue)) = some (2, 1200#32) := by
  decide +kernel
/-- The worked sequence of chapter 3: ARM at 2000, REFRESH at 2004: the window is due at 2054. -/
theorem test_keepalive : (rtAfter (.keepaliveRefresh tell [])
    (at' 2004 (rtAfter (.keepaliveArm tell []) (at' 2000 (running .autonomous))))).mode.keep =
      ⟨.active, some 2054#32, none, none⟩ := by decide +kernel

/-! ### Witnesses: the hypotheses of the statements, met together -/

/-- A frame in a queue. -/
def waiting : QueuedFrame := ⟨⟨1#8, 0x51#8, kindLoopCounts, 0#8, zeros 16⟩, 0#32⟩
/-- Four reply slots occupied. -/
def fullSlots : RingUnit := { replies := List.replicate 4 ⟨1#8, 0x20#8, kindReply, 2#8, zeros 3⟩ }
/-- Blocks with the module 0x41's record, its refresh and silence timers due at 0. -/
def withModule (r : Rt) : Rt :=
  { r with lamp := { modules := [{ addr := 0x41#8, sentAspects := some (Vector.replicate 4 .dark), sentBrightness := some .bright, refreshDue := some 0#32, silenceDue := some 0#32 }] } }
/-- Blocks with the card 0x51's record and L7's. -/
def withLoop (y : LoopRec) (r : Rt) : Rt :=
  { r with loops := { recs := put (Vector.replicate 32 {}) 6 y, cards := [{ addr := 0x51#8, wait := [6], silenceDue := some 0#32 }] } }
/-- A tram record in APPROACHING. -/
def tram0 (timer : TramTimer) : TramRec := ⟨4, 210, 7#8, 8, none, 100, 100, .approaching, 2, 95, 0#32, none, some 1160#32, some 1200#32, false, timer, 0#32⟩
/-- Blocks with one tram record in slot 0, queued. -/
def withTram (timer : TramTimer) (r : Rt) : Rt :=
  { r with trams := put (Vector.replicate 8 none) 0 (some (tram0 timer)), priority := { queue := [0] } }
/-- Blocks with a group's record. -/
def withGroup (g : Group) (x : GroupRec) (r : Rt) : Rt := { r with groups := put r.groups g x }
/-- A state whose blocks are in a mode, with a junction time of 0. -/
def s0 (r : Rt) : State := at' 0 r

theorem witness_EmptyQueueTicks : State.reset.pending = [] := rfl
theorem witness_EncodedFramesAreGathered :
    frameOk ⟨1#8, 0#8, 0#8, 0#8, zeros 240⟩ = true ∧ frameOk ⟨127#8, 255#8, 255#8, 255#8, []⟩ = true ∧ 0xC3#8 ∉ [0x3C#8] := by
  decide +kernel
/-- Each way of R180 in which bytes behind a preamble fail: too few, a destination of 0 or 128, a length of 241, a byte too few
or too many, and a wrong CRC. -/
theorem witness_EncodedFramesAreGathered_bad :
    (let crc := crcBytes [0x20#8, 1#8, kindKeepaliveArm, 0#8, 0#8];
      ([1#8, 2#8, 3#8, 4#8] : List Byte).length < 5 ∧ (0#8 : Byte).toNat = 0 ∧ 127 < (128#8 : Byte).toNat ∧
      ¬ 127 < (127#8 : Byte).toNat ∧ 240 < (241#8 : Byte).toNat ∧ ¬ 240 < (240#8 : Byte).toNat ∧ crc.tail.length ≠ 0 + 2 ∧
      (0#8 :: crc).length ≠ 0 + 2 ∧ crc.length = 0 + 2 ∧ crc.reverse.drop 0 ≠ crc ∧ 0xC3#8 ∉ ([] : List Byte)) := by
  decide +kernel
theorem witness_FrameRowsRoundTrip : dstOk ask.dst = true ∧ ask.dst = 0x20#8 ∧ (zeros 239).length ≤ 239 ∧
    Instr.take ask (zeros 239) ∈ managementRows ask (zeros 239) ∧ dstOk 127#8 = true ∧ (zeros 240).length ≤ 240 ∧
    Instr.tableRead ask (zeros 240) ∈ [Instr.keepaliveArm ask (zeros 240), .keepaliveRefresh ask (zeros 240), .tableRead ask (zeros 240)] := by
  decide +kernel
theorem witness_FrameRowsRoundTrip_field : dstOk (fieldFrom 9#8).dst = true ∧ (zeros 16).length ≤ 240 ∧
    Instr.lampStatus (fieldFrom 9#8) (zeros 16) ∈ fieldRows (fieldFrom 9#8) (zeros 16) ∧
    Instr.telegramCheckIn (fieldFrom 9#8) (zeros 9) ∈ fieldRows (fieldFrom 9#8) (zeros 9) ∧
    Instr.stepKey (fieldFrom 9#8) [] ∈ fieldRows (fieldFrom 9#8) [] := by decide +kernel
theorem witness_CapacitiesKeptByStep : State.reset.part.Bounded ∧ step State.reset = .next (tick State.reset) :=
  ⟨⟨by decide +kernel, by decide +kernel, by decide +kernel, by decide +kernel⟩, rfl⟩
/-- The small junction with every count at its bound: a wait list, eight queued records, an assignment that gives, and L7's
counts one below the number that ends each. -/
def atBounds : Part :=
  { env := { tab := tab }
    rt := { withLoop { state := .clear, onCount := 15, offCount := 15, invalidRun := 2, settlingCount := 31, recoveryRun := 254
                       sweep := some ⟨some 7, .discarding 3, none⟩, vehicles := 65535 } {} with
      trams := Vector.ofFn fun k => some { tram0 .windowEnd with run := k.val + 1 }
      priority := { queue := [7, 6, 5, 4, 3, 2, 1, 0], served := Vector.replicate 3 65535 }
      demand :=
        { groups := put (Vector.replicate 24 {}) 4 { nonLocking := 1 }
          assigns := put (Vector.replicate 64 {}) 1 { giving := true } } } }
theorem witness_CapacitiesKeptByStep_bounds : atBounds.Bounded :=
  ⟨by decide +kernel, by decide +kernel, by decide +kernel, by decide +kernel⟩
theorem witness_GroupStatesKeptByStep : State.reset.part.GroupsFitMode ∧ step State.reset = .next (tick State.reset) :=
  ⟨by decide +kernel, rfl⟩
theorem witness_OwnershipKeptByStep : (s0 (running .manual)).part.rt.OwnershipFitsMode ∧
    step (s0 (running .manual)) = .next (tick (s0 (running .manual))) :=
  ⟨by decide +kernel, rfl⟩
theorem witness_RecordsFitTablesByStep :
    (s0 { lamp := { modules := tab.mappedModules.map fun a => { addr := a }, failed := [⟨0x41#8, 2, 2⟩] },
          loops := { cards := tab.cardAddrs.map fun a => { addr := a } } }).part.RecordsFitTables ∧ tab.mappedModules ≠ [] ∧
    tab.cardAddrs = [0x51#8] ∧ tab.holder 0x41#8 2 = some 4 ∧
    step (s0 {}) = .next (tick (s0 {})) :=
  ⟨by decide +kernel, by decide +kernel, by decide +kernel, by decide +kernel, rfl⟩
theorem witness_EventsArePosted : (s0 {}).part.env.tab.settings.mask.getLsbD EventKind.fault.code = true ∧
    (s0 {}).part.rt.report.queue.length < 64 ∧ (s0 {}).part.env.tab.settings.mask.getLsbD EventKind.loopState.code = false ∧
    64 ≤ (List.replicate 64 (⟨.fault, 0#32, 0#8, []⟩ : Event)).length := by decide +kernel
theorem witness_FramesNoBlockTakes : gather [0xC3#8, 0x3C#8, 0#8] = .bad ∧
    frameOk (ask.frame kindAspectSet (zeros 5)) = true ∧ frameOk (ask.frame kindLoopCounts (zeros 16)) = true ∧
    frameCommand 0x20#8 .head (ask.frame kindLoopCounts (zeros 16)) = .forwardFrame .head ask kindLoopCounts (zeros 16) ∧
    frameCommand 0x20#8 .field (ask.frame kindReply []) = .forwardFrame .field ask kindReply [] := by decide +kernel
theorem witness_FieldFramesForwarded : dstOk (fieldFrom 0x51#8).dst = true ∧
    Instr.loopCounts (fieldFrom 0x51#8) (zeros 16) ∈ fieldRows (fieldFrom 0x51#8) (zeros 16) ∧
    loopCountsForwarded (s0 {}).part.rt 0x51#8 = true ∧ (s0 {}).part.rt.ring.head.queue.length < Config.headQueueCap ∧
    Config.headQueueCap ≤ (List.replicate 16 waiting).length := by decide +kernel
/-- FLASH with the card 0x51's record, its forward flag no. -/
def quietCard : Rt := { inMode .flash with loops := { cards := [{ addr := 0x51#8 }] } }
theorem witness_FieldFramesForwarded_dropped : dstOk (fieldFrom 0x51#8).dst = true ∧ (zeros 16).length = 16 ∧
    quietCard.mode.mode ≠ .dark ∧ quietCard.cardRec 0x51#8 = some { addr := 0x51#8 } ∧ ({ addr := 0x51#8 } : CardRec).forward = false := by
  decide +kernel
/-- Head and field port with full queues, their overflow flags clear and set, and full transmit classes. -/
theorem witness_FieldFramesForwarded_full :
    (let q : RingUnit := { head := { queue := List.replicate 16 waiting }, field := { queue := List.replicate 8 waiting, overflow := true },
                           aspects := List.replicate 48 waiting.frame, aux := List.replicate 32 waiting.frame };
      16 ≤ q.head.queue.length ∧ q.head.overflow = false ∧ 8 ≤ q.field.queue.length ∧ q.field.overflow = true ∧
      ({ q.head with queue := q.head.queue.tail } : PortRec).queue.length < 16 ∧
      ({ q.field with queue := q.field.queue.tail } : PortRec).queue.length < 8 ∧ 48 ≤ q.aspects.length ∧
      q.aspects = waiting.frame :: q.aspects.tail ∧ q.aspects.tail.length < 48 ∧ 32 ≤ q.aux.length ∧
      q.aux = waiting.frame :: q.aux.tail ∧ q.aux.tail.length < 32 ∧
      frameOk (ask.frame kindPushButton [1#8]) = true ∧ frameCommand (s0 { ring := q }).part.env.own .head (ask.frame kindPushButton [1#8]) =
        .forwardFrame .head ask kindPushButton [1#8]) := by decide +kernel
/-- R182 on the field-bound queue of 8: the ninth frame is dropped with the flag and one FORWARD_OVERFLOW. -/
theorem test_forward_overflow :
    (let frame := Instr.forwardFrame .head ask kindPushButton [1#8];
      let full := rtAfter frame (s0 { ring := { head := { up := true }, field := { queue := List.replicate 8 waiting } } });
      let again := rtAfter frame (s0 full);
      full.ring.field.queue = List.replicate 8 waiting ∧ full.ring.field.overflow = true ∧
      full.report.queue = [⟨.forwardOverflow, 0#32, 1#8, [1#8, kindPushButton]⟩] ∧ again = full) := by decide +kernel
theorem witness_LinkAndAgeExpiry : isDue 0#32 (s0 { ring := { head := { up := true, linkDue := some 0#32 } } }).part.rt.ring.head.linkDue = true ∧
    ((at' 10 { ring := { field := { queue := [waiting] } } }).part.rt.ring.port .field).queue.any (QueuedFrame.aged 10#32) = true := by
  decide +kernel
theorem witness_PortGrantOrder_reply : (fullSlots.head.up = false ∧ ({ fullSlots with head := { up := true } } : RingUnit).replies ≠ []) ∧
    ({ head := { up := true, queue := [waiting] } } : RingUnit).replies = [] ∧
    ({ head := { up := true, queue := [waiting] } } : RingUnit).head.queue = [waiting] := by decide +kernel
theorem witness_PortGrantOrder_report : ({ ring := { head := { up := true } }, report := { lost := true } } : Rt).ring.replies = [] ∧
    ({ ring := { head := { up := true } }, report := { lost := true } } : Rt).report.lost = true := by decide +kernel
theorem witness_PortGrantOrder_field :
    ({ field := { up := true }, aspects := [waiting.frame] } : RingUnit).aspects = [waiting.frame] ∧
    ({ field := { up := true }, aux := [waiting.frame] } : RingUnit).aux = [waiting.frame] ∧
    ({ field := { up := true, queue := [waiting] } } : RingUnit).aspects = [] := by decide +kernel
theorem witness_BadKindAndFullSlots : Delivered (s0 {}).part (ask.frame 0x37#8 []) ∧
    frameCommand 0x20#8 .head (ask.frame 0x37#8 []) = .badKindFrame ask 0x37#8 [] ∧
    asks (s0 { ring := fullSlots }).part.env (ask.frame 0#8 []) = true ∧ isReply (ask.frame 0#8 []) = false ∧
    Config.replySlots ≤ (s0 { ring := fullSlots }).part.rt.ring.replies.length ∧
    Instr.queryStatus ask [] ∈ managementRows ask [] ∧ Instr.queryStatus ask [] ≠ .restart ask [] := by decide +kernel
theorem witness_BadKindAndFullSlots_answer : asks (s0 {}).part.env (ask.frame 0#8 []) = true ∧
    asks (s0 {}).part.env (tell.frame 0#8 []) = false ∧ (⟨.badKind, []⟩ : Result).code ≠ .ok ∧ Result.accepted.code = .ok := by
  decide +kernel
/-- A broadcast header with every reserved flag set, and the header that stands for it. -/
def everyone : Header := ⟨127#8, 1#8, 0xFD#8⟩
theorem witness_BadKindAndFullSlots_lengths : Delivered (s0 {}).part (ask.frame 0#8 []) ∧ ([10#8, 0#8] : List Byte).length = 2 ∧
    (Instr.keepaliveArm ask [10#8, 0#8], 0) ∈ (managementRows ask [10#8, 0#8]).zip restLengths ∧
    (Instr.planSelect ask [10#8, 0#8], 1) ∈ (managementRows ask [10#8, 0#8]).zip restLengths ∧
    (Instr.tableWritePlan ask [10#8, 0#8], 84) ∈ (managementRows ask [10#8, 0#8]).zip restLengths ∧
    (Instr.tableRead ask [10#8, 0#8], 3) ∈ (managementRows ask [10#8, 0#8]).zip restLengths ∧
    (Instr.tableRead ask [11#8, 0#8], 3) ∈ (managementRows ask [11#8, 0#8]).zip restLengths ∧
    10 < (([11#8, 0#8] : List Byte).headD 0#8).toNat ∧ ¬ 10 < (([] : List Byte).headD 0#8).toNat ∧
    (managementRows ask []).length = restLengths.length := by decide +kernel
theorem witness_BadKindAndFullSlots_isReply :
    (let h : Header := ⟨0x20#8, 1#8, 3#8⟩;
      dstOk h.dst = true ∧ h.flags.getLsbD 1 = true ∧ h.dst = (s0 {}).part.env.own ∧ Instr.dark h [] ∈ managementRows h [] ∧
      frameCommand 0x20#8 .head (h.frame 0x37#8 []) = .badKindFrame h 0x37#8 [] ∧ dstOk 127#8 = true ∧
      frameCommand 0x20#8 .head (({ h with dst := 127#8 } : Header).frame 0x37#8 []) = .badKindFrame { h with dst := 127#8 } 0x37#8 []) ∧
    (s0 {}).part.env.own ≠ 127#8 := by decide +kernel
theorem witness_BadKindAndFullSlots_broadcast : everyone.dst = 127#8 ∧ everyone.flags.getLsbD 1 = false ∧
    (zeros 239).length ≤ 239 ∧ (tell : Header) = { everyone with dst := (s0 {}).part.env.own, flags := 0#8 } ∧
    (Instr.planSelect everyone [1#8], Instr.planSelect tell [1#8]) ∈
      (managementRows everyone [1#8]).zip (managementRows tell [1#8]) := by decide +kernel
theorem witness_FlashOnEntersFlash : Delivered (s0 {}).part (junctionFrame ask 0 []) ∧
    (s0 {}).part.rt.mode.mode = .dark ∧ 0 < tab.mappedCount := by decide +kernel
theorem witness_FlashOnEntersFlash_answers : Delivered (s0 (inMode .flash)).part (junctionFrame tell 0 []) ∧
    (inMode .flash).mode.mode = .flash ∧ (inMode .startup).mode.mode = .startup ∧ (inMode .shutdown).mode.mode = .shutdown ∧
    State.reset.part.env.tab.mappedCount = 0 ∧ State.reset.part.rt.mode.mode = .dark ∧
    Delivered State.reset.part (junctionFrame ask 0 []) := by decide +kernel
theorem witness_DarkEntersDark : Delivered (s0 (inMode .flash)).part (junctionFrame ask 1 []) ∧
    (s0 (inMode .flash)).part.rt.mode.mode = .flash ∧ (s0 (inMode .flash)).part.rt.notices = [] := by decide +kernel
theorem witness_DarkEntersDark_answers : Delivered (s0 (running .manual)).part (junctionFrame ask 1 []) ∧
    (running .manual).mode.mode = .running ∧ (inMode .dark).mode.mode = .dark := by decide +kernel
theorem witness_StartTestsAndEntersStartup_entry : Delivered (s0 (inMode .flash)).part (junctionFrame ask 2 []) ∧
    (inMode .flash).mode.latch = false ∧ consistency tab 0 = none ∧ tab.plans.get 0 = some plan1 ∧ 0 < plan1.startFlash ∧
    (inMode .flash).still { tab := tab } = true ∧ (∀ m ∈ (withModule (inMode .flash)).lamp.modules, m.silent = false) ∧
    (inMode .flash).stage.phase = .idle := by decide +kernel
/-- The small junction with a start flash time of 0 in its plan. -/
def tabNoFlash : Tables := { tab with plans := put tab.plans 0 (some { plan1 with startFlash := 0 }) }
theorem witness_StartTestsAndEntersStartup_noFlash : consistency tabNoFlash 0 = none ∧
    tabNoFlash.plans.get 0 = some { plan1 with startFlash := 0 } ∧
    ({ tab := tabNoFlash } : Env).tab.settings.mask.getLsbD 0 = true ∧ (inMode .flash).report.queue.length < 64 := by decide +kernel
/-- FLASH with module 0x41 silent. -/
def silentModule : Rt := { inMode .flash with lamp := { modules := [{ addr := 0x41#8, silent := true }, { addr := 0x43#8 }] } }
theorem witness_StartTestsAndEntersStartup_silent :
    silentModule.lamp.modules.find? ModuleRec.silent = some { addr := 0x41#8, silent := true } ∧ silentModule.still { tab := tab } = true ∧
    silentModule.stage.phase = .idle ∧ silentModule.report.record = none := by decide +kernel
theorem witness_StartTestsAndEntersStartup_tests : Delivered (s0 {}).part (junctionFrame ask 2 []) ∧ (inMode .dark).mode.mode ≠ .flash ∧
    ({ mode := .flash, latch := true } : ModeUnit).latch = true ∧
    consistency { tab with plans := Vector.replicate 4 none } 0 = some ⟨5, .planEmpty, 1, 0, 0⟩ := by decide +kernel
theorem witness_StopAndFlashKeyEnterShutdown : (running .autonomous).mode.mode = .running ∧ (running .autonomous).still { tab := tab } = true ∧
    (running .autonomous).stage.phase ≠ .idle ∧ Delivered (s0 (running .autonomous)).part (junctionFrame ask 3 []) ∧
    frameOk (keyFrame (fieldFrom 3#8) 0 []) = true := by decide +kernel
/-- S1 in STAGE_RUN with its groups in GREEN past their min green, the Monitor following, and G5's demand outside it. -/
def ripe (src : Source) : Rt :=
  { running src with
    groups := put (put (Vector.replicate 24 {}) 0 { state := .green, minMet := true }) 8 { state := .green, minMet := true }
    monitor := put (put (Vector.replicate 24 {}) 0 { passed := some .green }) 8 { passed := some .green }
    stage := { (running src).stage with phase := .stageRun, current := some ⟨0, 0#32, 100#32, some 450#32, none⟩ }
    demand := { active := true, groups := put (Vector.replicate 24 {}) 4 { button := true } } }
theorem witness_StopAndFlashKeyEnterShutdown_elsewhere : Delivered (s0 (inMode .shutdown)).part (junctionFrame ask 3 []) ∧
    (inMode .shutdown).mode.mode = .shutdown ∧ (inMode .flash).mode.mode ≠ .running ∧ (inMode .flash).still { tab := tab } = true ∧
    ({ running .none with mode := { mode := .shutdown, sub := .finishing } } : Rt).still { tab := tab } = true := by decide +kernel
/-- In SHUTDOWN the Stage Engine has nothing to act on while a group clears and in ALL_RED, and acts once all are in REST. -/
theorem test_still_in_shutdown :
    (let at' := fun (sub : SubPhase) (g : GroupState) =>
        withGroup 0 { state := g } (withGroup 4 { state := .rest } (withGroup 8 { state := .rest }
          { mode := { mode := .shutdown, sub := sub } }));
      (s0 (at' .clearingAll .clearing)).part.still ∧ (s0 (at' .allRed .rest)).part.still ∧
      ¬ (s0 (at' .clearingAll .rest)).part.still) := by decide +kernel
theorem witness_StopAndFlashKeyEnterShutdown_clearingAll :
    (let s := at' 200 (ripe .autonomous);
      s.part.rt.mode.mode = .running ∧ s.part.rt.notices = [] ∧ s.part.rt.stage.phase = .stageRun ∧ s.part.monitorFollows ∧
      (∃ g, tab.isDefined g = true ∧ s.part.rt.isGreen g = true ∧ 0 < tab.clearing g) ∧
      (∀ g, s.part.rt.isGreen g = true → takesGreenEnd s.part.env s.part.rt g = true) ∧
      Delivered s.part (junctionFrame ask 3 [])) := by decide +kernel
/-- The small junction with a PEDESTRIAN group G6 of clearing time 0 in S1. -/
def tabAtOnce : Tables :=
  { tab with
    groups := put tab.groups 5 (some ⟨.pedestrian, 50, 0, 0, some ⟨0x43#8, 1⟩⟩)
    stages := put tab.stages 0 (some ⟨0x121#24, 100, true, false⟩) }
/-- S1 in STAGE_RUN with G6 in GREEN beside its other groups. -/
def ripeAtOnce (src : Source) : State :=
  { part :=
      { env := { now := 200#32, tab := tabAtOnce }
        rt := { ripe src with
          groups := put (ripe src).groups 5 { state := .green, minMet := true }
          monitor := put (ripe src).monitor 5 { passed := some .green } } } }
theorem witness_StopAndFlashKeyEnterShutdown_atOnce :
    (let s := ripeAtOnce .manual;
      consistency tabAtOnce 0 = none ∧ tabAtOnce.clearing 5 = 0 ∧ s.part.rt.isGreen 5 = true ∧ s.part.monitorFollows ∧
      (∃ g, tabAtOnce.isDefined g = true ∧ s.part.rt.isGreen g = true ∧ 0 < tabAtOnce.clearing g) ∧
      (∀ g, s.part.rt.isGreen g = true → takesGreenEnd s.part.env s.part.rt g = true)) := by decide +kernel
theorem ripeAtOnce_endsCleanly : (5 : Group) ∈ losingGroups (ripeAtOnce .manual).part.env 0 1 ∧
    (ripeAtOnce .manual).part.endsCleanly 0 1 := by decide +kernel
theorem witness_RestartReturnsToInitialState : frameOk (junctionFrame ask 4 []) = true ∧
    (junctionFrame ask 4 []).dst = (s0 { ring := fullSlots }).part.env.own ∧ isReply (junctionFrame ask 4 []) = false := by
  decide +kernel
theorem witness_ClearFaultClearsLatchAndRecord : Delivered (s0 (inMode .flash)).part (junctionFrame ask 5 []) ∧
    (inMode .flash).mode.mode = .flash ∧ Delivered (s0 (inMode .shutdown)).part (junctionFrame tell 5 []) ∧
    (inMode .shutdown).mode.mode = .shutdown := by decide +kernel
theorem witness_TakeTestsAndTakesControl : Delivered (s0 (running .autonomous)).part (controlFrame ask 0 []) ∧
    (running .manual).mode.source ≠ .autonomous ∧ (running .autonomous).mode.keep.state = .inactive ∧
    ({ running .autonomous with mode := { mode := .running, source := .autonomous, keep := ⟨.active, some 50#32, none, none⟩ } } : Rt).still { tab := tab } = true := by
  decide +kernel
/-- STAGE_RUN of S1 under AUTONOMOUS with an ACTIVE keepalive. -/
def ripeKept : Rt := { ripe .autonomous with mode := { (ripe .autonomous).mode with keep := ⟨.active, some 500#32, none, none⟩ } }
theorem witness_TakeTestsAndTakesControl_run : ripeKept.inRun (at' 200 ripeKept).part.env .autonomous ⟨0, 0#32, 100#32, some 450#32, none⟩ ∧
    ripeKept.notices = [] ∧ ripeKept.mode.keep.state ≠ .inactive ∧ ripeKept.stage.pendingGo = none := by decide +kernel
theorem witness_ReleaseEndsDirected : Delivered (s0 (running .directed)).part (controlFrame ask 1 []) ∧
    (running .directed).mode.source = .directed ∧ (running .directed).still { tab := tab } = true ∧
    (running .manual).mode.source ≠ .directed ∧ (inMode .flash).mode.mode ≠ .running := by decide +kernel
theorem witness_ReleaseEndsDirected_ends :
    (let s := at' 450 (ripe .directed); let e := s.part.env; let u := s.part.rt;
      u.inRun e .directed ⟨0, 0#32, 100#32, some 450#32, none⟩ ∧ u.notices = [] ∧ u.priority.queue = [] ∧
      demandElsewhere e u = true ∧ nextAutonomous e u = some 1 ∧
      gapCounts e { u with priority := { u.priority with truncOffer := none } } = true ∧ maxOutHolds e u = true ∧
      gapCounts e { u with stage := { u.stage with current := some ⟨0, 0#32, 100#32, some 450#32, some ⟨450#32, some []⟩⟩ } } = false) := by
  decide +kernel
theorem witness_ReleaseEndsDirected_endsCleanly : (at' 450 (ripe .directed)).part.endsCleanly 0 1 := by decide +kernel
theorem witness_ReleaseEndsDirected_goesOn :
    (let s := at' 449 { ripe .directed with demand := {} };
      demandElsewhere s.part.env s.part.rt = false ∧ maxOutHolds s.part.env s.part.rt = false ∧ s.part.rt.priority.queue = []) := by
  decide +kernel
theorem witness_GoStageAndHold : Delivered (s0 (running .directed)).part (controlFrame ask 2 [2#8]) ∧
    (running .directed).mode.source = .directed ∧ stageOf 0#8 = none ∧ stageOf 17#8 = none ∧
    (stageOf 16#8 = some 15 ∧ tab.stages.get 15 = none) ∧
    (stageOf 1#8 = some 0 ∧ tab.stages.get 0 ≠ none ∧ goPermitted (s0 {}).part.env (running .directed) 0 = false) ∧
    (stageOf 2#8 = some 1 ∧ tab.stages.get 1 ≠ none ∧ goPermitted (s0 {}).part.env (running .directed) 1 = true) ∧
    (running .directed).still { tab := tab } = true ∧ (running .manual).mode.source ≠ .directed := by decide +kernel
theorem witness_GoStageAndHold_acts :
    (let s := at' 200 (ripe .directed);
      s.part.rt.inRun s.part.env .directed ⟨0, 0#32, 100#32, some 450#32, none⟩ ∧ stageOf 2#8 = some 1 ∧
      goPermitted s.part.env s.part.rt 1 = true ∧ s.part.rt.stage.hold = false ∧
      holdInEffect s.part.env s.part.rt = false) ∧ tab.stages.get 1 ≠ none := by decide +kernel
theorem witness_GoStageAndHold_endsCleanly : (at' 200 (ripe .directed)).part.endsCleanly 0 1 := by decide +kernel
/-- DIRECTED in STAGE_RUN with HOLD on and a GO_STAGE for S2 waiting. -/
def held : State := at' 200 { ripe .directed with stage := { (ripe .directed).stage with pendingGo := some 1, hold := true } }
theorem held_endsCleanly : held.part.endsCleanly 0 1 := by decide +kernel
theorem witness_GoStageAndHold_pends :
    (let s := held;
      s.part.rt.inRun s.part.env .directed ⟨0, 0#32, 100#32, some 450#32, none⟩ ∧ s.part.rt.stage.hold = true ∧
      s.part.rt.stage.pendingGo = some 1 ∧ holdInEffect s.part.env s.part.rt = false) := by decide +kernel
theorem witness_GoStageAndHold_sameStage :
    (let t : Tables := { tab with permitted := put tab.permitted 0 (put (tab.permitted.get 0) 0 (some true)) };
      goPermitted { tab := t } (ripe .directed) 0 = true ∧ stageOf 1#8 = some 0 ∧ t.stages.get 0 ≠ none) := by decide +kernel
theorem witness_PlanSelectTests : Delivered (s0 (running .manual)).part (controlFrame ask 4 [1#8]) ∧ planOf 5#8 = none ∧
    (planOf 4#8 = some 3 ∧ tab.plans.get 3 = none) ∧
    (planOf 1#8 = some 0 ∧ tab.plans.get 0 = some plan1 ∧ checkPlan tab 0 (some plan1) = none) ∧
    checkPlan { tab with stages := Vector.replicate 16 none } 0 (some plan1) = some ⟨5, .planStageUndefined, 1, 1, 0⟩ := by
  decide +kernel
theorem witness_SoftDemandTests : Delivered (s0 (running .manual)).part (controlFrame ask 5 [24#8, 1#8]) ∧ groupOf 25#8 = none ∧
    (groupOf 24#8 = some 23 ∧ tab.isDefined 23 = false) ∧ (groupOf 1#8 = some 0 ∧ tab.isDefined 0 = true) ∧
    stagesRun .running = true ∧ stagesRun .flash = false ∧ (running .manual).still { tab := tab } = true := by decide +kernel
theorem witness_SoftDemandTests_stageMin :
    (let u := running .manual;
      groupOf 5#8 = some 4 ∧ tab.isDefined 4 = true ∧ (u.groups.get 4).state ≠ .green ∧ u.notices = [] ∧
      u.stage.current = some ⟨0, 0#32, 100#32, none, none⟩ ∧ tab.inStage 0 4 = false ∧ u.stage.taken = some plan1.taken ∧
      u.stage.phase = .stageMin ∧ (running .autonomous).stage.phase = .stageMin) := by decide +kernel
/-- R69 by a soft demand in STAGE_MIN: M is the max green from the demand on; a max green below the min stage time and an M
before the min-end are raised, and a running timer stays. -/
theorem test_soft_demand_starts_maxGreen :
    (let maxOut := fun (maxGreen : Nat) (c : StageRec) =>
      (rtAfter (.softDemand tell [5#8, 0#8]) (at' 40 { running .manual with
        stage := { (running .manual).stage with
          current := some c, taken := some { plan1.taken with maxGreen := Vector.replicate 16 maxGreen } } })).stage.current.bind StageRec.maxOut;
      maxOut 300 ⟨0, 0#32, 100#32, none, none⟩ = some 340#32 ∧ maxOut 50 ⟨0, 0#32, 100#32, none, none⟩ = some 140#32 ∧
      maxOut 50 ⟨0, 0#32, 200#32, none, none⟩ = some 200#32 ∧ maxOut 300 ⟨0, 0#32, 100#32, some 77#32, none⟩ = some 77#32) := by
  decide +kernel
/-- S1 in STAGE_RUN at 200 without demand, with what its record notes of gap-out, and the same with G5's soft demand. -/
def undemanded (gap : Option GapReading) : Rt :=
  { ripe .autonomous with
    demand := { active := true }, stage := { (ripe .autonomous).stage with current := some ⟨0, 0#32, 100#32, some 450#32, gap⟩ } }
def softened (gap : Option GapReading) : Rt :=
  { undemanded gap with demand := { active := true, groups := upd (undemanded gap).demand.groups 4 fun d => { d with soft := true } } }
theorem witness_SoftDemandTests_stageRun :
    (let s := at' 200 (undemanded (some ⟨199#32, some []⟩)); let e := s.part.env; let u1 := softened (some ⟨199#32, some []⟩);
      s.part.rt.stage.phase = .stageRun ∧ s.part.rt.mode.source = .autonomous ∧ s.part.rt.priority.queue = [] ∧
      s.part.rt.priority.holdOffer = none ∧ s.part.rt.priority.truncOffer = none ∧ s.part.rt.stage.taken = some plan1.taken ∧
      gapCounts e u1 = true ∧ demandElsewhere e u1 = true ∧ nextAutonomous e u1 = some 1 ∧ reached 200#32 450#32 = false ∧
      gapCounts e (softened (some ⟨200#32, some []⟩)) = false ∧ gapCounts e (softened none) = true) := by decide +kernel
theorem witness_SoftDemandTests_endsCleanly : (at' 200 (undemanded (some ⟨199#32, some []⟩))).part.endsCleanly 0 1 := by decide +kernel
theorem witness_PriorityEnableTests : Delivered (s0 {}).part (controlFrame ask 6 [2#8]) ∧ (2#8 : Byte) ≠ 0#8 ∧ (2#8 : Byte) ≠ 1#8 ∧
    (s0 {}).part.rt.still { tab := tab } = true ∧ (s0 {}).part.rt.priority.enable = true ∧
    ({ priority := { enable := false } } : Rt).priority.enable = false := by decide +kernel
/-- Two records of G9, in slots 0 and 1, of the same level. -/
def twoTrams : Vector (Option TramRec) 8 :=
  put (put (Vector.replicate 8 none) 0 (some (tram0 .windowEnd))) 1 (some { tram0 .windowEnd with run := 211, e1 := some 36000#32 })
theorem twoTrams_get (k : TramSlot) (x : TramRec) (h : twoTrams.get k = some x) :
    k = 0 ∧ x = tram0 .windowEnd ∨ k = 1 ∧ x = { tram0 .windowEnd with run := 211, e1 := some 36000#32 } := by
  have h1 : ∀ k : TramSlot, ∀ x ∈ (twoTrams.get k).toList, k = 0 ∧ x = tram0 .windowEnd ∨
      k = 1 ∧ x = { tram0 .windowEnd with run := 211, e1 := some 36000#32 } := by decide +kernel
  exact h1 k x (by simp [h])
theorem witness_PriorityEnableTests_order : windowed twoTrams ∧ queueable (tram0 .windowEnd) = true ∧
    ([1, 0] : List TramSlot).filter (· ≠ 1) = [0] ∧ queueOrdered 0#32 twoTrams [0] := by
  refine ⟨fun k x h _ => ?_, by decide +kernel, by decide +kernel, by decide, ?_, by simp⟩
  · obtain ⟨-, rfl⟩ | ⟨-, rfl⟩ := twoTrams_get k x h <;> simp [tram0]
  · intro k hk
    obtain rfl : k = 0 := by simpa using hk
    exact ⟨tram0 .windowEnd, by decide +kernel, by decide +kernel⟩
theorem witness_PriorityEnableTests_rebuilt : rebuildQueue 0#32 true twoTrams = [0, 1] ∧
    requeue 0#32 true twoTrams 1 [1, 0] = [0, 1] := by decide +kernel
/-- R146 by the age of a check-in stamp, however long ago: 1,000 s against 2 h at the same level and E1. -/
theorem test_queue_old_checkIn :
    (let trams := put (put (Vector.replicate 8 none) 0 (some { tram0 .windowEnd with checkIn := 80000#32, e1 := some 91000#32 }))
        1 (some { tram0 .windowEnd with run := 211, checkIn := 18000#32, e1 := some 91000#32 });
      rebuildQueue 90000#32 true trams = [1, 0]) := by decide +kernel
/-- S2 in STAGE_MIN under AUTONOMOUS, with G9's trams queued behind a truncation toward S1. -/
def crossing : Rt :=
  { running .autonomous with
    stage := { (running .autonomous).stage with current := some ⟨1, 0#32, 100#32, none, none⟩, position := 2 }
    trams := twoTrams, priority := { queue := [0, 1] } }
theorem witness_PriorityEnableTests_offers :
    (let e := (s0 {}).part.env;
      crossing.mode.mode = .running ∧ crossing.inStagePhase = true ∧ crossing.stage.current = some ⟨1, 0#32, 100#32, none, none⟩ ∧
      crossing.mode.source = .autonomous ∧ crossing.priority.queue.head? = some 0 ∧ crossing.trams.get 0 = some (tram0 .windowEnd) ∧
      (tram0 .windowEnd).e1 = some 1160#32 ∧ e.tab.ra 8 ∈ [e.tab.ra 8] ∧ tab.inStage 1 8 = false ∧
      crossing.priority.lockoutDue = none ∧ (recomputeOffers e crossing).priority.truncOffer = some ⟨1157#32, 0, 0, 2⟩) ∧
    (let r : Rt := { running .autonomous with trams := twoTrams, priority := { queue := [0, 1] } };
      tab.inStage 0 8 = true ∧ (recomputeOffers (s0 {}).part.env r).priority.holdOffer = some ⟨1200#32, 0, 2⟩) ∧
    (running .manual).mode.source = .manual := by decide +kernel
theorem witness_CancelTramRemovesRecord : Delivered (s0 {}).part (controlFrame ask 7 [0#8, 4#8, 0#8, 210#8]) ∧
    ¬ num [3#8, 0xE8#8] ≤ 999 ∧ num [3#8, 0xE7#8] = 999 ∧ num [0x27#8, 0x0F#8] = 9999 ∧ tramSlot {} 999 9999 = none ∧
    tramSlot (withTram .windowEnd {}) 4 210 = some 0 ∧ (withTram .windowEnd {}).trams.get 0 = some (tram0 .windowEnd) ∧
    (withTram .windowEnd {}).still { tab := tab } = true := by decide +kernel
theorem witness_KeepaliveFrames : Delivered (s0 {}).part (ask.frame kindKeepaliveArm []) := by decide +kernel
theorem witness_KeepaliveFrames_refresh : Delivered (s0 {}).part (ask.frame kindKeepaliveRefresh []) ∧
    (s0 {}).part.rt.mode.keep.state ≠ .armed ∧
    ({ mode := { keep := { state := .armed } } } : Rt).mode.keep.state = .armed := by decide +kernel
theorem witness_KeepaliveTimersLapse :
    (let k : Keepalive := ⟨.armed, some 0#32, some 0#32, some .active⟩;
      k.state ≠ .inactive ∧ isDue 0#32 k.windowDue = true ∧ isDue 0#32 k.armDue = true ∧ k.remembered = some .active) ∧
    (let k : Keepalive := ⟨.armed, none, some 0#32, some .inactive⟩;
      k.state = .armed ∧ isDue 0#32 k.armDue = true ∧ k.remembered ≠ some .active) ∧ (running .directed).still { tab := tab } = true := by
  decide +kernel
theorem witness_SafetyWritesAreFenced : (running .manual).mode.mode = .running ∧
    Delivered (s0 (running .manual)).part (ask.frame kindTableWrite (0#8 :: zeros 12)) ∧
    Delivered (s0 (running .manual)).part (ask.frame kindTableWrite (0#8 :: zeros 4)) := by decide +kernel
theorem witness_SafetyWritesStore_pairs : (s0 {}).part.rt.mode.mode = .dark ∧
    Delivered (s0 {}).part (ask.frame kindTableWrite [0#8, 24#8, 1#8, 1#8, 1#8]) ∧ groupOf 24#8 = some 23 ∧
    groupOf 1#8 = some 0 ∧ stageOf 16#8 = some 15 ∧ markedEntry ⟨24#8, 1#8, 1#8, [1#8]⟩ parseFlag = some (some false) ∧
    markedEntry ⟨24#8, 1#8, 0#8, [0#8]⟩ parseFlag = some none ∧
    markedEntry ⟨24#8, 1#8, 1#8, [250#8]⟩ parseIntergreen = some (some 250) := by decide +kernel
theorem witness_SafetyWritesStore_stage : stageOf 16#8 = some 15 ∧
    markedEntry ⟨16#8, 0#8, 1#8, [0x80#8, 0#8, 0#8, 2#8, 0x58#8, 0#8, 1#8]⟩ parseStage = some (some ⟨0x800000#24, 600, true, false⟩) := by
  decide +kernel
theorem witness_SafetyWritesStore_refused : groupOf 25#8 = none ∧ groupOf 0#8 = none ∧ stageOf 17#8 = none ∧ (1#8 : Byte) ≠ 0#8 ∧
    groupOf 24#8 ≠ none ∧ stageOf 16#8 ≠ none ∧ markedEntry ⟨24#8, 1#8, 1#8, [2#8]⟩ parseFlag = none ∧
    markedEntry ⟨24#8, 1#8, 2#8, [0#8]⟩ parseFlag = none ∧ markedEntry ⟨24#8, 1#8, 1#8, [251#8]⟩ parseIntergreen = none ∧
    markedEntry ⟨24#8, 1#8, 1#8, [0#8]⟩ parseIntergreen = none ∧
    markedEntry ⟨16#8, 0#8, 1#8, [0#8, 0#8, 0#8, 2#8, 0x58#8, 0#8, 1#8]⟩ parseStage = none ∧
    markedEntry ⟨16#8, 0#8, 1#8, [0x80#8, 0#8, 0#8, 2#8, 0x59#8, 0#8, 1#8]⟩ parseStage = none := by decide +kernel
theorem witness_GroupWriteStores : (inMode .flash).mode.mode = .flash ∧ groupOf 2#8 = some 1 ∧
    Delivered (s0 (inMode .flash)).part (ask.frame kindTableWrite [0#8, 2#8, 0#8, 1#8, 1#8, 0#8, 80#8, 10#8, 0#8, 30#8, 1#8, 0x42#8, 0#8]) ∧
    markedEntry ⟨2#8, 0#8, 1#8, [1#8, 0#8, 80#8, 10#8, 0#8, 30#8, 1#8, 0x42#8, 0#8]⟩ (parseGroup 0x20#8) =
      some (some ⟨.vehicle, 80, 10, 30, some ⟨0x42#8, 0⟩⟩) ∧
    (∀ k : Group, ({ tab with groups := put tab.groups 1 none } : Tables).groups.get k = if k = 1 then none else tab.groups.get k) := by
  decide +kernel
theorem witness_GroupWriteStores_refused : groupOf 25#8 = none ∧ groupOf 2#8 ≠ none ∧
    markedEntry ⟨2#8, 0#8, 1#8, [1#8, 0#8, 25#8, 10#8, 0#8, 30#8, 1#8, 0x42#8, 0#8]⟩ (parseGroup 0x20#8) = none := by decide +kernel
/-- The bytes of `plan1`. -/
def planBytes : List Byte := encPlan plan1
theorem witness_OperatingWritesStore : Delivered (s0 (running .manual)).part (ask.frame kindTableWrite (b8 0 :: 2#8 :: 0#8 :: 1#8 :: planBytes)) ∧
    planOf 2#8 = some 1 ∧ planBytes.length = 81 ∧ markedEntry ⟨2#8, 0#8, 1#8, planBytes⟩ parsePlan = some (some plan1) ∧
    (1 : Plan) ≠ (running .manual).stage.activePlan ∧ entryOf 32#8 = some 31 ∧
    markedEntry ⟨32#8, 0#8, 1#8, encRoute { route7 with code := 9#8 }⟩ parseRoute = some (some { route7 with code := 9#8 }) ∧
    routeUnique tab 31 { route7 with code := 9#8 } = true ∧
    markedEntry ⟨32#8, 0#8, 1#8, [0x61#8, 1#8, 5#8]⟩ (parseButton 0x20#8) = some (some ⟨0x61#8, 1, 4⟩) ∧
    buttonUnique tab 31 ⟨0x61#8, 1, 4⟩ = true ∧ assignOf 64#8 = some 63 ∧
    markedEntry ⟨64#8, 0#8, 1#8, [7#8, 9#8, 2#8, 255#8]⟩ parseAssign = some (some ⟨6, 8, .extend, 255⟩) ∧
    assignUnique tab 63 ⟨6, 8, .extend, 255⟩ = true ∧ (running .manual).still { tab := tab } = true := by decide +kernel
theorem witness_OperatingWritesStore_settings :
    parseSettings 0x20#8 [60#8, 10#8, 0x1F#8, 0xFF#8, 0xF7#8, 1#8, 1#8, 0x71#8, 0#8, 0#8, 1#8, 1#8, 0x2C#8, 1#8, 1#8, 0xF4#8] =
      some { keepaliveWindow := 60, allowance := 10, sensorA := some 0x71#8, dimOn := some 300, dimOff := some 500 } := by
  decide +kernel
theorem witness_OperatingWritesStore_refused : planOf 5#8 = none ∧ planOf 4#8 ≠ none ∧
    markedEntry ⟨4#8, 0#8, 1#8, zeros 81⟩ parsePlan = none ∧ assignOf 65#8 = none ∧ assignOf 64#8 = some 63 ∧
    markedEntry ⟨64#8, 0#8, 1#8, [7#8, 9#8, 4#8, 255#8]⟩ parseAssign = none ∧
    markedEntry ⟨64#8, 0#8, 1#8, [7#8, 1#8, 3#8, 20#8]⟩ parseAssign = some (some ⟨6, 0, .lockingAndExtend, 20⟩) ∧
    assignUnique tab 63 ⟨6, 0, .lockingAndExtend, 20⟩ = false ∧ entryOf 33#8 = none ∧ entryOf 32#8 = some 31 ∧
    markedEntry ⟨32#8, 0#8, 1#8, [0x61#8, 8#8, 5#8]⟩ (parseButton 0x20#8) = none ∧
    markedEntry ⟨32#8, 0#8, 1#8, [0x61#8, 0#8, 1#8]⟩ (parseButton 0x20#8) = some (some ⟨0x61#8, 0, 0⟩) ∧
    buttonUnique tab 31 ⟨0x61#8, 0, 0⟩ = false ∧ markedEntry ⟨32#8, 0#8, 1#8, zeros 20⟩ parseRoute = none ∧
    markedEntry ⟨32#8, 0#8, 1#8, encRoute route7⟩ parseRoute = some (some route7) ∧ routeUnique tab 31 route7 = false ∧
    (1#8 : Byte) ≠ 0#8 ∧ parseSettings 0x20#8 (zeros 16) = none := by decide +kernel
theorem witness_OperatingWritesStore_active : stagesRun (running .manual).mode.mode = true ∧ planOf 1#8 = some 0 ∧
    (0 : Plan) = (running .manual).stage.activePlan ∧
    markedEntry ⟨1#8, 0#8, 1#8, encPlan { plan1 with sequence := [0, 2] }⟩ parsePlan = some (some { plan1 with sequence := [0, 2] }) ∧
    checkPlan tab 0 (some { plan1 with sequence := [0, 2] }) = some ⟨5, .planStageUndefined, 1, 3, 0⟩ ∧
    checkPlan tab 0 (some { plan1 with sequence := [1, 0] }) = none ∧ checkPlan tab 0 none = some ⟨5, .planEmpty, 1, 0, 0⟩ := by
  decide +kernel
/-- RUNNING with L7 in a state, assignment 1 holding G1's gap timer and assignment 2 giving for G5, G5's button lit. -/
def detecting (l7 : LoopState) : Rt :=
  { withLoop { state := l7 } (running .manual) with
    demand :=
      { active := true
        groups := put (put (Vector.replicate 24 {}) 0 { gap := .held }) 4 { nonLocking := 1, button := true }
        assigns := put (put (Vector.replicate 64 {}) 0 { holding := true }) 1 { giving := true } } }
theorem witness_AssignmentAndButtonWritesTakeEffect :
    (let s := s0 (detecting .fault); let e := s.part.env; let u := s.part.rt;
      Delivered s.part (ask.frame kindTableWrite [7#8, 1#8, 0#8, 1#8, 7#8, 1#8, 3#8, 0#8]) ∧ assignOf 1#8 = some 0 ∧
      markedEntry ⟨1#8, 0#8, 1#8, [7#8, 1#8, 3#8, 0#8]⟩ parseAssign = some (some ⟨6, 0, .lockingAndExtend, 0⟩) ∧
      assignUnique e.tab 0 ⟨6, 0, .lockingAndExtend, 0⟩ = true ∧ e.tab.assigns.get 0 ≠ none ∧
      markedEntry ⟨1#8, 0#8, 0#8, zeros 4⟩ parseAssign = some none ∧ u.demand.active = true ∧ e.tab.isDefined 0 = true ∧
      e.tab.assigns.get 63 = none ∧ u.demand.assigns.get 63 = {} ∧ loopView e u 6 = .faultOccupied ∧
      loopView e (detecting .occupied) 6 = .occupied ∧ loopView e (detecting .clear) 6 = .clear ∧ loopView e (detecting .unused) 6 = .absent ∧
      e.tab.isDefined 23 = false ∧ u.still { tab := tab } = true ∧ e.tab.loops.get 6 = some loop7 ∧ loop7.faultMode = .demand) := by decide +kernel
theorem witness_AssignmentAndButtonWritesTakeEffect_button :
    (let s := s0 (detecting .clear);
      Delivered s.part (ask.frame kindTableWrite [8#8, 1#8, 0#8, 1#8, 0x62#8, 1#8, 5#8]) ∧ entryOf 1#8 = some 0 ∧
      markedEntry ⟨1#8, 0#8, 1#8, [0x62#8, 1#8, 5#8]⟩ (parseButton s.part.env.own) = some (some ⟨0x62#8, 1, 4⟩) ∧
      buttonUnique tab 0 ⟨0x62#8, 1, 4⟩ = true ∧ tab.buttons.get 0 = some ⟨0x61#8, 0, 4⟩ ∧
      (s.part.rt.demand.groups.get 4).button = true ∧ s.part.rt.ring.aux.length + 2 ≤ 32) := by decide +kernel
/-- R115 and R120: G1's only holding entry is withdrawn, and its gap timer runs from the write; R118: a giving entry withdrawn
takes its count with it, and one written over an occupied loop with no delay gives anew. -/
theorem test_assignment_write :
    (let write := fun (i1 : Byte) (entry : List Byte) (r : Rt) => rtAfter (.tableWriteAssignment tell ([i1, 0#8, 1#8] ++ entry)) (at' 40 r);
      let away := write 1#8 [7#8, 9#8, 0#8, 5#8] (detecting .occupied);
      let again := write 2#8 [7#8, 5#8, 1#8, 0#8] (detecting .occupied);
      (away.demand.groups.get 0).gap = .running 70#32 ∧ away.demand.assigns.get 0 = ⟨some 45#32, false, false⟩ ∧
      (again.demand.groups.get 4).nonLocking = 1 ∧ (again.demand.assigns.get 1).giving = true ∧
      ((write 2#8 [7#8, 5#8, 1#8, 0#8] (detecting .clear)).demand.groups.get 4).nonLocking = 0 ∧
      ((write 1#8 [7#8, 1#8, 2#8, 0#8] (detecting .fault)).demand.groups.get 0).gap = .held) := by decide +kernel
/-- R123: a lit button moved gives unlit to the old one and lit to the new one. -/
theorem test_button_write :
    ((rtAfter (.tableWriteButton tell [1#8, 0#8, 1#8, 0x62#8, 1#8, 5#8]) (s0 (detecting .clear))).ring.aux.map
      fun f => (f.dst, f.payload)) = [(0x61#8, [0#8, 1#8]), (0x62#8, [1#8, 0#8])] := by decide +kernel
theorem witness_LoopWriteResetsLoop : (s0 {}).part.rt.mode.mode = .dark ∧ (s0 {}).part.rt.still { tab := tab } = true ∧ loopOf 32#8 = some 31 ∧
    Delivered (s0 {}).part (ask.frame kindTableWrite (6#8 :: 32#8 :: 0#8 :: 1#8 :: encLoop { loop7 with channel := 3 })) ∧
    (encLoop { loop7 with channel := 3 }).length = 20 ∧
    markedEntry ⟨32#8, 0#8, 1#8, encLoop { loop7 with channel := 3 }⟩ (parseLoop 0x20#8) = some (some { loop7 with channel := 3 }) ∧
    loopRelationsOk tab 31 { loop7 with channel := 3 } = true ∧
    (∀ c ∈ (s0 (withLoop {} {})).part.rt.loops.cards, c.silent = false) := by decide +kernel
theorem witness_LoopWriteResetsLoop_refused : loopOf 33#8 = none ∧ loopOf 32#8 = some 31 ∧
    markedEntry ⟨32#8, 0#8, 1#8, zeros 20⟩ (parseLoop 0x20#8) = none ∧
    markedEntry ⟨32#8, 0#8, 1#8, encLoop loop7⟩ (parseLoop 0x20#8) = some (some loop7) ∧ loopRelationsOk tab 31 loop7 = false := by
  decide +kernel
/-- FLASH with the silent card 0x52 (R108). -/
def silentCard : Rt := { inMode .flash with loops := { cards := [{ addr := 0x52#8, silent := true }] } }
theorem witness_LoopWriteResetsLoop_outsideDark :
    (let x := { loop7 with card := 0x52#8 };
      silentCard.mode.mode ≠ .dark ∧ silentCard.still { tab := tab } = true ∧ loopOf 32#8 = some 31 ∧ parseLoop 0x20#8 (encLoop x) = some x ∧
      loopRelationsOk tab 31 x = true ∧ tab.loops.get 31 = none ∧
      silentCard.cardRec x.card = some { addr := 0x52#8, silent := true } ∧ ({ addr := 0x52#8, silent := true } : CardRec).wait = [] ∧
      (inMode .flash).cardRec x.card = none ∧ tab.cardLoops x.card = []) := by decide +kernel
theorem witness_TableReadAnswers : Delivered (s0 {}).part (ask.frame kindTableRead [10#8, 0#8, 0#8]) ∧ (10#8 : Byte).toNat ≤ 10 ∧
    asks (s0 {}).part.env (ask.frame kindTableRead [10#8, 0#8, 0#8]) = true ∧
    Delivered (s0 {}).part (tell.frame kindTableRead [11#8, 0#8, 0#8]) ∧ 10 < (11#8 : Byte).toNat ∧
    asks (s0 {}).part.env (tell.frame kindTableRead [10#8, 0#8, 0#8]) = false := by decide +kernel
theorem witness_TableReadAnswers_outOfRange : 32 < (33#8 : Byte).toNat ∧ 16 < (17#8 : Byte).toNat ∧ (1#8 : Byte) ≠ 0#8 := by
  decide
/-- R190 on the small junction: entries as stored, empty entries, and indexes at and beyond their bounds. -/
theorem test_table_read :
    readEntry tab 9 1#8 0#8 = some ([1, 7, 31, 0, 0, 33, 9, 0, 0, 0, 180, 20, 1, 0, 60, 0, 30, 0, 100, 0, 100].map b8) ∧
    readEntry tab 2 5#8 1#8 = some [1#8, 100#8] ∧ readEntry tab 2 1#8 24#8 = some [0#8, 0#8] ∧ readEntry tab 2 1#8 25#8 = none ∧
    readEntry tab 7 64#8 0#8 = some (zeros 5) ∧ readEntry tab 7 65#8 0#8 = none ∧ readEntry tab 7 1#8 1#8 = none ∧
    readEntry tab 10 0#8 0#8 = some ([1, 5, 3, 0x1F, 0xFF, 0xF7, 1] ++ List.replicate 10 0 |>.map b8) ∧
    readEntry tab 10 0#8 1#8 = none ∧ readEntry tab 11 0#8 0#8 = none := by decide +kernel
theorem witness_StoredEntriesReadBack_roundTrip :
    (parseGroup 0x20#8 [1#8, 0#8, 80#8, 10#8, 0#8, 30#8, 1#8, 0x42#8, 0#8]).isSome = true ∧ (parsePlan (encPlan plan1)).isSome = true ∧
    (parseRoute (encRoute route12)).isSome = true ∧ (parseSettings 0x20#8 (encSettings {})).isSome = true := by decide +kernel
theorem witness_StoredEntriesReadBack :
    (parseStage [0#8, 0#8, 1#8, 2#8, 0x58#8, 1#8, 0#8]).isSome = true ∧ (parseLoop 0x20#8 (encLoop loop7)).isSome = true ∧
    (parseAssign [32#8, 24#8, 3#8, 255#8]).isSome = true ∧ (parseButton 0x20#8 [126#8, 7#8, 24#8]).isSome = true ∧
    parseIntergreen [1#8] = some 1 ∧ parseFlag [1#8] = some false := by decide +kernel
/-- Entries whose fields lie at their bounds are carried (R2, R20, R62, R89, R113, R123, R132, R175, R191). -/
theorem witness_StoredEntriesReadBack_bounds :
    (parseStage [0x80#8, 0#8, 0#8, 2#8, 0x58#8, 0#8, 1#8]).isSome = true ∧
    (parseGroup 0x20#8 [1#8, 2#8, 0x58#8, 30#8, 0#8, 60#8, 1#8, 126#8, 3#8]).isSome = true ∧
    (parseGroup 0x20#8 [2#8, 0#8, 40#8, 0#8, 1#8, 0x2C#8, 1#8, 2#8, 0#8]).isSome = true ∧
    (parseGroup 0x20#8 [3#8, 0#8, 20#8, 30#8, 0#8, 20#8, 1#8, 2#8, 0#8]).isSome = true ∧ (parseGroup 0x20#8 (zeros 9)).isSome = true ∧
    (parsePlan (encPlan { plan1 with
      sequence := List.finRange 16, maxGreen := Vector.replicate 16 1200, gapTime := Vector.replicate 24 100
      startStage := 15, startFlash := 300, allRed := 100, extLimit := 600, lockout := 1200 })).isSome = true ∧
    (parseLoop 0x20#8 (encLoop { loop7 with
      card := 126#8, channel := 3, onThreshold := 20000, offThreshold := 19999, debounceOn := 15, debounceOff := 15
      trackShift := 12, maxPresence := 3600, recovery := 255, cmin := 1, cmax := 16777215 })).isSome = true ∧
    (parseRoute (encRoute { route12 with travel := 1200, spread := 100, baseLevel := 3, late := 600, early := 600, maxExt := 300, guardTime := 300 })).isSome = true ∧
    (parseSettings 0x20#8 (encSettings { keepaliveWindow := 60, allowance := 10, mask := 0x1FFFFF#21, dimOn := some 0, dimOff := some 1 })).isSome = true := by
  decide +kernel
/-- The same entries with one field a step outside its range are not. -/
theorem test_entry_ranges_refused :
    parseStage [0x80#8, 0#8, 0#8, 2#8, 0x59#8, 0#8, 1#8] = none ∧ parseStage (zeros 7) = none ∧
    parseGroup 0x20#8 [1#8, 2#8, 0x58#8, 31#8, 0#8, 60#8, 1#8, 126#8, 3#8] = none ∧
    parseGroup 0x20#8 [1#8, 2#8, 0x58#8, 30#8, 0#8, 61#8, 1#8, 126#8, 3#8] = none ∧
    parseGroup 0x20#8 [2#8, 0#8, 39#8, 0#8, 1#8, 0x2C#8, 1#8, 2#8, 0#8] = none ∧
    parseGroup 0x20#8 [3#8, 0#8, 20#8, 30#8, 0#8, 20#8, 1#8, 0x20#8, 0#8] = none ∧
    parseGroup 0x20#8 [3#8, 0#8, 20#8, 30#8, 0#8, 20#8, 1#8, 2#8, 4#8] = none ∧
    parsePlan (encPlan { plan1 with sequence := [0, 0] }) = none ∧ parsePlan (encPlan { plan1 with allRed := 19 }) = none ∧
    parseLoop 0x20#8 (encLoop { loop7 with offThreshold := 1500 }) = none ∧ parseLoop 0x20#8 (encLoop { loop7 with maxPresence := 9 }) = none ∧
    parseLoop 0x20#8 (encLoop { loop7 with recovery := 15 }) = none ∧ parseLoop 0x20#8 (encLoop { loop7 with cmin := 50000 }) = none ∧
    parseAssign [33#8, 24#8, 3#8, 255#8] = none ∧ parseButton 0x20#8 [0x20#8, 7#8, 24#8] = none ∧
    parseRoute (encRoute { route12 with travel := 9 }) = none ∧ parseRoute (encRoute { route12 with late := 601 }) = none ∧
    parseSettings 0x20#8 (encSettings { keepaliveWindow := 61 }) = none ∧
    parseSettings 0x20#8 (encSettings { dimOn := some 1, dimOff := some 1 }) = none ∧
    parseSettings 0x20#8 (encSettings { sensorA := some 0x71#8, sensorB := some 0x71#8 }) = none := by decide +kernel
theorem witness_StoredEntriesReadBack_marker :
    (∀ b ∈ zeros 9, b = 0#8) ∧ (2#8 : Byte) ≠ 0#8 ∧ (2#8 : Byte) ≠ 1#8 ∧
    markedEntry ⟨1#8, 0#8, 0#8, zeros 9⟩ (parseGroup 0x20#8) = some none := by decide +kernel
theorem witness_QueriesAnswerAndClear : Delivered (s0 {}).part (queryFrame ask 0 []) ∧
    asks (s0 {}).part.env (queryFrame ask 0 []) = true ∧ Delivered (s0 {}).part (queryFrame tell 0 []) ∧
    asks (s0 {}).part.env (queryFrame tell 0 []) = false ∧ tramSlotOf 7#8 = some 7 ∧ 8 ≤ (8#8 : Byte).toNat := by decide +kernel
/-- R196: 32 vehicle counts in loop order, then the served counts. -/
theorem test_counts_layout :
    (let r : Rt :=
        { loops := { recs := put (put (Vector.replicate 32 {}) 0 { vehicles := 258 }) 31 { vehicles := 65535 } }
          priority := { served := put (Vector.replicate 3 0) 2 300 } };
      countsBytes r = [1#8, 2#8] ++ zeros 60 ++ [255#8, 255#8] ++ zeros 4 ++ [1#8, 44#8]) := by decide +kernel
/-- A LOOP_COUNTS payload whose channel 2 carries a count and the echo 3. -/
def counts (c : Nat) : List Byte := zeros 8 ++ enc3 c ++ [3#8] ++ zeros 4
theorem witness_ClearLoopJudgesSample :
    (let s := s0 (withLoop { state := .clear, setting := some 3, bf := some 10240000 } (inMode .flash));
      let y := s.part.rt.loops.recs.get 6;
      dstOk (fieldFrom 0x51#8).dst = true ∧ (counts 39850).length = 16 ∧ s.part.rt.mode.mode ≠ .dark ∧
      (s.part.rt.cardRec 0x51#8).isSome = true ∧ tab.loops.get 6 = some loop7 ∧ channelLoop tab 0x51#8 loop7.channel = some (6, loop7) ∧
      y.state = .clear ∧ y.bf = some 10240000 ∧ y.setting = some (channelSample (counts 39850) 2).echo ∧
      (channelSample (counts 39850) 2).count = 39850 ∧ loop7.cmin ≤ 39850 ∧ 39850 ≤ loop7.cmax ∧
      (1500 : Int) ≤ deviation 40000 39850 ∧ deviation 40000 40010 < 1500 ∧ y.onCount + 1 < loop7.debounceOn) := by decide +kernel
/-- FLASH with L7 in a state, its card not silent. -/
def sampling (y : LoopRec) : State := at' 1000 (withLoop y (inMode .flash))
theorem sampling_takes (y : LoopRec) (n : Nat) : (sampling y).part.takesSample (fieldFrom 0x51#8) (counts n) 6 loop7 :=
  by
  exact ⟨by decide, rfl, nofun, ⟨_, rfl, rfl⟩, rfl, rfl⟩
theorem witness_ClearLoopJudgesSample_occupied :
    (let y : LoopRec := { state := .occupied, setting := some 3, bf := some 10240000, occupiedAt := some 400#32, offCount := 2 };
      (sampling y).part.rt.loops.recs.get 6 = y ∧ loop7.inside (channelSample (counts 40000) 2) ∧
      y.setting = some (channelSample (counts 40000) 2).echo ∧ -20000 < deviation 40000 40000 ∧ 0 < loop7.maxPresence ∧
      10 * loop7.maxPresence ≤ ((1000#32 : Time) - 400#32).toNat ∧ ((1000#32 : Time) - 401#32).toNat < 10 * loop7.maxPresence ∧
      deviation 40000 40000 < (loop7.offThreshold : Int) ∧ (loop7.offThreshold : Int) ≤ deviation 40000 39968 ∧
      loop7.debounceOff ≤ y.offCount + 1 ∧ 0 + 1 < loop7.debounceOff ∧ deviation 40000 40800 ≤ -20000 ∧
      loop7.inside (channelSample (counts 40800) 2)) := by decide +kernel
theorem witness_ClearLoopJudgesSample_settling :
    (let y : LoopRec := { state := .settling, setting := some 3, bf := some 10240000, settlingCount := 31 };
      (sampling y).part.rt.loops.recs.get 6 = y ∧ 32 ≤ y.settlingCount + 1 ∧ 30 + 1 < 32 ∧ y.bf = some 10240000) := by decide +kernel
theorem witness_ClearLoopJudgesSample_invalid :
    (let y : LoopRec := { state := .clear, setting := some 3, bf := some 10240000, invalidRun := 2 };
      (sampling y).part.rt.loops.recs.get 6 = y ∧ ¬ loop7.inside (channelSample (counts 0) 2) ∧
      ¬ loop7.inside (channelSample (counts 29999) 2) ∧ 3 ≤ y.invalidRun + 1 ∧ 1 + 1 < 3) := by decide +kernel
theorem witness_DeviationAndTracking : 0 < 40000 ∧ 2 ≤ 8 ∧ 10240000 < 40010 * 256 ∧ 39990 * 256 < 10240000 := by decide
/-- R95 at its bounds: a difference of 2^k gives the step 1, one below it the least step, one from 2^(k+1) on the step 2. -/
theorem test_tracking_bounds : track 8 10240000 40001 = 10240001 ∧ track 8 10240001 40001 = 10240002 ∧
    track 8 10240000 40002 = 10240002 ∧ track 8 10240001 40000 = 10240000 ∧ track 8 10240512 40000 = 10240510 ∧
    track 0 10240000 39999 = 10239744 := by decide
/-- The telegram of line 4 run 210 on route 7, of a type, from a point. -/
def telegram (point type route : Byte) : List Byte := [point, type, 0#8, 4#8, 0#8, 210#8, route, 0#8, 95#8]
theorem witness_TelegramPlacesRecord :
    (telegramOf (telegram 31#8 0#8 7#8)).any telegramFieldsOk = true ∧ (telegramOf (telegram 40#8 0#8 12#8)).any telegramFieldsOk = true ∧
    routeOf tab 7#8 = some route7 ∧ routeOf tab 12#8 = some route12 ∧ (31#8 : Byte) = route7.checkIn ∧ route7.door = none ∧
    (40#8 : Byte) = route12.checkIn ∧ route12.door = some 41#8 ∧ (telegramOf (telegram 41#8 1#8 12#8)).any telegramFieldsOk = true ∧
    (tramSlot (running .manual) 4 210).or (freeSlot (running .manual)) = some 0 ∧
    (tramSlot (withTram .windowEnd (running .manual)) 4 210).or (freeSlot (running .manual)) = some 0 ∧
    (running .manual).still { tab := tab } = true := by decide +kernel
/-- A tram table without a free slot. -/
def fullTable : Rt := { running .manual with trams := Vector.replicate 8 (some { tram0 .windowEnd with run := 211 }) }
theorem witness_TelegramPlacesRecord_refused :
    (telegramOf (telegram 0#8 0#8 7#8)).any (fun x => x.point = 0#8) = true ∧
    (telegramOf (telegram 31#8 4#8 7#8)).any (fun x => 4 ≤ x.typeCode.toNat) = true ∧
    (telegramOf [31#8, 3#8, 3#8, 0xE8#8, 0#8, 210#8, 7#8, 0#8, 95#8]).any (fun x => 999 < x.line) = true ∧
    (telegramOf [31#8, 3#8, 3#8, 0xE7#8, 0#8, 210#8, 7#8, 0#8, 95#8]).any (fun x => x.line = 999) = true ∧
    (telegramOf [31#8, 3#8, 0#8, 1#8, 0x27#8, 0x10#8, 7#8, 0#8, 95#8]).any (fun x => 9999 < x.run) = true ∧
    (telegramOf [31#8, 3#8, 0#8, 0#8, 0x27#8, 0x0F#8, 7#8, 0#8, 95#8]).any (fun x => x.line < 1 ∧ x.run = 9999) = true ∧
    routeOf tab 8#8 = none ∧ (32#8 : Byte) ≠ route7.checkIn ∧ route7.door ≠ some 31#8 ∧ (31#8 : Byte) ≠ route7.checkOut ∧
    tramSlot fullTable 4 210 = none ∧ freeSlot fullTable = none ∧ fullTable.still { tab := tab } = true ∧ fullTable.mode.mode ≠ .dark ∧
    fullTable.ring.head.queue.length < 16 ∧
    Instr.telegramDoorClosed (fieldFrom 9#8) (telegram 41#8 1#8 12#8) ∈ fieldRows (fieldFrom 9#8) (telegram 41#8 1#8 12#8) := by
  decide +kernel
theorem witness_TelegramRemovesRecord : (telegramOf (telegram 33#8 2#8 7#8)).any telegramFieldsOk = true ∧
    (33#8 : Byte) = route7.checkOut ∧ (telegramOf (telegram 1#8 3#8 7#8)).any telegramFieldsOk = true ∧
    tramSlot (withTram .windowEnd (running .manual)) 4 210 = some 0 ∧ (withTram .windowEnd (running .manual)).still { tab := tab } = true ∧
    tramSlot (running .manual) 4 210 = none ∧ (running .manual).ring.head.queue.length < 16 := by decide +kernel
/-- A LAMP_STATUS payload whose slot 0 echoes AMBER, every output OFF. -/
def amberStatus : List Byte := [4#8, 1#8, 1#8, 1#8] ++ [0#8, 1#8, 1#8, 1#8] ++ [0#8, 1#8, 1#8, 1#8] ++ [0#8, 1#8, 1#8, 1#8]
theorem witness_LampStatusConfirmsGreenEnd :
    (let r := withModule (running .autonomous);
      let s := s0 { r with
        lamp := { r.lamp with confirms := put (Vector.replicate 24 none) 0 (some ⟨0#32, 10#32⟩) }
        monitor := put (Vector.replicate 24 {}) 0 { passed := some .clearing, clearingSeen := some 0#32, awaiting := true } };
      dstOk (fieldFrom 0x41#8).dst = true ∧ amberStatus.length = 16 ∧ (s.part.rt.moduleRec 0x41#8).isSome = true ∧
      s.part.rt.notices = [] ∧ s.part.rt.stage.phase ≠ .interstage ∧ s.part.rt.stage.inter = none ∧
      (∀ (a : Slot) (o : Fin 3), (slotOutput amberStatus a o).toNat < 2) ∧ tab.holder 0x41#8 0 = some 0 ∧
      (s.part.rt.lamp.confirms.get 0).isSome = true ∧ (s.part.rt.monitor.get 0).awaiting = true ∧
      confirmsGreenEnd (tab.gtype 0) (tab.clearing 0) (slotEcho amberStatus 0) = true) := by decide +kernel
/-- The interstage from S1 to S2, waiting for G1's confirmation. -/
def interstage1 : Interstage :=
  { fromStage := some 0, toStage := 1, t0 := 0#32, cause := .gap, continuing := []
    losing := [{ group := 0, clearingEnd := 30#32 }, { group := 8, clearingEnd := 30#32 }]
    gaining := [{ group := 4, constraining := [0] }] }
/-- RUNNING in that interstage: G1 and G9 clear, G5 waits in REST. -/
def between : Rt :=
  { running .autonomous with
    groups := put (put (put (Vector.replicate 24 {}) 0 { state := .clearing, clearingDue := some 30#32 })
      8 { state := .rest }) 4 { state := .rest }
    lamp := { modules := [{ addr := 0x41#8 }], confirms := put (Vector.replicate 24 none) 0 (some ⟨0#32, 10#32⟩) }
    stage := { (running .autonomous).stage with
      phase := .interstage, inter := some interstage1, greenEnds := put (Vector.replicate 24 .absent) 0 .awaiting } }
theorem witness_LampStatusConfirmsGreenEnd_interstage :
    (let s := at' 5 between; let u := s.part.rt;
      amberStatus.length = 16 ∧ u.moduleRec 0x41#8 = some { addr := 0x41#8 } ∧ u.notices = [] ∧ u.stage.phase = .interstage ∧
      u.stage.inter = some interstage1 ∧ interstage1.complete = false ∧
      (∀ (a : Slot) (o : Fin 3), (slotOutput amberStatus a o).toNat < 2) ∧ tab.holder 0x41#8 0 = some 0 ∧
      (∀ (a : Slot) (i : Group), tab.holder 0x41#8 a = some i → (u.lamp.confirms.get i).isSome = true → i = 0) ∧
      (u.lamp.confirms.get 0).isSome = true ∧ u.stage.greenEnds.get 0 = .awaiting ∧
      confirmsGreenEnd (tab.gtype 0) (tab.clearing 0) (slotEcho amberStatus 0) = true ∧
      (interstage1.gaining.map Gaining.group).Nodup ∧
      (∀ x ∈ interstage1.gaining, x.greenAt = none ∧ (∀ i ∈ x.constraining, i = 0) ∧ (0 : Group) ∈ x.constraining ∧
        tab.ra x.group < tab.ig 0 x.group ∧ tab.ig 0 x.group ≤ 36000 ∧ (u.groups.get x.group).state = .rest ∧
        (u.groups.get x.group).pendingGreen = none)) := by decide +kernel
theorem witness_LampStatusConfirmsGreenEnd_waits :
    (let x : Gaining := { group := 4, constraining := [0, 8] };
      ∃ i ∈ x.constraining, i ≠ 0 ∧ ∀ c, between.stage.greenEnds.get i ≠ .confirmed c) :=
  ⟨8, by decide, by decide, fun c h => by
    have : between.stage.greenEnds.get 8 = .absent := by decide +kernel
    rw [this] at h; cases h⟩
theorem witness_PanelKeysSetSource_step :
    (let s := at' 200 (ripe .manual);
      s.part.rt.inRun s.part.env .manual ⟨0, 0#32, 100#32, some 450#32, none⟩ ∧ s.part.rt.notices = [] ∧
      nextManual s.part.env s.part.rt = some 1) := by decide +kernel
theorem ripe_manual_endsCleanly : (at' 200 (ripe .manual)).part.endsCleanly 0 1 := by decide +kernel
theorem witness_PanelKeysSetSource_noStep :
    nextManual { tab := { tab with permitted := Vector.replicate 16 (Vector.replicate 16 none) } } (ripe .manual) = none := by
  decide +kernel
theorem witness_PanelKeysSetSource : dstOk (fieldFrom 3#8).dst = true ∧ (running .directed).still { tab := tab } = true ∧
    (running .directed).mode.mode = .running ∧ (running .manual).mode.source = .manual ∧ (running .manual).still { tab := tab } = true ∧
    (inMode .flash).mode.mode ≠ .running ∧ (inMode .flash).still { tab := tab } = true := by decide +kernel
theorem witness_PushButtonLatchesDemand : (running .manual).still { tab := tab } = true ∧ buttonOf tab 0x61#8 0#8 = some ⟨0x61#8, 0, 4⟩ ∧
    ({ running .manual with demand := { active := true } } : Rt).demand.active = true ∧ tab.gtype 4 = .pedestrian ∧
    ((running .manual).groups.get 4).state ≠ .green ∧ (running .manual).demand.active = false := by decide +kernel
theorem witness_PushButtonLatchesDemand_full :
    (let r : Rt := { detecting .clear with ring := { aux := List.replicate 32 waiting.frame } };
      r.still { tab := tab } = true ∧ r.demand.active = true ∧ (r.demand.groups.get 4).button = true ∧ r.ring.head.queue.length < 16 ∧
      32 ≤ r.ring.aux.length ∧ r.ring.aux = waiting.frame :: r.ring.aux.tail ∧ (detecting .clear).ring.aux.length < 32) := by
  decide +kernel
theorem witness_DimmingSteps : sensorOf { sensorA := some 0x71#8 } 0x71#8 = some .a ∧ sensorOf { sensorB := some 0x72#8 } 0x72#8 = some .b ∧
    (let x : LampUnit := { sensorA := ⟨some 280, some 0#32, some 0#32⟩, sensorB := ⟨some 280, some 0#32, some 0#32⟩, run := some ⟨0#32, 0#32⟩, settlingDue := some 0#32 };
      isDue 0#32 x.sensorA.freshDue = true ∧ isDue 0#32 x.sensorB.freshDue = true ∧
      (x.run.map QualifyRun.due).any (reached 0#32) = true ∧ isDue 0#32 x.settlingDue = true) := by decide +kernel
theorem witness_DimmingSteps_run :
    (let x : Settings := { sensorA := some 0x71#8, sensorB := some 0x72#8, dimOn := some 300, dimOff := some 500 };
      let u : LampUnit := { sensorA := ⟨some 280, some 0#32, some 100#32⟩, selected := some .a, run := some ⟨0#32, 600#32⟩ };
      sensorOf x 0x71#8 = some .a ∧ sensorOf x 0x72#8 = some .b ∧ num [1#8, 0x2B#8] < 300 ∧ ¬ num [1#8, 0x2C#8] < 300 ∧
      u.brightness = .bright ∧ 500 < num [1#8, 0xF5#8] ∧ ¬ 500 < num [1#8, 0xF4#8] ∧ u.sensorA.freshDue.isSome = true) := by
  decide +kernel
theorem witness_PhaseEndsOfStartupAndShutdown :
    (let s := s0 { withGroup 0 { state := .flashing } {} with
        mode := { mode := .startup, sub := .startFlash, phaseDue := some 0#32, startValues := some ⟨0, 50, 30⟩ } };
      phaseOver s.part.env s.part.rt .startup .startFlash = true ∧ s.part.rt.mode.startValues = some ⟨0, 50, 30⟩ ∧
      s.part.rt.still { tab := tab } = true ∧ s.part.rt.stage.phase = .idle ∧ ∀ g : Group, (s.part.rt.groups.get g).state = flashState tab g) ∧
    (let s := s0 { mode := { mode := .shutdown, sub := .allRed, phaseDue := some 0#32 } };
      phaseOver s.part.env s.part.rt .shutdown .allRed = true) := by decide +kernel
theorem witness_PhaseEndsOfStartupAndShutdown_allRed :
    (let s := at' 30 { withGroup 4 { state := .rest } (withGroup 8 { state := .rest } (withGroup 0 { state := .clearing, clearingDue := some 30#32 } {})) with
        mode := { mode := .shutdown, sub := .clearingAll }, stage := { taken := some plan1.taken } };
      let u := s.part.rt;
      u.mode.mode = .shutdown ∧ u.mode.sub = .clearingAll ∧ u.stage.phase = .idle ∧ u.notices = [] ∧
      u.stage.taken = some plan1.taken ∧ (u.groups.get 0).state = .clearing ∧ isDue 30#32 (u.groups.get 0).clearingDue = true ∧
      ∀ k : Group, k ≠ 0 → tab.isDefined k = true → (u.groups.get k).state = .rest) := by decide +kernel
theorem witness_StartupAllRedEndBeginsFirstInterstage_orders :
    (let u := withGroup 8 { state := .rest } (withGroup 0 { state := .rest } (inMode .startup));
      tab.greenSet 0 = [0, 8] ∧ (∀ g ∈ tab.greenSet 0, (u.groups.get g).state = .rest ∧ (u.groups.get g).pendingGreen = none) ∧
      tab.ra 0 = 10 ∧ tab.ra 8 = 0) := by decide +kernel
theorem witness_StartupAllRedEndBeginsFirstInterstage :
    (let s := s0 { mode := { mode := .startup, sub := .allRed, phaseDue := some 0#32, startValues := some ⟨0, 50, 30⟩ } };
      phaseOver s.part.env s.part.rt .startup .allRed = true ∧ s.part.rt.mode.startValues = some ⟨0, 50, 30⟩) := by decide +kernel
theorem witness_GroupMoments :
    startingNow (s0 {}).part.env (withGroup 0 { state := .rest, pendingGreen := some 10#32 } {}) 0 = true ∧
    greenNow (s0 {}).part.env (withGroup 0 { state := .starting, pendingGreen := some 0#32 } {}) 0 = some 0#32 ∧
    (let x : GroupRec := { state := .green, minGreenDue := some 0#32 }; x.state = .green ∧ isDue 0#32 x.minGreenDue = true) ∧
    (let x : GroupRec := { state := .clearing, clearingDue := some 0#32 }; x.state = .clearing ∧ isDue 0#32 x.clearingDue = true) := by
  decide +kernel
theorem witness_GroupMoments_stageStart :
    (let k := { interstage1 with losing := [⟨0, 30#32, some 5#32, false⟩, ⟨8, 30#32, some 5#32, true⟩], gaining := [⟨4, [0], some 20#32, true⟩] };
      let s := at' 30 { between with
        groups := put between.groups 4 { state := .green, greenStart := some 20#32 }
        monitor := put (Vector.replicate 24 {}) 4 { passed := some .green }
        stage := { between.stage with inter := some k } };
      let u := s.part.rt;
      u.mode.mode = .running ∧ u.notices = [] ∧ u.stage.phase = .interstage ∧ u.stage.inter = some k ∧
      (u.groups.get 0).state = .clearing ∧ isDue 30#32 (u.groups.get 0).clearingDue = true ∧
      (∀ x ∈ k.gaining, x.green = true) ∧ (∀ x ∈ k.losing, x.group ≠ 0 → x.rest = true) ∧ s.part.monitorFollows ∧
      tab.plans.get u.stage.activePlan = some plan1 ∧ 0 < tab.minStage k.toStage ∧ tab.minStage k.toStage ≤ 36000) := by
  decide +kernel
theorem witness_GroupMoments_firstStage :
    (let k : Interstage := { fromStage := none, toStage := 0, t0 := 0#32, losing := [], continuing := [], cause := .first, gaining := [⟨0, [], some 10#32, false⟩, ⟨8, [], some 0#32, true⟩] };
      let s := at' 10 { withGroup 0 { state := .starting, pendingGreen := some 10#32 } {} with
        mode := { mode := .startup, sub := .firstStart, source := .autonomous }, stage := { phase := .interstage, inter := some k } };
      let u := s.part.rt; let u1 := { u with groups := upd u.groups 0 (GroupRec.enterGreen 10#32 (tab.minGreen 0)) };
      u.mode.mode = .startup ∧ u.mode.sub = .firstStart ∧ u.notices = [] ∧ u.stage.phase = .interstage ∧ u.stage.inter = some k ∧
      k.losing = [] ∧ (∀ x ∈ k.gaining, x.group ≠ 0 → x.green = true) ∧ greenNow s.part.env u 0 = some 10#32 ∧
      tab.slotOf 0 = some ⟨0x41#8, 0⟩ ∧
      monitorCheck s.part.env u1 ⟨0x41#8, slotAspects s.part.env u1 0x41#8, u.lamp.brightness⟩ = none ∧
      tab.plans.get u.stage.activePlan = some plan1 ∧ 0 < tab.minStage k.toStage) := by decide +kernel
/-- An aspect frame that shows G1 GREEN. -/
def greenFrame : AspectFrame := ⟨0x41#8, put (Vector.replicate 4 .dark) 0 .green, .bright⟩
/-- R4, R166: G1's entries into STARTING and GREEN and its green end hand RED_AMBER, GREEN and AMBER to its module, beside
G5's DONT_WALK; G5's right of way stops G1's frame. -/
theorem test_aspects_handed_on :
    (let base := withModule (withGroup 4 { state := .rest } (withGroup 0 { state := .rest, pendingGreen := some 1010#32 } {}));
      let sent := fun (r : Rt) => ((r.moduleRec 0x41#8).bind ModuleRec.sentAspects, r.ring.aspects.map Frame.payload);
      let row := fun (a : Aspect) => put (put (Vector.replicate 4 Aspect.dark) 0 a) 2 .dontWalk;
      let starting := rtAfter (.groupEnterStarting 0) (at' 1000 base);
      let green := rtAfter (.groupEnterGreen 0) (at' 1010 starting);
      let blocked := rtAfter (.groupEnterStarting 0) (at' 1000 { base with monitor := put (Vector.replicate 24 {}) 4 { rightOfWay := true } });
      sent starting = (some (row .redAmber), [[2#8, 0#8, 6#8, 0#8, 0#8]]) ∧
      (sent green).1 = some (row .green) ∧ (sent green).2.getLast? = some [3#8, 0#8, 6#8, 0#8, 0#8] ∧
      (tab.gtype 0, GroupState.starting, Aspect.redAmber) ∈ aspectTable ∧ (blocked.groups.get 0).state = .starting) := by
  decide +kernel
/-- The table that the statements read is R4's, and the model's aspects follow it. -/
theorem test_aspect_table : (∀ x ∈ aspectTable, aspectOf x.1 x.2.1 = x.2.2) ∧ aspectTable.length = 15 := by decide
theorem witness_GroupMoments_aspects :
    tab.slotOf 0 = some ⟨0x41#8, 0⟩ ∧ tab.holder 0x41#8 2 = some 4 ∧ tab.holder 0x41#8 1 = none ∧
    ({ tab with groups := put tab.groups 8 (some ⟨.tram, 60, 0, 30, none⟩) } : Tables).slotOf 8 = none ∧
    monitorCheck (s0 {}).part.env {} greenFrame = none ∧
    monitorCheck (s0 {}).part.env { monitor := put (Vector.replicate 24 {}) 4 { rightOfWay := true } }
      { greenFrame with aspects := put greenFrame.aspects 2 .flashWalk } ≠ none := by decide +kernel
/-- A stage record of S1 with the max-green timer running to 450. -/
def stage1 : StageRec := ⟨0, 0#32, 100#32, some 450#32, none⟩
theorem witness_StageMomentsReadConditions :
    (let r := ripe .autonomous;
      r.stage.current = some stage1 ∧ r.notices = [] ∧ stage1.maxOut.isSome = true ∧ r.mode.mode = .running ∧
      ({ r with stage := { r.stage with phase := .stageMin } } : Rt).stage.phase = .stageMin ∧ reached 100#32 stage1.minEnd = true ∧
      r.stage.phase = .stageRun ∧ isDue 450#32 stage1.maxOut = true ∧ isDue 449#32 stage1.maxOut = false) := by decide +kernel
theorem witness_StageMomentsReadConditions_normal :
    (let s := at' 450 (ripe .autonomous);
      holdInEffect s.part.env s.part.rt = false ∧ demandElsewhere s.part.env s.part.rt = true ∧
      s.part.rt.priority.truncOffer = none ∧ nextAutonomous s.part.env s.part.rt = some 1 ∧
      maxOutHolds s.part.env s.part.rt = true ∧ s.part.endsCleanly 0 1) := by decide +kernel
theorem witness_StageMomentsReadConditions_goesOn :
    (let s := at' 100 { ripe .autonomous with demand := {} };
      s.part.rt.stage.current = some stage1 ∧ reached 100#32 stage1.minEnd = true ∧ holdInEffect s.part.env s.part.rt = false ∧
      demandElsewhere s.part.env s.part.rt = false ∧ s.part.rt.priority.truncOffer = none ∧
      maxOutHolds s.part.env s.part.rt = false) := by decide +kernel
theorem witness_StageMomentsReadConditions_truncation :
    (let s := at' 200 { ripe .autonomous with demand := {}, priority := { truncOffer := some ⟨200#32, 1, 0, 2⟩, holdOffer := some ⟨200#32, 0, 1⟩ } };
      holdInEffect s.part.env s.part.rt = false ∧ demandElsewhere s.part.env s.part.rt = false ∧
      s.part.rt.priority.truncOffer = some ⟨200#32, 1, 0, 2⟩ ∧ reached 200#32 200#32 = true ∧ s.part.endsCleanly 0 1 ∧
      s.part.rt.stage.taken = some plan1.taken ∧ 0 < plan1.taken.lockout) := by decide +kernel
theorem witness_StageMomentsReadConditions_lapse :
    (let s := at' 450 { ripe .autonomous with demand := {} };
      holdInEffect s.part.env s.part.rt = false ∧ demandElsewhere s.part.env s.part.rt = false ∧
      demandOutside s.part.env s.part.rt = false ∧ s.part.rt.priority.truncOffer = none ∧ s.part.rt.priority.queue = [] ∧
      maxOutHolds s.part.env s.part.rt = true) ∧
    maxOutHolds (at' 200 {}).part.env { ripe .autonomous with demand := {} } = false := by decide +kernel
theorem witness_StageMomentsReadConditions_hold :
    (let s := at' 450 { ripe .autonomous with priority := { holdOffer := some ⟨500#32, 0, 1⟩ } };
      holdInEffect s.part.env s.part.rt = true ∧ demandElsewhere s.part.env s.part.rt = true ∧
      nextAutonomous s.part.env s.part.rt = some 1 ∧ maxOutHolds s.part.env s.part.rt = true ∧
      s.part.rt.priority.extensionNoted = false) := by decide +kernel
/-- DIRECTED with a pending GO_STAGE for S2. -/
def goPending : State := at' 450 { ripe .directed with stage := { (ripe .directed).stage with pendingGo := some 1 } }
/-- MANUAL with a pending STEP. -/
def stepPending : State := at' 450 { ripe .manual with mode := { (ripe .manual).mode with pendingStep := true } }
theorem witness_StageMomentsReadConditions_directed : goPending.part.rt.stage.pendingGo = some 1 ∧
    goPending.part.rt.stage.hold = false ∧ holdInEffect goPending.part.env goPending.part.rt = false ∧
    goPending.part.endsCleanly 0 1 := by decide +kernel
theorem witness_StageMomentsReadConditions_manual : stepPending.part.rt.mode.pendingStep = true ∧
    nextManual stepPending.part.env stepPending.part.rt = some 1 ∧ stepPending.part.endsCleanly 0 1 := by decide +kernel
theorem witness_StageMomentsReadConditions_finishing :
    (let s := at' 450 { ripe .none with mode := { mode := .shutdown, sub := .finishing } };
      s.part.rt.mode.mode = .shutdown ∧ s.part.rt.mode.source = .none ∧ s.part.rt.mode.sub = .finishing ∧
      s.part.rt.mode.pendingStep = false ∧ s.part.rt.stage.pendingGo = none ∧ s.part.rt.stage.hold = false ∧
      s.part.monitorFollows ∧ (∃ g, tab.isDefined g = true ∧ s.part.rt.isGreen g = true ∧ 0 < tab.clearing g) ∧
      (∀ g, s.part.rt.isGreen g = true → takesGreenEnd s.part.env s.part.rt g = true)) := by decide +kernel
/-- S1 in STAGE_RUN with its last gap timer due at 200, with or without G5's demand. -/
def lastGap (button : Bool) : Rt :=
  { ripe .autonomous with
    demand := { active := true, groups := put (put (Vector.replicate 24 {}) 0 { gap := .running 200#32 }) 4 { button := button } } }
theorem witness_StageMomentsReadConditions_start :
    (let r : Rt := { ripe .autonomous with stage := { (ripe .autonomous).stage with current := some { stage1 with maxOut := none } } };
      r.stage.current = some { stage1 with maxOut := none } ∧ demandOutside (at' 200 r).part.env r = true ∧
      r.stage.taken = some plan1.taken) := by decide +kernel
theorem witness_StageMomentsReadConditions_usedUp :
    (let g : Rt := { ripe .directed with stage := { (ripe .directed).stage with pendingGo := some 0 } };
      let h : Rt := { g with priority := { holdOffer := some ⟨500#32, 0, 1⟩ } };
      let none' : Tables := { tab with permitted := Vector.replicate 16 (Vector.replicate 16 none) };
      g.stage.pendingGo = some stage1.stage ∧ g.stage.hold = false ∧ holdInEffect (at' 450 g).part.env g = false ∧
      holdInEffect (at' 450 h).part.env h = true ∧ h.priority.extensionNoted = false ∧
      stepPending.part.rt.mode.pendingStep = true ∧ nextManual { tab := none' } stepPending.part.rt = none) := by decide +kernel
/-- Commands of the head port, taken in STAGE_RUN. -/
theorem witness_RunningStageReadsConditions_head :
    (let s := at' 200 (ripe .autonomous); let u := s.part.rt; let e := s.part.env;
      u.runsStage stage1 ∧ (ripe .directed).runsStage stage1 ∧ (ripe .manual).runsStage stage1 ∧
      Delivered s.part (controlFrame ask 5 [1#8, 0#8]) ∧ stagesRun u.mode.mode = true ∧ groupOf 1#8 = some 0 ∧
      e.tab.isDefined 0 = true ∧ u.isGreen 0 = true ∧ u.isGreen 4 = false ∧
      Delivered s.part (ask.frame kindTableWrite (6#8 :: 32#8 :: 0#8 :: 1#8 :: encLoop { loop7 with channel := 3 })) ∧
      (encLoop { loop7 with channel := 3 }).length = 20 ∧ loopOf 32#8 = some 31 ∧
      markedEntry ⟨32#8, 0#8, 1#8, encLoop { loop7 with channel := 3 }⟩ (parseLoop e.own) = some (some { loop7 with channel := 3 }) ∧
      loopRelationsOk tab 31 { loop7 with channel := 3 } = true ∧ Delivered s.part (controlFrame ask 6 [1#8]) ∧
      u.priority.enable ≠ decide ((1#8 : Byte) = 0#8) ∧ Delivered s.part (controlFrame ask 7 [0#8, 4#8, 0#8, 210#8]) ∧
      num [0#8, 4#8] = 4 ∧ num [0#8, 210#8] = 210 ∧ tramSlot (withTram .windowEnd u) 4 210 = some 0 ∧
      (withTram .windowEnd u).trams.get 0 = some (tram0 .windowEnd) ∧ (withTram .windowEnd u).runsStage stage1) := by decide +kernel
/-- The keepalive's timers in STAGE_RUN, window and arm, the armed one from INACTIVE and from ACTIVE. -/
theorem witness_RunningStageReadsConditions_keepalive :
    (let armed := fun (k : KeepState) => { ripe .directed with mode := { (ripe .directed).mode with keep := ⟨.armed, some 200#32, some 200#32, some k⟩ } };
      (armed .active).runsStage stage1 ∧ (armed .active).mode.keep.state = .armed ∧ isDue 200#32 (armed .active).mode.keep.armDue = true ∧
      (armed .active).mode.keep.remembered = some .active ∧ (armed .inactive).mode.keep.remembered ≠ some .active ∧
      ripeKept.runsStage stage1 ∧ ripeKept.mode.keep.state ≠ .inactive ∧ isDue 500#32 ripeKept.mode.keep.windowDue = true) := by
  decide +kernel
/-- Frames of the field port in STAGE_RUN: keys, telegrams and a press. -/
theorem witness_RunningStageReadsConditions_field :
    (let u := ripe .autonomous;
      dstOk (fieldFrom 3#8).dst = true ∧ u.mode.mode = .running ∧ u.mode.source ≠ .manual ∧ (ripe .manual).mode.source = .manual ∧
      (telegramOf (telegram 31#8 0#8 7#8)).any telegramFieldsOk = true ∧ u.mode.mode ≠ .dark ∧ routeOf tab 7#8 = some route7 ∧
      (31#8 : Byte) = route7.checkIn ∧ (tramSlot u 4 210).or (freeSlot u) = some 0 ∧
      (telegramOf (telegram 41#8 1#8 12#8)).any telegramFieldsOk = true ∧ routeOf tab 12#8 = some route12 ∧ route12.door = some 41#8 ∧
      (33#8 : Byte) = route7.checkOut ∧ tramSlot u 4 210 = none ∧ tramSlot (withTram .windowEnd u) 4 210 = some 0 ∧
      Instr.telegramCheckIn (fieldFrom 9#8) (telegram 0#8 0#8 7#8) ∈ fieldRows (fieldFrom 9#8) (telegram 0#8 0#8 7#8) ∧
      (telegramOf (telegram 0#8 0#8 7#8)).any (fun x => x.point = 0#8) = true ∧ buttonOf tab 0x61#8 0#8 = some ⟨0x61#8, 0, 4⟩ ∧
      u.demand.active = true ∧ tab.gtype 4 = .pedestrian ∧ (u.groups.get 4).state ≠ .green ∧
      ({ u with demand := {} } : Rt).demand.active = false) := by decide +kernel
theorem witness_RunningStageReadsConditions_refused :
    (∃ x, telegramOf (telegram 0#8 0#8 7#8) = some x ∧ telegramRefusedWith (at' 200 {}).part.env (ripe .autonomous) x 0) ∧
    ∃ x, telegramOf (telegram 31#8 0#8 8#8) = some x ∧ telegramRefusedWith (at' 200 {}).part.env (ripe .autonomous) x 1 :=
  ⟨⟨_, rfl, .inl ⟨.inl rfl, rfl⟩⟩, _, rfl, .inr (.inl ⟨by decide, by decide +kernel, rfl⟩)⟩
/-- Timers of demand, lockout and records in STAGE_RUN. -/
theorem witness_RunningStageReadsConditions_timers :
    (let u : Rt := { withLoop { state := .occupied } (ripe .autonomous) with
        demand := { (ripe .autonomous).demand with assigns := put (Vector.replicate 64 {}) 1 { delayDue := some 200#32 } }
        priority := { lockoutDue := some 200#32 } };
      u.runsStage stage1 ∧ isDue 200#32 (u.demand.assigns.get 1).delayDue = true ∧ tab.assigns.get 1 = some ⟨6, 4, .demandNonlocking, 10⟩ ∧
      loopView (at' 200 u).part.env u 6 = .occupied ∧ u.isGreen 4 = false ∧ isDue 200#32 u.priority.lockoutDue = true ∧
      (lastGap true).runsStage stage1 ∧ ((lastGap true).demand.groups.get 0).gap = .running 200#32 ∧ reached 200#32 200#32 = true) ∧
    (let u := fun (k : TramTimer) => withTram k (ripe .autonomous);
      (u .stopLimit).runsStage stage1 ∧ (u .stopLimit).trams.get 0 = some (tram0 .stopLimit) ∧
      (u .guardEnd).trams.get 0 = some (tram0 .guardEnd) ∧ (u .windowEnd).trams.get 0 = some (tram0 .windowEnd) ∧
      reached 200#32 (tram0 .windowEnd).timerDue = true ∧ reached 200#32 ((tram0 .windowEnd).timerDue + 100#32) = true ∧
      reached 99#32 ((tram0 .windowEnd).timerDue + 100#32) = false ∧ (tram0 .windowEnd).guardTime = 100) := by decide +kernel
/-- The Loop Unit's frames and timers in STAGE_RUN. -/
theorem witness_RunningStageReadsConditions_loops :
    (let u := withLoop { state := .tuning, sweep := some ⟨some 3, .awaitingEcho, some 0#32⟩, retryDue := some 0#32 } (ripe .autonomous);
      u.runsStage stage1 ∧ dstOk (fieldFrom 0x51#8).dst = true ∧ (counts 40000).length = 16 ∧ u.mode.mode ≠ .dark ∧
      (u.cardRec 0x51#8).any (fun k => isDue 200#32 k.silenceDue && !k.forward) = true ∧ (u.cardRec 0x52#8).isNone = true ∧
      (u.loops.recs.get 6).sweep = some ⟨some 3, .awaitingEcho, some 0#32⟩ ∧ isDue 200#32 (u.loops.recs.get 6).retryDue = true) := by
  decide +kernel
/-- R72, R85 and R86 in STAGE_RUN: with S2 wanted and M reached, a tram's check-out that ends its hold, PRIORITY_ENABLE off and
MANUAL_OFF end the stage toward S2, and a telegram that is refused has the conditions read as well. -/
theorem test_commands_end_stage :
    (let held : Rt := { withTram .windowEnd (ripe .autonomous) with priority := { queue := [0], holdOffer := some ⟨500#32, 0, 2⟩ } };
      let cause := fun (i : Instr) (r : Rt) => (rtAfter i (at' 450 r)).stage.inter.map Interstage.cause;
      cause (.telegramCheckOut (fieldFrom 9#8) (telegram 33#8 2#8 7#8)) held = some .max ∧
      cause (.priorityEnable tell [1#8]) held = some .max ∧ cause (.manualOff (fieldFrom 3#8) []) (ripe .manual) = some .max ∧
      cause (.telegramCheckIn (fieldFrom 9#8) (telegram 0#8 0#8 7#8)) (ripe .autonomous) = some .max ∧
      cause (.pushButton (fieldFrom 0x61#8) [0#8]) { held with priority := { queue := [0], holdOffer := some ⟨500#32, 0, 2⟩ } } = none) := by
  decide +kernel
/-- S1 in STAGE_RUN with G5's demand outside it. -/
def wanted : Rt :=
  { running .autonomous with
    stage := { (running .autonomous).stage with phase := .stageRun }
    demand := { active := true, groups := put (Vector.replicate 24 {}) 4 { button := true } } }
theorem witness_StageEndConditions_gap : holdInEffect (s0 {}).part.env wanted = false ∧ wanted.priority.truncOffer = none ∧
    demandElsewhere (s0 {}).part.env wanted = true ∧ nextAutonomous (s0 {}).part.env wanted = some 1 ∧
    gapCounts (s0 {}).part.env wanted = true ∧ wanted.stage.phase = .stageRun ∧ wanted.stage.current = some ⟨0, 0#32, 100#32, none, none⟩ := by decide +kernel
/-- The same with gap-out come at 0, before the demand. -/
def wantedLate (standing : List Group) : Rt :=
  { wanted with stage := { wanted.stage with current := some ⟨0, 0#32, 100#32, none, some ⟨0#32, some standing⟩⟩ } }
theorem witness_StageEndConditions_late : holdInEffect (s0 {}).part.env (wantedLate []) = false ∧
    (wantedLate []).stage.current.bind StageRec.gap = some ⟨(s0 {}).part.env.now, some []⟩ ∧
    maxOutHolds (s0 {}).part.env (wantedLate []) = false ∧
    (wantedLate []).priority.truncOffer = none ∧ gapOut (s0 {}).part.env (wantedLate []) = true ∧
    gapCounts (s0 {}).part.env (wantedLate []) = false ∧ gapCounts (s0 {}).part.env (wantedLate [4]) = true ∧
    gapCounts (at' 1 {}).part.env (wantedLate []) = true := by decide +kernel
/-- With and without an extension group: G1 of S1 extends, no group of S2 does. -/
theorem witness_StageEndConditions_extends :
    (tab.inStage 0 0 = true ∧ tab.assigns.get 0 = some ⟨6, 0, .lockingAndExtend, 20⟩) ∧
    (∀ g, tab.inStage 1 g = true → ∀ a, (tab.assigns.get a).all (fun x => x.group != g || !x.function.extends) = true) ∧
    gapOut (s0 {}).part.env { wanted with demand := { groups := put (Vector.replicate 24 {}) 0 { gap := .held } } } = false ∧
    gapOut (s0 {}).part.env wanted = true ∧ crossing.stage.phase = .stageMin ∧ gapOut (s0 {}).part.env crossing = false ∧
    gapOut (s0 {}).part.env { crossing with stage := { crossing.stage with phase := .stageRun } } = true := by decide +kernel
theorem witness_StageEndConditions_held :
    (let r := wantedLate []; let c : StageRec := ⟨0, 0#32, 100#32, none, some ⟨0#32, none⟩⟩; let e := (s0 {}).part.env;
      (∀ v l, c.gap = some v → v.standing = some l → v.since ≠ e.now) ∧
      gapCounts e { r with stage := { r.stage with current := some c } } = true ∧
      c.gap.bind GapReading.standing = none ∧ (some ⟨0#32, some [4]⟩ : Option GapReading).bind GapReading.standing = some [4] ∧
      r.stage.phase = .stageRun ∧ r.mode.mode = .running ∧ r.mode.source = .autonomous ∧ holdInEffect e r = false ∧
      ¬ (ripe .manual).mode.source = .autonomous) :=
  ⟨fun v l h1 h2 => (by cases h1; cases h2), by decide +kernel, rfl, rfl, rfl, rfl, rfl, by decide +kernel, by decide⟩
theorem witness_StageEndConditions_search :
    (let r := wanted; let e := (s0 {}).part.env;
      r.stage.current = some ⟨0, 0#32, 100#32, none, none⟩ ∧ r.stage.taken = some plan1.taken ∧ r.stage.position = 1 ∧
      nextManual e r = some 1 ∧ nextAutonomous e { r with demand := {} } = some 1 ∧ demandElsewhere e { r with demand := {} } = false) := by
  decide +kernel
/-- R71 over six stages from position 4: cyclically, passing over the current stage, stages priority-only, not permitted, or
skippable without demand. -/
theorem test_search_order :
    (let st := fun (green : Nat) (skippable priorityOnly : Bool) => some (⟨BitVec.ofNat 24 green, 50, skippable, priorityOnly⟩ : StageEntry);
      let all := Vector.replicate 16 (some true);
      let stages := fun (x : Option StageEntry) => put (put (put (put (put (put (Vector.replicate 16 none) 0 (st 1 false false))
        1 (st 2 false true)) 2 (st 4 true false)) 3 (st 8 false false)) 4 (st 16 true false)) 5 x;
      let r : Rt := { wanted with stage := { wanted.stage with
        current := some ⟨3, 0#32, 0#32, none, none⟩, position := 4, taken := some { plan1.taken with sequence := [0, 1, 2, 3, 4, 5] } } };
      let next := fun (manual : Bool) (x : Option StageEntry) (row : Vector (Option Bool) 16) (r : Rt) =>
        let e : Env := { tab := { tab with stages := stages x, permitted := put tab.permitted 3 row } };
        if manual then nextManual e r else nextAutonomous e r;
      next false (st 32 false false) all r = some 4 ∧ next false (st 32 false false) all { r with demand := {} } = some 5 ∧
      next false (st 32 true false) all { r with demand := {} } = some 0 ∧
      next false none (put (put all 4 none) 0 (some false)) r = none ∧
      next true (st 32 true false) (put all 4 (some false)) r = some 5 ∧ next true (st 32 true true) (put all 4 none) r = some 0) := by
  decide +kernel
theorem witness_StageEndConditions_standing :
    (let u := wantedLate []; let e := (s0 {}).part.env;
      let bare := { u with demand := { u.demand with groups := u.demand.groups.map fun x =>
        { x with loop := false, button := false, soft := false, nonLocking := 0 } } };
      bare = { u with demand := { u.demand with groups := bare.demand.groups } } ∧ demandElsewhere e bare = false ∧
      (∀ g : Group, g ∉ ([] : List Group) → bare.demand.groups.get g =
        { u.demand.groups.get g with loop := false, button := false, soft := false, nonLocking := 0 }) ∧
      demandElsewhere e u = true ∧ nextAutonomous e u = some 1) := by decide +kernel
theorem witness_StageEndConditions_hold :
    (let r := { wantedLate [] with priority := { holdOffer := some ⟨500#32, 0, 1⟩ } }; let e := (s0 {}).part.env;
      holdInEffect e r = true ∧ demandElsewhere e r = true ∧ nextAutonomous e r = some 1 ∧ gapOut e r = true ∧
      gapCounts e r = false ∧ demandElsewhere e { r with demand := {} } = false ∧ holdInEffect e { r with demand := {} } = true) := by
  decide +kernel
/-- R86: an offer formed after the gap-out of its own moment, to a stage without a permitted next one whose demand elsewhere
stood then, lets the normal end take the stage at P. -/
theorem test_offer_after_gap_out :
    (let s := at' 200 { undemanded (some ⟨200#32, some [4]⟩) with
        demand := (ripe .autonomous).demand, priority := { truncOffer := some ⟨200#32, 1, 0, 2⟩ } };
      let t := { s with part := { s.part with env := { s.part.env with tab := { tab with permitted := Vector.replicate 16 (Vector.replicate 16 none) } } } };
      nextAutonomous t.part.env t.part.rt = none ∧
      (rtAfter .truncationPointReached t).stage.inter.map Interstage.cause = some .gap) := by decide +kernel
/-- R70, R72: a stage without an extension group comes to gap-out at its min-end; a demand taken after MIN_END leaves it
running, one taken before it ends it there. -/
theorem test_demand_and_minEnd_of_one_moment :
    (let at0 : Rt := { crossing with
        trams := Vector.replicate 8 none, priority := {}, groups := put (Vector.replicate 24 {}) 4 { state := .green, minMet := true } };
      let demand := Instr.softDemand tell [1#8, 0#8];
      (rtAfter demand (at' 100 (rtAfter .minEnd (at' 100 at0)))).stage.phase = .stageRun ∧
      (rtAfter .minEnd (at' 100 (rtAfter demand (at' 100 at0)))).stage.phase = .interstage) := by decide +kernel
/-- S1 at 200 with its last gap timer due then, held for G9's tram to H. -/
def heldGap (holdTo : Time) : Rt :=
  { undemanded none with
    demand := { active := true, groups := put (Vector.replicate 24 {}) 0 { gap := .running 200#32 } }
    trams := put (Vector.replicate 8 none) 0 (some { tram0 .windowEnd with timerDue := 400#32, e2 := some 400#32 })
    priority := { queue := [0], holdOffer := some ⟨holdTo, 0, 2⟩ } }
/-- R85: a gap-out under a hold, a demand after it and the hold's end, all of one moment, end the stage, be it that the offer
is withdrawn or that H is reached; so do MANUAL_OFF and MIN_END, before which gap-out could not end the stage. -/
theorem test_hold_end_after_gap_out :
    (let expiry := Instr.gapTimerExpiry 0; let press := Instr.pushButton (fieldFrom 0x61#8) [0#8];
      let after2 := fun (r : Rt) => rtAfter press (at' 200 (rtAfter expiry (at' 200 r)));
      let cause := fun (i : Instr) (r : Rt) => (rtAfter i (at' 200 (after2 r))).stage.inter.map Interstage.cause;
      (after2 (heldGap 400#32)).stage.phase = .stageRun ∧
      cause (.cancelTram tell [0#8, 4#8, 0#8, 210#8]) (heldGap 400#32) = some .gap ∧
      (after2 (heldGap 200#32)).stage.phase = .stageRun ∧ cause .extensionHoldEnd (heldGap 200#32) = some .gap ∧
      cause (.manualOff (fieldFrom 3#8) []) { heldGap 400#32 with
        trams := Vector.replicate 8 none, priority := {}, mode := { mode := .running, source := .manual } } = some .gap ∧
      cause .minEnd { heldGap 400#32 with
        trams := Vector.replicate 8 none, priority := {}
        stage := { (heldGap 400#32).stage with phase := .stageMin } } = some .gap) := by decide +kernel
/-- R156: under a hold, a demand taken after the gap-out of its own moment still gives the extension notice. -/
theorem test_extension_notice_after_gap_out :
    (let at0 := { undemanded none with
        demand := { active := true, groups := put (Vector.replicate 24 {}) 0 { gap := .running 200#32 } }
        priority := { holdOffer := some ⟨500#32, 0, 1⟩ } };
      let r := rtAfter (.pushButton (fieldFrom 0x61#8) [0#8]) (at' 200 (rtAfter (.gapTimerExpiry 0) (at' 200 at0)));
      r.priority.extensionNoted = true ∧ r.priority.served.get 0 = 1 ∧ r.stage.phase = .stageRun) := by decide +kernel
/-- R72's last sentence on the blocks: a demand before the gap timer's expiry ends the stage, one after it leaves it running. -/
theorem test_demand_and_gap_out_of_one_moment :
    (let at0 := { ripe .autonomous with demand := { active := true, groups := put (Vector.replicate 24 {}) 0 { gap := .running 200#32 } } };
      let press := Instr.pushButton (fieldFrom 0x61#8) [0#8]; let expiry := Instr.gapTimerExpiry 0;
      (rtAfter expiry (at' 200 (rtAfter press (at' 200 at0)))).stage.phase = .interstage ∧
      (rtAfter press (at' 200 (rtAfter expiry (at' 200 at0)))).stage.phase = .stageRun) := by decide +kernel
theorem witness_StageEndConditions_truncation :
    (let r : Rt := { wanted with demand := {}, priority := { truncOffer := some ⟨0#32, 1, 0, 2⟩ } };
      holdInEffect (s0 {}).part.env r = false ∧ r.priority.truncOffer = some ⟨0#32, 1, 0, 2⟩ ∧ reached 0#32 0#32 = true ∧
      ¬ (demandElsewhere (s0 {}).part.env r = true ∧ (gapCounts (s0 {}).part.env r = true ∨ maxOutHolds (s0 {}).part.env r = true))) := by
  decide +kernel
theorem witness_StageEndConditions_lapse :
    (let r : Rt := { wanted with demand := {}, stage := { wanted.stage with current := some ⟨0, 0#32, 0#32, some 0#32, none⟩ } };
      holdInEffect (s0 {}).part.env r = false ∧ demandElsewhere (s0 {}).part.env r = false ∧ maxOutHolds (s0 {}).part.env r = true) ∧
    (let r : Rt := { wanted with demand := { groups := put (Vector.replicate 24 {}) 0 { gap := .held } } };
      holdInEffect (s0 {}).part.env r = false ∧ gapOut (s0 {}).part.env r = false ∧ maxOutHolds (s0 {}).part.env r = false) := by
  decide +kernel
theorem witness_DemandAndLockoutTimers :
    (let r : Rt := { withLoop { state := .occupied } (running .manual) with
        demand :=
          { active := true, groups := put (Vector.replicate 24 {}) 0 { gap := .running 0#32 }
            assigns := put (put (Vector.replicate 64 {}) 0 { delayDue := some 0#32 }) 1 { delayDue := some 0#32 } }
        priority := { lockoutDue := some 0#32 } };
      (r.demand.groups.get 0).gap = .running 0#32 ∧ reached 0#32 0#32 = true ∧ r.still { tab := tab } = true ∧
      isDue 0#32 (r.demand.assigns.get 0).delayDue = true ∧ tab.assigns.get 0 = some ⟨6, 0, .lockingAndExtend, 20⟩ ∧
      isDue 0#32 (r.demand.assigns.get 1).delayDue = true ∧ tab.assigns.get 1 = some ⟨6, 4, .demandNonlocking, 10⟩ ∧
      loopView (s0 r).part.env r 6 = .occupied ∧ (r.groups.get 0).state ≠ .green ∧ isDue 0#32 r.priority.lockoutDue = true) := by
  decide +kernel
theorem witness_DemandAndLockoutTimers_gap :
    (let s := at' 200 (lastGap true); let e := s.part.env; let u := s.part.rt;
      (u.demand.groups.get 0).gap = .running 200#32 ∧ u.inRun e .autonomous stage1 ∧ u.notices = [] ∧ u.priority.holdOffer = none ∧
      u.priority.truncOffer = none ∧ stage1.gap = none ∧ demandElsewhere e u = true ∧ nextAutonomous e u = some 1 ∧
      gapOut e { u with demand := { u.demand with groups := upd u.demand.groups 0 fun d => { d with gap := .expired } } } = true) := by
  decide +kernel
theorem witness_DemandAndLockoutTimers_ends : (at' 200 (lastGap true)).part.endsCleanly 0 1 := by decide +kernel
theorem witness_DemandAndLockoutTimers_goesOn :
    (let s := at' 200 (lastGap false);
      demandElsewhere s.part.env s.part.rt = false ∧ maxOutHolds s.part.env s.part.rt = false) := by decide +kernel
theorem witness_CardSilenceAndTuning :
    (let y : LoopRec := { state := .tuning, sweep := some ⟨some 7, .awaitingEcho, some 0#32⟩ };
      let r := withLoop y (inMode .flash);
      (r.cardRec 0x51#8).isSome = true ∧ (r.cardRec 0x51#8).any (fun c => isDue 0#32 c.silenceDue && c.wait.head? == some 6) = true ∧
      (r.loops.recs.get 6).state = .tuning ∧ r.still { tab := tab } = true ∧ nextSetting (s0 r).part.env r 0x51#8 6 8 = none ∧
      nextSetting (s0 r).part.env r 0x51#8 6 7 = some 7) ∧
    (let e : Env := { tab := { tab with loops := put tab.loops 7 (some { loop7 with channel := 3 }) } };
      let r0 := withLoop { state := .tuning } (inMode .flash);
      let r : Rt := { r0 with loops := { r0.loops with
        recs := put r0.loops.recs 7 { state := .fault, cause := some .tuneFail, retryDue := some 0#32 } } };
      e.tab.loops.get 7 = some { loop7 with channel := 3 } ∧ isDue 0#32 (r.loops.recs.get 7).retryDue = true ∧
      (r.cardRec 0x51#8).any (fun c => c.wait.head? == some 6) = true ∧ (r.loops.recs.get 6).state = .tuning) := by decide +kernel
theorem witness_CardSilenceAndTuning_sweep :
    (let y : LoopRec := { state := .tuning, sweep := some ⟨some 3, .discarding 3, none⟩ };
      (sampling y).part.rt.loops.recs.get 6 = y ∧ y.writtenAt ≠ some 1000#32 ∧ loop7.inside (channelSample (counts 40000) 2) ∧
      (channelSample (counts 40000) 2).echo = 3 ∧ tab.cardLoops 0x51#8 = [6] ∧ ¬ loop7.inside (channelSample (counts 50001) 2) ∧
      3 < 7 ∧ 7 ≤ 7 ∧ ({ y with writtenAt := some 1000#32 } : LoopRec).writtenAt = some (sampling y).part.env.now) := by decide +kernel
theorem witness_CardSilenceAndTuning_recovery :
    (let y : LoopRec := { state := .fault, cause := some .rise, setting := some 3, recoveryRun := 15 };
      (sampling y).part.rt.loops.recs.get 6 = y ∧ loop7.recovery ≤ y.recoveryRun + 1 ∧ 14 + 1 < loop7.recovery ∧
      y.setting = some (channelSample (counts 40000) 2).echo ∧ loop7.inside (channelSample (counts 30000) 2) ∧
      loop7.inside (channelSample (counts 50000) 2) ∧ ¬ loop7.inside (channelSample (counts 29999) 2) ∧
      ({ addr := 0x51#8 } : CardRec).wait = []) := by decide +kernel
theorem witness_CardSilenceAndTuning_silence :
    (let r : Rt := { inMode .flash with loops := { recs := put (Vector.replicate 32 {}) 6 { state := .fault, cause := some .cardSilent }, cards := [{ addr := 0x51#8, silent := true }] } };
      r.cardRec 0x51#8 = some { addr := 0x51#8, silent := true } ∧ tab.cardLoops 0x51#8 = [6] ∧ (r.loops.recs.get 6).state = .fault ∧
      (r.loops.recs.get 6).cause = some .cardSilent ∧ r.mode.mode ≠ .dark) := by decide +kernel
theorem witness_TramTimersExpire :
    (let r := withTram .windowEnd (running .manual);
      r.trams.get 0 = some (tram0 .windowEnd) ∧ reached 0#32 (tram0 .windowEnd).timerDue = true ∧ r.still { tab := tab } = true ∧
      reached 0#32 ((tram0 .windowEnd).timerDue + BitVec.ofNat 32 (tram0 .windowEnd).guardTime) = false ∧
      reached 100#32 ((tram0 .windowEnd).timerDue + BitVec.ofNat 32 (tram0 .windowEnd).guardTime) = true) ∧
    (tram0 .stopLimit).timer = .stopLimit ∧ (tram0 .guardEnd).timer = .guardEnd := by decide +kernel
theorem witness_MonitorGuardsEveryFrame :
    (monitorCheck (s0 {}).part.env {} greenFrame = none ∧ tab.holder 0x41#8 0 = some 0 ∧
      isEntering (s0 {}).part.env {} greenFrame 0 = true ∧ (4 : Group) ≠ 0 ∧ tab.conflicts 0 4 = true) ∧
    monitorCheck (s0 {}).part.env { monitor := put (Vector.replicate 24 {}) 4 { passed := some .green, rightOfWay := true } }
      { greenFrame with aspects := put greenFrame.aspects 2 .walk } = some (.conflictCommand, 0, 4) ∧
    (let r := withModule (inMode .flash);
      (r.moduleRec 0x41#8).any (fun m => isDue 0#32 m.refreshDue && m.sentAspects.isSome && m.sentBrightness.isSome) = true ∧
      r.notices = [] ∧ frameWaiting r 0x41#8 = false ∧
      monitorCheck (s0 r).part.env r ⟨0x41#8, Vector.replicate 4 .dark, .bright⟩ = none) := by decide +kernel
/-- R34 and R35 at their bounds: G5's clearing end at and after the present moment, and its confirmed green end IG less RA ago
and one count less, against G1 entering STARTING and GREEN. -/
theorem test_monitor_bounds :
    (let e := (at' 1000 {}).part.env;
      let f : AspectFrame := ⟨0x41#8, put (put (Vector.replicate 4 .dark) 0 .redAmber) 2 .flashWalk, .bright⟩;
      let g : AspectFrame := { f with aspects := put f.aspects 0 .green };
      let check := fun (f : AspectFrame) (x : MonitorRec) =>
        (monitorCheck e { monitor := put (Vector.replicate 24 {}) 4 x } f).map Prod.fst;
      let x : MonitorRec := { passed := some .clearing, rightOfWay := true };
      tab.ig 4 0 = 100 ∧ tab.ra 0 = 10 ∧ check f { x with clearingEnd := some 1001#32 } = some .conflictCommand ∧
      check f { x with clearingEnd := some 1000#32 } = none ∧ check f x = some .conflictCommand ∧
      check f { x with clearingEnd := some 900#32, awaiting := true } = some .intergreenShort ∧
      check f { x with clearingEnd := some 900#32, confirmed := some 911#32 } = some .intergreenShort ∧
      check f { x with clearingEnd := some 900#32, confirmed := some 910#32 } = none ∧
      check g { x with clearingEnd := some 900#32, confirmed := some 901#32 } = some .intergreenShort ∧
      check g { x with clearingEnd := some 900#32, confirmed := some 900#32 } = none ∧
      check { f with aspects := put f.aspects 2 .dark } x = none) := by decide +kernel
/-- R32's table: what frames that show one class after another leave in a record. -/
theorem test_monitor_update :
    monitorUpdate 50#32 30 .green { passed := some .starting, awaiting := true, confirmed := some 1#32 } =
      ⟨some .green, true, none, none, false, none⟩ ∧
    monitorUpdate 50#32 30 .clearing ⟨some .green, true, none, none, false, none⟩ =
      ⟨some .clearing, true, some 50#32, some 80#32, true, none⟩ ∧
    monitorUpdate 50#32 0 .rest ⟨some .green, true, none, none, false, none⟩ = ⟨some .rest, false, some 50#32, none, true, none⟩ ∧
    monitorUpdate 80#32 30 .rest ⟨some .clearing, true, some 50#32, some 80#32, false, some 52#32⟩ =
      ⟨some .rest, false, some 50#32, some 80#32, false, some 52#32⟩ ∧
    monitorUpdate 80#32 30 .off ⟨some .clearing, true, some 50#32, some 80#32, true, some 52#32⟩ =
      ⟨some .off, false, none, none, false, none⟩ := by decide
/-- Module 0x41's record, its refresh owed since a frame of the same moment. -/
def owedModule : ModuleRec :=
  { addr := 0x41#8, sentAspects := some (Vector.replicate 4 .dark), sentBrightness := some .bright
    refreshDue := some 2#32, refreshOwed := some ⟨0#32, 1⟩ }
theorem witness_MonitorGuardsEveryFrame_owed :
    (let m := owedModule; let f : Frame := ⟨0x41#8, 0x20#8, kindAspectSet, 0#8, zeros 5⟩;
      let r : Rt := { lamp := { modules := [m] }, ring := { aspects := [f] } };
      r.moduleRec 0x41#8 = some m ∧ r.notices = [] ∧ (m.refreshOwed.filter fun o => o.at' = 0#32) ≠ none ∧
      ¬ 1 < (r.ring.aspects.filter fun f => f.dst == 0x41#8).length ∧ 0 < (r.ring.aspects.filter fun f => f.dst == 0x41#8).length ∧
      1 < ((f :: r.ring.aspects).filter fun f => f.dst == 0x41#8).length ∧
      monitorCheck (s0 r).part.env r ⟨0x41#8, Vector.replicate 4 .dark, .bright⟩ = none) := by decide +kernel
theorem witness_MonitorGuardsEveryFrame_full :
    (let r : Rt := { ring := { aspects := List.replicate 48 waiting.frame } };
      monitorCheck (s0 r).part.env r greenFrame = none ∧ 48 ≤ r.ring.aspects.length ∧
      r.ring.aspects = waiting.frame :: r.ring.aspects.tail ∧ r.ring.aspects.tail.length < 48) := by decide +kernel
theorem witness_FaultNoticesBringFlash :
    (let r := withModule (running .manual);
      (r.moduleRec 0x41#8).any (fun m => isDue 0#32 m.silenceDue) = true ∧ r.notices = [] ∧ stagesRun r.mode.mode = true ∧
      r.report.record = none) ∧ (withModule (inMode .flash)).mode.mode = .flash ∧
    (let r : Rt := { running .manual with lamp := { confirms := put (Vector.replicate 24 none) 0 (some ⟨0#32, 0#32⟩) } };
      r.lamp.confirms.get 0 = some ⟨0#32, 0#32⟩ ∧ reached 0#32 0#32 = true ∧ r.notices = [] ∧ stagesRun r.mode.mode = true) := by
  decide +kernel
/-- A LAMP_STATUS payload whose slot 0 reports its red lamp FAILED and its go lamp UNEXPECTED, and slot 2 its second lamp
FAILED. -/
def badStatus : List Byte := [1#8, 2#8, 1#8, 3#8] ++ [0#8, 1#8, 1#8, 1#8] ++ [0#8, 1#8, 2#8, 4#8] ++ [0#8, 1#8, 1#8, 1#8]
theorem witness_FaultNoticesBringFlash_status :
    (let u := withModule (running .manual);
      badStatus.length = 16 ∧ (u.moduleRec 0x41#8).isSome = true ∧ u.notices = [] ∧ u.stage.phase ≠ .interstage ∧
      u.stage.inter = none ∧ tab.holder 0x41#8 0 = some 0 ∧ tab.gtype 0 = .vehicle ∧ slotOutput badStatus 0 0 = 2#8 ∧
      (⟨0x41#8, 0, 0⟩ : FailedOutput) ∉ u.lamp.failed ∧ slotOutput badStatus 0 2 = 3#8 ∧ (u.groups.get 0).state ≠ .green ∧
      (u.groups.get 0).state ≠ .starting ∧ (u.moduleRec 0x41#8).any (fun m => !m.noted.get 0) = true ∧
      tab.holder 0x41#8 2 = some 4 ∧ tab.gtype 4 = .pedestrian ∧ slotOutput badStatus 2 1 = 2#8 ∧ u.lamp.settlingDue = none ∧
      2 < (slotOutput badStatus 2 2).toNat ∧ (slotOutput badStatus 2 0).toNat < 2 ∧ stagesRun u.mode.mode = true) := by decide +kernel

end Sys2Proof.Tests
end

/-! SUPPORT. Proofs of the statements of the family 00_scope: a tick on an empty queue, and the Priority Unit's enable, queue and
offers. -/

namespace Sys2Proof.Machine

/-! ### The time-driven commands that a tick offers -/

theorem mem_cards_of_cardRec {r : Rt} {a : Byte} {c : CardRec} (h : r.cardRec a = some c) :
    ∃ c ∈ r.loops.cards, c.addr = a :=
  ⟨c, List.mem_of_find?_eq_some h, by simpa using List.find?_some h⟩

theorem mem_modules_of_moduleRec {r : Rt} {a : Byte} {m : ModuleRec} (h : r.moduleRec a = some m) :
    ∃ m ∈ r.lamp.modules, m.addr = a :=
  ⟨m, List.mem_of_find?_eq_some h, by simpa using List.find?_some h⟩

/-- A command whose moment has come is among those that a tick looks at: those of cards and modules because only a card or
module that has a record has a timer, all others because every element of every index range is offered. -/
theorem mem_timeCommands_of_timeDue (e : Env) (r : Rt) (c : Instr) (h : timeDue e r c = true) : c ∈ timeCommands r := by
  cases c
  case cardSilenceExpiry a =>
    cases hc : r.cardRec a with
    | none => simp [timeDue, hc] at h
    | some x => simpa [timeCommands] using mem_cards_of_cardRec hc
  case moduleSilenceExpiry a =>
    cases hm : r.moduleRec a with
    | none => simp [timeDue, hm] at h
    | some x => simpa [timeCommands] using mem_modules_of_moduleRec hm
  case refreshTimerExpiry a =>
    cases hm : r.moduleRec a with
    | none => simp [timeDue, hm] at h
    | some x => simpa [timeCommands] using mem_modules_of_moduleRec hm
  case linkTimeout p | forwardAgeDiscard p => cases p <;> simp [timeCommands]
  case sensorFreshnessExpiry x => cases x <;> simp [timeCommands]
  -- frames, grants and power-on have no moment; what is left is offered for its whole range of indexes
  all_goals simp [timeDue] at h <;> simp [timeCommands, allTramSlots, allLoops, allAssigns, allGroups]

theorem mem_dueCommands_iff (e : Env) (r : Rt) (c : Instr) :
    c ∈ dueCommands e r ↔ timeDue e r c = true ∧ atMoment e r c = true := by
  simp only [dueCommands, List.mem_filter, Bool.and_eq_true]
  exact ⟨And.right, fun h => ⟨mem_timeCommands_of_timeDue e r c h.1, h⟩⟩

theorem step_of_pending_nil (s : State) (h : s.pending = []) : step s = .next (tick s) := by
  simp [step, h]

/-- Settles O2: the tick queues `dueCommands`, which are exactly the commands that are due and at their moment. -/
theorem emptyQueueTicks : Obligations.EmptyQueueTicks := by
  intro s hs
  exact ⟨tick s, step_of_pending_nil s hs, rfl, rfl, fun c => mem_dueCommands_iff _ _ c⟩

/-! ### Moments by their distance from the furthest that can be awaited (R1) -/

theorem back_injective (now : Time) : Function.Injective (back now) := fun a b h => by
  rw [back, back, BitVec.toNat_inj] at h
  exact sub_right_injective h

theorem laterOf_eq_or (now a b : Time) : laterOf now a b = a ∨ laterOf now a b = b := by
  unfold laterOf; split <;> simp

theorem earlierOf_eq_or (now a b : Time) : earlierOf now a b = a ∨ earlierOf now a b = b := by
  unfold earlierOf; split <;> simp

theorem back_laterOf (now a b : Time) : back now (laterOf now a b) = min (back now a) (back now b) := by
  unfold laterOf; split <;> omega

theorem back_earlierOf (now a b : Time) : back now (earlierOf now a b) = max (back now a) (back now b) := by
  unfold earlierOf; split <;> omega

/-! ### The order of the priority queue (R146) -/

/-- The keys of R146 as one lexicographic key: level and the distances of E1 and of the check-in stamp, the largest first,
then the slot number. -/
def queueKey (now : Time) (k : TramSlot) (x : TramRec) : ℕᵒᵈ ×ₗ ℕᵒᵈ ×ₗ ℕᵒᵈ ×ₗ TramSlot :=
  toLex (.toDual x.level, toLex (.toDual (back now (x.e1.getD 0#32)), toLex (.toDual (back now x.checkIn), k)))

theorem queueKey_lt_iff {now : Time} {k j : TramSlot} {x y : TramRec} {a b : Time} (ha : x.e1 = some a) (hb : y.e1 = some b) :
    queueKey now k x < queueKey now j y ↔ y.level < x.level ∨ x.level = y.level ∧
      (back now b < back now a ∨ a = b ∧ (back now y.checkIn < back now x.checkIn ∨ x.checkIn = y.checkIn ∧ k < j)) := by
  simp [queueKey, Prod.Lex.toLex_lt_toLex, ha, hb, (back_injective now).eq_iff]

theorem standsBefore_iff_queueKey_lt {now : Time} {k j : TramSlot} {x y : TramRec} (hx : x.e1 ≠ none) (hy : y.e1 ≠ none) :
    standsBefore now k x j y ↔ queueKey now k x < queueKey now j y := by
  obtain ⟨a, ha⟩ := Option.ne_none_iff_exists'.mp hx
  obtain ⟨b, hb⟩ := Option.ne_none_iff_exists'.mp hy
  rw [queueKey_lt_iff ha hb]
  simp only [standsBefore, ha, hb, Option.getD_some, Option.some.injEq]
  rfl

theorem queuedBefore_iff_queueKey_lt {now : Time} {k j : TramSlot} {x y : TramRec} (hx : x.e1 ≠ none) (hy : y.e1 ≠ none) :
    queuedBefore now k x j y = true ↔ queueKey now k x < queueKey now j y := by
  obtain ⟨a, ha⟩ := Option.ne_none_iff_exists'.mp hx
  obtain ⟨b, hb⟩ := Option.ne_none_iff_exists'.mp hy
  rw [queueKey_lt_iff ha hb]
  simp only [queuedBefore, ha, hb, Option.getD_some, earlierThan]
  by_cases hl : x.level = y.level
  · by_cases he : a = b
    · by_cases hc : x.checkIn = y.checkIn <;> simp [hl, he, hc]
    · simp [hl, he]
  · simp [hl]

/-- Different slots have different keys, the slot number deciding last. -/
theorem queueKey_ne {now : Time} {k j : TramSlot} {x y : TramRec} (h : k ≠ j) : queueKey now k x ≠ queueKey now j y :=
  fun he => h (congrArg (fun q => (ofLex (ofLex (ofLex q).2).2).2) he)

/-! ### A place in the queue (R147) -/

theorem insertQueue_perm (now : Time) (trams : Vector (Option TramRec) 8) (s : TramSlot) (x : TramRec) (q : List TramSlot) :
    (insertQueue now trams s x q).Perm (s :: q) := by
  induction q with
  | nil => exact .refl _
  | cons j q ih =>
    have later : (j :: insertQueue now trams s x q).Perm (s :: j :: q) := (ih.cons j).trans (.swap s j q)
    cases hj : trams.get j with
    | none => simpa [insertQueue, hj] using later
    | some y =>
      by_cases hb : queuedBefore now s x j y = true
      · simp [insertQueue, hj, hb]
      · simpa [insertQueue, hj, hb] using later

/-- Slot `k` stands before slot `j`, as `queueOrdered` has it. -/
def slotBefore (now : Time) (trams : Vector (Option TramRec) 8) (k j : TramSlot) : Prop :=
  ∀ x y, trams.get k = some x → trams.get j = some y → standsBefore now k x j y

/-- The slot holds a record that is queued while priority is on (R146). -/
def holdsQueueable (trams : Vector (Option TramRec) 8) (k : TramSlot) : Prop :=
  ∃ x, trams.get k = some x ∧ queueable x = true

theorem queueOrdered_iff (now : Time) (trams : Vector (Option TramRec) 8) (q : List TramSlot) :
    queueOrdered now trams q ↔ q.Nodup ∧ (∀ k ∈ q, holdsQueueable trams k) ∧ q.Pairwise (slotBefore now trams) := Iff.rfl

theorem queueOrdered_filter {now : Time} {trams : Vector (Option TramRec) 8} {q : List TramSlot}
    (p : TramSlot → Bool) (ho : queueOrdered now trams q) :
    queueOrdered now trams (q.filter p) := by
  obtain ⟨hn, hall, hp⟩ := ho
  exact ⟨hn.filter p, fun k hk => hall k (List.mem_of_mem_filter hk), hp.filter p⟩

section
variable {now : Time} {trams : Vector (Option TramRec) 8} (hw : windowed trams)
include hw

theorem slotBefore_iff_queueKey_lt {k j : TramSlot} {x y : TramRec} (hx : trams.get k = some x) (hxq : queueable x = true)
    (hy : trams.get j = some y) (hyq : queueable y = true) :
    slotBefore now trams k j ↔ queueKey now k x < queueKey now j y := by
  rw [← standsBefore_iff_queueKey_lt (hw k x hx hxq) (hw j y hy hyq)]
  refine ⟨fun h => h x y hx hy, fun h x' y' hx' hy' => ?_⟩
  obtain rfl := Option.some.inj (hx.symm.trans hx')
  obtain rfl := Option.some.inj (hy.symm.trans hy')
  exact h

theorem slotBefore_trans {i j k : TramSlot} (hi : holdsQueueable trams i) (hj : holdsQueueable trams j)
    (hk : holdsQueueable trams k) (hij : slotBefore now trams i j) (hjk : slotBefore now trams j k) :
    slotBefore now trams i k := by
  obtain ⟨x, hx, hxq⟩ := hi
  obtain ⟨y, hy, hyq⟩ := hj
  obtain ⟨z, hz, hzq⟩ := hk
  rw [slotBefore_iff_queueKey_lt hw ‹_› ‹_› ‹_› ‹_›] at *
  exact hij.trans hjk

/-- The queue test decides between two slots: one that does not go before the other goes behind it. -/
theorem slotBefore_of_queuedBefore {k j : TramSlot} {x y : TramRec} (hx : trams.get k = some x) (hxq : queueable x = true)
    (hy : trams.get j = some y) (hyq : queueable y = true) (hkj : k ≠ j) :
    if queuedBefore now k x j y = true then slotBefore now trams k j else slotBefore now trams j k := by
  have hq := queuedBefore_iff_queueKey_lt (now := now) (k := k) (j := j) (hw k x hx hxq) (hw j y hy hyq)
  split
  · rw [slotBefore_iff_queueKey_lt hw ‹_› ‹_› ‹_› ‹_›, ← hq]
    assumption
  · rw [slotBefore_iff_queueKey_lt hw ‹_› ‹_› ‹_› ‹_›]
    exact lt_of_le_of_ne (not_lt.mp (by rwa [← hq])) (queueKey_ne hkj.symm)

theorem insertQueue_pairwise {s : TramSlot} {x : TramRec} (hx : trams.get s = some x) (hxq : queueable x = true)
    {q : List TramSlot} (hs : s ∉ q) (hall : ∀ k ∈ q, holdsQueueable trams k) (hp : q.Pairwise (slotBefore now trams)) :
    (insertQueue now trams s x q).Pairwise (slotBefore now trams) := by
  induction q with
  | nil => simp [insertQueue]
  | cons j q ih =>
    obtain ⟨hjq, hp⟩ := List.pairwise_cons.mp hp
    obtain ⟨hj, hall⟩ := List.forall_mem_cons.mp hall
    obtain ⟨hsj, hsq⟩ := List.ne_and_not_mem_of_not_mem_cons hs
    obtain ⟨y, hy, hyq⟩ := hj
    have order := slotBefore_of_queuedBefore (now := now) hw hx hxq hy hyq hsj
    by_cases hb : queuedBefore now s x j y = true
    · have before_j : slotBefore now trams s j := by simpa [hb] using order
      have before_q : ∀ k ∈ q, slotBefore now trams s k := fun k hk =>
        slotBefore_trans hw ⟨x, hx, hxq⟩ ⟨y, hy, hyq⟩ (hall k hk) before_j (hjq k hk)
      simpa [insertQueue, hy, hb, hp] using ⟨⟨before_j, before_q⟩, hjq⟩
    · have after_j : slotBefore now trams j s := by simpa [hb] using order
      simpa [insertQueue, hy, hb, (insertQueue_perm now trams s x q).mem_iff, after_j, ih hsq hall hp] using hjq

/-- A slot that is not queued gets a place that keeps the order. -/
theorem insertQueue_queueOrdered {s : TramSlot} {x : TramRec} (hx : trams.get s = some x) (hxq : queueable x = true)
    {q : List TramSlot} (hs : s ∉ q) (ho : queueOrdered now trams q) : queueOrdered now trams (insertQueue now trams s x q) := by
  rw [queueOrdered_iff] at ho ⊢
  obtain ⟨hn, hall, hp⟩ := ho
  have perm := insertQueue_perm now trams s x q
  refine ⟨perm.nodup_iff.mpr (hn.cons hs), fun k hk => ?_, insertQueue_pairwise hw hx hxq hs hall hp⟩
  obtain rfl | hk := List.mem_cons.mp (perm.mem_iff.mp hk)
  · exact ⟨x, hx, hxq⟩
  · exact hall k hk

/-- A record notice keeps the order of the slots that it is not about (R147). -/
theorem requeue_queueOrdered {s : TramSlot} {q : List TramSlot} (ho : queueOrdered now trams (q.filter (· ≠ s))) :
    queueOrdered now trams (requeue now true trams s q) := by
  cases hx : trams.get s with
  | none => simpa [requeue, hx] using ho
  | some x =>
    by_cases hxq : queueable x = true
    · simpa [requeue, hx, hxq] using insertQueue_queueOrdered hw hx hxq (by simp) ho
    · simpa [requeue, hx, hxq] using ho

end

/-- A record notice leaves every other slot queued or not, as it was. -/
theorem mem_requeue_of_ne (now : Time) (on : Bool) (trams : Vector (Option TramRec) 8) {s j : TramSlot} (q : List TramSlot)
    (h : j ≠ s) : j ∈ requeue now on trams s q ↔ j ∈ q := by
  cases hx : trams.get s with
  | none => simp [requeue, hx, h]
  | some x =>
    by_cases hq : (on && queueable x) = true
    · simp [requeue, hx, hq, h, (insertQueue_perm now trams s x _).mem_iff]
    · simp [requeue, hx, hq, h]

theorem mem_requeue_self (now : Time) {trams : Vector (Option TramRec) 8} {s : TramSlot} {x : TramRec} (q : List TramSlot)
    (hx : trams.get s = some x) (hxq : queueable x = true) : s ∈ requeue now true trams s q := by
  simp [requeue, hx, hxq, (insertQueue_perm now trams s x _).mem_iff]

/-! ### The queue built anew (R148) -/

theorem foldl_requeue_queueOrdered {now : Time} {trams : Vector (Option TramRec) 8} (hw : windowed trams) (l : List TramSlot)
    {q : List TramSlot} (ho : queueOrdered now trams q) :
    queueOrdered now trams (l.foldl (fun q s => requeue now true trams s q) q) := by
  induction l generalizing q with
  | nil => exact ho
  | cons s l ih => exact ih (requeue_queueOrdered hw (queueOrdered_filter _ ho))

theorem mem_foldl_requeue (now : Time) {trams : Vector (Option TramRec) 8} {k : TramSlot} {x : TramRec}
    (hx : trams.get k = some x) (hxq : queueable x = true) (l : List TramSlot) (q : List TramSlot) (h : k ∈ q ∨ k ∈ l) :
    k ∈ l.foldl (fun q s => requeue now true trams s q) q := by
  induction l generalizing q with
  | nil => simpa using h
  | cons s l ih =>
    refine ih _ ?_
    by_cases hks : k = s
    · subst hks
      exact .inl (mem_requeue_self now q hx hxq)
    · simpa [mem_requeue_of_ne now true trams q hks, hks] using h

theorem rebuildQueue_queueOrdered (now : Time) {trams : Vector (Option TramRec) 8} (hw : windowed trams) :
    queueOrdered now trams (rebuildQueue now true trams) :=
  foldl_requeue_queueOrdered hw _ (q := []) ⟨.nil, by simp, .nil⟩

theorem mem_rebuildQueue (now : Time) {trams : Vector (Option TramRec) 8} {k : TramSlot} {x : TramRec}
    (hx : trams.get k = some x) (hxq : queueable x = true) : k ∈ rebuildQueue now true trams :=
  mem_foldl_requeue now hx hxq _ _ (.inr (List.mem_finRange k))

/-- With priority off the queue is empty. -/
theorem rebuildQueue_off (now : Time) (trams : Vector (Option TramRec) 8) : rebuildQueue now false trams = [] := by
  have step_nil : ∀ s, requeue now false trams s [] = [] := fun s => by
    cases hx : trams.get s <;> simp [requeue, hx]
  exact List.foldlRecOn (motive := (· = [])) _ _ rfl fun q hq s _ => by rw [hq, step_nil]

/-! ### The offers (R150 to R155) -/

theorem recomputeOffers_only_offers (e : Env) (r : Rt) :
    recomputeOffers e r = { r with priority := { r.priority with
      holdOffer := (recomputeOffers e r).priority.holdOffer, truncOffer := (recomputeOffers e r).priority.truncOffer } } := by
  simp only [recomputeOffers]
  split <;> rfl

/-- The stages in which offers can be (R150): RUNNING, STAGE_MIN or STAGE_RUN, under AUTONOMOUS or DIRECTED. -/
def Rt.mayOffer (r : Rt) : Bool :=
  r.mode.mode == .running && r.inStagePhase && (r.mode.source == .autonomous || r.mode.source == .directed)

theorem mayOffer_iff (r : Rt) : r.mayOffer = true ↔
    r.mode.mode = .running ∧ r.inStagePhase = true ∧ (r.mode.source = .autonomous ∨ r.mode.source = .directed) := by
  simp [Rt.mayOffer, and_assoc]

theorem mayOffer_eq_false (r : Rt)
    (h : r.mode.mode ≠ .running ∨ r.inStagePhase = false ∨ r.mode.source = .manual ∨ r.mode.source = .none) :
    r.mayOffer = false := by
  rw [Bool.eq_false_iff, Ne, mayOffer_iff]
  rintro ⟨hm, hp, hs⟩
  obtain h | h | h | h := h
  · exact h hm
  · simp [h] at hp
  · simp [h] at hs
  · simp [h] at hs

theorem recomputeOffers_absent (e : Env) (r : Rt) (h : r.mayOffer = false) :
    (recomputeOffers e r).priority.holdOffer = none ∧ (recomputeOffers e r).priority.truncOffer = none := by
  simp only [Rt.mayOffer] at h
  simp [recomputeOffers, h, -Bool.and_eq_true, -Bool.and_eq_false_imp]

/-- The truncation offered in a stage, under AUTONOMOUS alone (R153). -/
def offeredTrunc (e : Env) (r : Rt) (c : StageRec) : Option TruncOffer :=
  if r.mode.source = .autonomous then formTruncation e r c else none

theorem recomputeOffers_in_stage (e : Env) (r : Rt) (c : StageRec) (h : r.mayOffer = true) (hc : r.stage.current = some c) :
    (recomputeOffers e r).priority.truncOffer = offeredTrunc e r c ∧
    (recomputeOffers e r).priority.holdOffer = formHold e r c (offeredTrunc e r c) := by
  simp only [Rt.mayOffer] at h
  simp [recomputeOffers, h, hc, offeredTrunc, -Bool.and_eq_true]

theorem formHold_nil (e : Env) (r : Rt) (c : StageRec) (t : Option TruncOffer) (h : r.priority.queue = []) :
    formHold e r c t = none := by
  simp [formHold, h]

theorem formTruncation_nil (e : Env) (r : Rt) (c : StageRec) (h : r.priority.queue = []) : formTruncation e r c = none := by
  simp [formTruncation, h]

/-- The offers are those of a stage, or absent. -/
theorem recomputeOffers_cases (e : Env) (r : Rt) :
    (∃ c, (recomputeOffers e r).priority.truncOffer = offeredTrunc e r c ∧
      (recomputeOffers e r).priority.holdOffer = formHold e r c (offeredTrunc e r c)) ∨
    (recomputeOffers e r).priority.truncOffer = none ∧ (recomputeOffers e r).priority.holdOffer = none := by
  simp only [recomputeOffers]
  split
  · exact .inl ⟨_, rfl, rfl⟩
  · exact .inr ⟨rfl, rfl⟩

theorem recomputeOffers_truncOffer_none (e : Env) (r : Rt) (h : r.mode.source ≠ .autonomous ∨ r.priority.queue = []) :
    (recomputeOffers e r).priority.truncOffer = none := by
  obtain ⟨c, ht, -⟩ | ⟨ht, -⟩ := recomputeOffers_cases e r
  · obtain hs | hq := h
    · simp [ht, offeredTrunc, hs]
    · simp [ht, offeredTrunc, formTruncation_nil e r c hq]
  · exact ht

theorem recomputeOffers_holdOffer_nil (e : Env) (r : Rt) (h : r.priority.queue = []) :
    (recomputeOffers e r).priority.holdOffer = none := by
  obtain ⟨c, -, hh⟩ | ⟨-, hh⟩ := recomputeOffers_cases e r
  · rw [hh, formHold_nil e r c _ h]
  · exact hh

/-! ### Lead, target and truncation (R151 to R153) -/

/-- The times over which the lead of group `g` in stage `c` is taken: its starting time and the intergreens of the stage's
groups that conflict with it (R151). -/
def leadTimes (e : Env) (c : Stage) (g : Group) : List Nat :=
  e.tab.ra g :: ((e.tab.greenSet c).filter fun i => e.tab.conflicts i g).map fun i => e.tab.ig i g

theorem lead_eq (e : Env) (c : Stage) (g : Group) (n : Nat) (hn : n ∈ leadTimes e c g) (hmax : ∀ m ∈ leadTimes e c g, m ≤ n) :
    lead e c g = n + e.tab.settings.allowance := by
  have greatest : (leadTimes e c g).max? = some n := List.max?_eq_some_iff.mpr ⟨hn, hmax⟩
  rw [leadTimes, List.max?_cons', Option.some.injEq, List.foldl_map, List.foldl_filter] at greatest
  rw [lead, greatest]

/-- The test of R152 on a stage that is to be the target: it serves the defined group, and may follow stage `c`. -/
def servesFrom (e : Env) (c : Stage) (g : Group) (s : Stage) : Bool :=
  e.tab.isDefined g && e.tab.inStage s g && e.tab.permits c s

theorem targetStage_eq (e : Env) (r : Rt) (c : Stage) (g : Group) (prio : Option Stage) :
    targetStage e r c g prio = ((searchOrder r).find? (servesFrom e c g)).or (prio.filter (servesFrom e c g)) := by
  cases hd : e.tab.isDefined g
  · have serves_none : ∀ s, servesFrom e c g s = false := fun s => by simp [servesFrom, hd]
    have not_found : (searchOrder r).find? (servesFrom e c g) = none := List.find?_eq_none.mpr fun s _ => by simp [serves_none s]
    have no_priority : prio.filter (servesFrom e c g) = none := by cases prio <;> simp [Option.filter, serves_none]
    simp [targetStage, hd, not_found, no_priority]
  · have serves : servesFrom e c g = fun s => e.tab.inStage s g && e.tab.permits c s := by funext s; simp [servesFrom, hd]
    simp only [targetStage, hd, serves]
    cases (searchOrder r).find? fun s => e.tab.inStage s g && e.tab.permits c s <;> cases prio <;> simp [Option.filter]

theorem formTruncation_none (e : Env) (r : Rt) (c : StageRec) {k : TramSlot} {x : TramRec} (hk : r.priority.queue.head? = some k)
    (hx : r.trams.get k = some x) (h : e.tab.inStage c.stage x.group = true ∨ r.priority.lockoutDue ≠ none ∧ x.level ≠ 3) :
    formTruncation e r c = none := by
  have hx' : r.tram k = some x := hx
  obtain hs | ⟨hl, h3⟩ := h
  · simp [formTruncation, hk, hx', hs]
  · simp [formTruncation, hk, hx', h3, Option.isSome_iff_ne_none.mpr hl]

theorem formTruncation_eq (e : Env) (r : Rt) (c : StageRec) {k : TramSlot} {x : TramRec} {e1 : Time}
    (hk : r.priority.queue.head? = some k) (hx : r.trams.get k = some x) (he : x.e1 = some e1)
    (hs : e.tab.inStage c.stage x.group = false) (h : r.priority.lockoutDue = none ∨ x.level = 3) :
    formTruncation e r c = (targetStage e r c.stage x.group x.priorityStage).map fun s =>
      ⟨laterOf e.now c.minEnd (before e1 (lead e c.stage x.group)), s, k, x.level⟩ := by
  have hx' : r.tram k = some x := hx
  have free : ¬ (r.priority.lockoutDue.isSome = true ∧ x.level ≠ 3) := by
    obtain hl | h3 := h
    · simp [hl]
    · simp [h3]
  cases ht : targetStage e r c.stage x.group x.priorityStage <;> simp [formTruncation, hk, hx', hs, free, ht, he]

/-! ### The hold (R154, R155) -/

/-- The record of slot `k` is `x`, its group is green in stage `c`, and the truncation offered serves no higher level. -/
def coveredBy (e : Env) (r : Rt) (c : StageRec) (trunc : Option TruncOffer) (k : TramSlot) (x : TramRec) : Prop :=
  r.trams.get k = some x ∧ e.tab.inStage c.stage x.group = true ∧ ∀ t, trunc = some t → t.level ≤ x.level

/-- The taken extension limit (R149). -/
def takenExtLimit (r : Rt) : Nat :=
  match r.stage.taken with
  | some v => v.extLimit
  | none => 0

/-- The hold over the covered records of the slots `q`, as R154 says: the latest of their moments, with the record that gives
it, and none when no covered record has a moment. -/
structure LatestHold (now : Time) (covered : TramSlot → TramRec → Prop) (moment : TramRec → Option Time) (q : List TramSlot)
    (w : Option HoldOffer) : Prop where
  given : ∀ o, w = some o → ∃ x, o.slot ∈ q ∧ covered o.slot x ∧ moment x = some o.holdTo ∧ o.level = x.level
  latest : ∀ k ∈ q, ∀ x t, covered k x → moment x = some t → ∃ o, w = some o ∧ back now o.holdTo ≤ back now t

/-- One more slot at the end of the queue: its record takes the hold over when its moment is strictly later. -/
def holdStep (e : Env) (r : Rt) (c : StageRec) (trunc : Option TruncOffer) (best : Option HoldOffer) (slot : TramSlot) :
    Option HoldOffer :=
  match r.tram slot with
  | none => best
  | some x =>
    if e.tab.inStage c.stage x.group && (match trunc with | some t => decide (t.level ≤ x.level) | none => true) then
      match holdMoment e.now c.maxOut (takenExtLimit r) x, best with
      | none, _ => best
      | some h, none => some ⟨h, slot, x.level⟩
      | some h, some b => if back e.now b.holdTo ≤ back e.now h then best else some ⟨h, slot, x.level⟩
    else best

theorem formHold_eq_foldl (e : Env) (r : Rt) (c : StageRec) (trunc : Option TruncOffer) :
    formHold e r c trunc = r.priority.queue.foldl (holdStep e r c trunc) none := rfl

/-- The hold moment of a record at the present stage (R154). -/
def momentIn (e : Env) (r : Rt) (c : StageRec) (x : TramRec) : Option Time := holdMoment e.now c.maxOut (takenExtLimit r) x

/-- The test of R155 as it is computed, for a record of the slot. -/
theorem coveredBy_iff (e : Env) (r : Rt) (c : StageRec) (trunc : Option TruncOffer) {k : TramSlot} {x : TramRec}
    (hx : r.trams.get k = some x) :
    coveredBy e r c trunc k x ↔ (e.tab.inStage c.stage x.group &&
      (match trunc with | some t => decide (t.level ≤ x.level) | none => true)) = true := by
  cases trunc <;> simp [coveredBy, hx]

theorem holdStep_covered {e : Env} {r : Rt} {c : StageRec} {trunc : Option TruncOffer} {k : TramSlot} {x : TramRec}
    (hc : coveredBy e r c trunc k x) (best : Option HoldOffer) :
    holdStep e r c trunc best k = match momentIn e r c x, best with
      | none, _ => best
      | some h, none => some ⟨h, k, x.level⟩
      | some h, some b => if back e.now b.holdTo ≤ back e.now h then best else some ⟨h, k, x.level⟩ := by
  have hx : r.tram k = some x := hc.1
  rw [holdStep, hx]
  simp only [(coveredBy_iff e r c trunc hx).mp hc, if_true, momentIn]

theorem holdStep_uncovered {e : Env} {r : Rt} {c : StageRec} {trunc : Option TruncOffer} {k : TramSlot}
    (hc : ∀ x, ¬ coveredBy e r c trunc k x) (best : Option HoldOffer) : holdStep e r c trunc best k = best := by
  cases hx : r.tram k with
  | none => simp [holdStep, hx]
  | some x =>
    have := (coveredBy_iff e r c trunc hx).not.mp (hc x)
    simp only [holdStep, hx, if_neg this]

/-- What one slot does to the hold: it takes it over with a strictly later moment, or it gives no later one. -/
theorem holdStep_cases (e : Env) (r : Rt) (c : StageRec) (trunc : Option TruncOffer) (best : Option HoldOffer) (k : TramSlot) :
    (∃ x h, coveredBy e r c trunc k x ∧ momentIn e r c x = some h ∧ holdStep e r c trunc best k = some ⟨h, k, x.level⟩ ∧
      ∀ b, best = some b → back e.now h < back e.now b.holdTo) ∨
    holdStep e r c trunc best k = best ∧ ∀ x h, coveredBy e r c trunc k x → momentIn e r c x = some h →
      ∃ b, best = some b ∧ back e.now b.holdTo ≤ back e.now h := by
  by_cases hc : ∃ x, coveredBy e r c trunc k x
  · obtain ⟨x, hc⟩ := hc
    have unique : ∀ y, coveredBy e r c trunc k y → y = x := fun y hy => Option.some.inj (hy.1.symm.trans hc.1)
    rw [holdStep_covered hc best]
    cases hm : momentIn e r c x with
    | none => exact .inr ⟨rfl, fun y h hy hmy => by simp [unique y hy, hm] at hmy⟩
    | some h =>
      cases best with
      | none => exact .inl ⟨x, h, hc, hm, rfl, by simp⟩
      | some b =>
        by_cases hb : back e.now b.holdTo ≤ back e.now h
        · refine .inr ⟨if_pos hb, fun y t hy hmy => ⟨b, rfl, ?_⟩⟩
          obtain rfl : h = t := by simpa [unique y hy, hm] using hmy
          exact hb
        · refine .inl ⟨x, h, hc, hm, if_neg hb, fun b' hb' => ?_⟩
          obtain rfl := Option.some.inj hb'
          exact not_le.mp hb
  · rw [not_exists] at hc
    exact .inr ⟨holdStep_uncovered hc best, fun x _ hx => absurd hx (hc x)⟩

theorem holdStep_latestHold {e : Env} {r : Rt} {c : StageRec} {trunc : Option TruncOffer} {q : List TramSlot}
    {best : Option HoldOffer} (k : TramSlot)
    (hb : LatestHold e.now (coveredBy e r c trunc) (momentIn e r c) q best) :
    LatestHold e.now (coveredBy e r c trunc) (momentIn e r c) (q ++ [k]) (holdStep e r c trunc best k) := by
  obtain ⟨given, latest⟩ := hb
  obtain ⟨x, h, hc, hm, hw, later⟩ | ⟨hw, covers⟩ := holdStep_cases e r c trunc best k
  · rw [hw]
    refine ⟨fun o ho => ?_, fun j hj y t hy hmy => ⟨_, rfl, ?_⟩⟩
    · obtain rfl := Option.some.inj ho
      exact ⟨x, by simp, hc, hm, rfl⟩
    · obtain hj | rfl : j ∈ q ∨ j = k := by simpa using hj
      · obtain ⟨b, hb, hbt⟩ := latest j hj y t hy hmy
        exact (later b hb).le.trans hbt
      · obtain rfl : x = y := Option.some.inj (hc.1.symm.trans hy.1)
        obtain rfl : h = t := Option.some.inj (hm.symm.trans hmy)
        exact le_rfl
  · rw [hw]
    refine ⟨fun o ho => ?_, fun j hj y t hy hmy => ?_⟩
    · obtain ⟨x, hk, hx⟩ := given o ho
      exact ⟨x, by simp [hk], hx⟩
    · obtain hj | rfl : j ∈ q ∨ j = k := by simpa using hj
      · exact latest j hj y t hy hmy
      · exact covers y t hy hmy

theorem formHold_latestHold (e : Env) (r : Rt) (c : StageRec) (trunc : Option TruncOffer) :
    LatestHold e.now (coveredBy e r c trunc) (momentIn e r c) r.priority.queue (formHold e r c trunc) := by
  rw [formHold_eq_foldl]
  induction r.priority.queue using List.reverseRecOn with
  | nil => exact ⟨by simp, by simp⟩
  | append_singleton q k ih =>
    rw [List.foldl_append]
    exact holdStep_latestHold k ih

theorem momentIn_eq_map (e : Env) (r : Rt) (c : StageRec) (x : TramRec) : momentIn e r c x = x.e2.map fun e2 =>
    match c.maxOut with
    | some m => earlierOf e.now e2 (m + BitVec.ofNat 32 (min x.maxExt (takenExtLimit r)))
    | none => e2 := by
  cases h2 : x.e2 <;> cases hm : c.maxOut <;> simp [momentIn, holdMoment, h2, hm, after]

theorem momentIn_eq_none_iff (e : Env) (r : Rt) (c : StageRec) (x : TramRec) : momentIn e r c x = none ↔ x.e2 = none := by
  simp [momentIn_eq_map]

/-! ### PRIORITY_ENABLE (R148) -/

theorem setEnable_same (e : Env) (on : Bool) (r : Rt) (h : r.priority.enable = on) : setEnable e on r = r := by
  simp [setEnable, h]

theorem setEnable_change (e : Env) (on : Bool) (r : Rt) (h : r.priority.enable ≠ on) :
    setEnable e on r =
      recomputeOffers e (r.withPriority fun p => { p with enable := on, queue := rebuildQueue e.now on r.trams }) := by
  simp [setEnable, h]

theorem setEnable_enable (e : Env) (on : Bool) (r : Rt) : (setEnable e on r).priority.enable = on := by
  by_cases h : r.priority.enable = on
  · rw [setEnable_same e on r h, h]
  · simp [setEnable_change e on r h]

theorem setEnable_queue_of_change (e : Env) (on : Bool) (r : Rt) (h : r.priority.enable ≠ on) :
    (setEnable e on r).priority.queue = rebuildQueue e.now on r.trams := by
  simp [setEnable_change e on r h]

/-- Off from on withdraws queue and offers. -/
theorem setEnable_off (e : Env) (r : Rt) (h : r.priority.enable = true) :
    (setEnable e false r).priority.queue = [] ∧ (setEnable e false r).priority.holdOffer = none ∧
      (setEnable e false r).priority.truncOffer = none := by
  have change := setEnable_change e false r (by simp [h])
  refine ⟨by simp [change, rebuildQueue_off], ?_, ?_⟩
  · rw [change, recomputeOffers_holdOffer_nil _ _ (by simp [rebuildQueue_off])]
  · rw [change, recomputeOffers_truncOffer_none _ _ (.inr (by simp [rebuildQueue_off]))]

theorem setEnable_still (e : Env) (on : Bool) (r : Rt) : (setEnable e on r).still e = r.still e :=
  still_congr e r _ (by simp) (by simp) (by simp) (by simp) (by simp) (by simp)

/-- The start of the max-green timer recomputes the offers and so brings none to an empty queue. -/
theorem maxGreenCheck_offers_none (e : Env) (r : Rt) (hq : r.priority.queue = []) (hh : r.priority.holdOffer = none)
    (ht : r.priority.truncOffer = none) :
    (maxGreenCheck e r).priority.holdOffer = none ∧ (maxGreenCheck e r).priority.truncOffer = none := by
  unfold maxGreenCheck
  split
  · exact ⟨hh, ht⟩
  · split
    · exact ⟨recomputeOffers_holdOffer_nil _ _ (by simpa), recomputeOffers_truncOffer_none _ _ (.inr (by simpa))⟩
    · exact ⟨hh, ht⟩

/-- A delivered PRIORITY_ENABLE is answered with what its owner does after the frame's arrival. -/
theorem exec_priorityEnable_delivered (s : State) (h : Header) (b : Byte) (hd : Delivered s.part (controlFrame h 6 [b])) :
    exec (.priorityEnable h [b]) s = .next (s.withRt (answer s.part.env (controlFrame h 6 [b])
      (priorityEnableOwner b s.part.env (s.part.arrived .head)).2
      (priorityEnableOwner b s.part.env (s.part.arrived .head)).1)) := by
  show execPriorityEnable h [b] s = _
  rw [execPriorityEnable, State.onPart, headFrame_delivered _ _ _ _ hd]
  rfl

theorem priorityEnableOwner_badEntry (b : Byte) (e : Env) (r : Rt) (h0 : b ≠ 0#8) (h1 : b ≠ 1#8) :
    priorityEnableOwner b e r = (r, ⟨.badEntry, []⟩) := by
  simp [priorityEnableOwner, firstOf, h0, h1, refuse]

theorem priorityEnableOwner_accepts (b : Byte) (e : Env) (r : Rt) (h : b = 0#8 ∨ b = 1#8) :
    priorityEnableOwner b e r = (finish e (setEnable e (decide (b = 0#8)) r), .accepted) := by
  obtain rfl | rfl := h <;> simp [priorityEnableOwner, firstOf, accept]

/-- What an accepted PRIORITY_ENABLE leaves, where the Stage Engine has nothing to act on (R148). -/
theorem finish_setEnable (e : Env) (on : Bool) (r : Rt) (h : r.still e = true) :
    let o := finish e (setEnable e on r)
    o.priority.enable = on ∧
    (on = false → r.priority.enable = true →
      o.priority.queue = [] ∧ o.priority.holdOffer = none ∧ o.priority.truncOffer = none) ∧
    (on ≠ r.priority.enable → o.priority.queue = rebuildQueue e.now on r.trams) ∧
    (r.priority.enable = on → o.priority.queue = r.priority.queue) ∧
    o.priority.served = r.priority.served ∧ o.priority.lockoutDue = r.priority.lockoutDue ∧
    o.trams = r.trams ∧ o.mode = r.mode ∧ o.groups = r.groups := by
  simp only [finish_still e _ ((setEnable_still e on r).trans h), noteGap_frame, maxGreenCheck_frame, setEnable_frame,
    setEnable_enable, true_and, and_true]
  refine ⟨?_, fun hc => setEnable_queue_of_change e on r hc.symm, fun hs => by rw [setEnable_same e on r hs]⟩
  rintro rfl hon
  obtain ⟨hq, hh, ht⟩ := setEnable_off e r hon
  exact ⟨hq, maxGreenCheck_offers_none e _ hq hh ht⟩

/-- PRIORITY_ENABLE on the whole machine: refused for a value that is neither on nor off, else carried out (R148). -/
theorem priorityEnable_effect (s : State) (h : Header) (b : Byte) (hd : Delivered s.part (controlFrame h 6 [b])) :
    let e := s.part.env
    let f := controlFrame h 6 [b]
    (b ≠ 0#8 → b ≠ 1#8 →
      exec (.priorityEnable h [b]) s = .next (s.withRt (answer e f ⟨.badEntry, []⟩ (s.part.arrived .head)))) ∧
    (b = 0#8 ∨ b = 1#8 →
      exec (.priorityEnable h [b]) s = .next (s.withRt (answer e f .accepted
        (finish e (setEnable e (decide (b = 0#8)) (s.part.arrived .head)))))) := by
  refine ⟨fun h0 h1 => ?_, fun h01 => ?_⟩
  · rw [exec_priorityEnable_delivered s h b hd, priorityEnableOwner_badEntry b _ _ h0 h1]
  · rw [exec_priorityEnable_delivered s h b hd, priorityEnableOwner_accepts b _ _ h01]

theorem arrived_still (p : Part) (port : Port) : (p.arrived port).still p.env = p.rt.still p.env :=
  still_congr p.env p.rt _ (by simp) (by simp) (by simp) (by simp) (by simp) (by simp)

/-! ### The offers in a stage of RUNNING, and the statement -/

theorem recomputeOffers_truncOffer_eq (e : Env) (r : Rt) (c : StageRec) (hm : r.mode.mode = .running)
    (hp : r.inStagePhase = true) (hc : r.stage.current = some c) (hs : r.mode.source = .autonomous) :
    (recomputeOffers e r).priority.truncOffer = formTruncation e r c := by
  have may : r.mayOffer = true := (mayOffer_iff r).mpr ⟨hm, hp, .inl hs⟩
  rw [(recomputeOffers_in_stage e r c may hc).1, offeredTrunc, if_pos hs]

theorem recomputeOffers_latestHold (e : Env) (r : Rt) (c : StageRec) (hm : r.mode.mode = .running)
    (hp : r.inStagePhase = true) (hc : r.stage.current = some c) (hs : r.mode.source = .autonomous ∨ r.mode.source = .directed) :
    LatestHold e.now (coveredBy e r c (recomputeOffers e r).priority.truncOffer) (momentIn e r c) r.priority.queue
      (recomputeOffers e r).priority.holdOffer := by
  have may : r.mayOffer = true := (mayOffer_iff r).mpr ⟨hm, hp, hs⟩
  obtain ⟨ht, hh⟩ := recomputeOffers_in_stage e r c may hc
  rw [hh, ht]
  exact formHold_latestHold e r c _

/-- Settles O29: the effect of the command from `finish_setEnable`, the order of the queue from `queueKey`, and the offers
from the inversion of `recomputeOffers`. -/
theorem priorityEnableTests : Obligations.PriorityEnableTests := by
  refine ⟨fun s h b hd => ?_, fun now trams hw => ?_, fun e r => ?_, fun now a b => ?_⟩
  · obtain ⟨refused, accepted⟩ := priorityEnable_effect s h b hd
    refine ⟨refused, fun hb hstill => ⟨_, accepted hb, ?_⟩⟩
    obtain ⟨enable, off, change, same, rest⟩ := finish_setEnable s.part.env (decide (b = 0#8)) (s.part.arrived .head)
      ((arrived_still s.part .head).trans hstill)
    simp only [linkUp_frame] at off change same rest
    refine ⟨enable, fun h1 => off (by simp [h1]), fun h0 hoff => ?_, same, rest⟩
    simpa [h0] using change (by simp [h0, hoff])
  · exact ⟨rebuildQueue_queueOrdered now hw, fun k x => mem_rebuildQueue now, fun q k ho =>
      ⟨requeue_queueOrdered hw ho, fun j hj => mem_requeue_of_ne now true trams q hj, fun x => mem_requeue_self now q⟩⟩
  · refine ⟨recomputeOffers_only_offers e r, fun h => recomputeOffers_absent e r (mayOffer_eq_false r h),
      recomputeOffers_truncOffer_none e r, fun c hm hp hc => ⟨fun hs k x e1 lead hk hx he hin hmax => ?_, fun hs => ?_⟩⟩
    · rw [recomputeOffers_truncOffer_eq e r c hm hp hc hs]
      refine ⟨formTruncation_none e r c hk hx, fun hst hfree => ?_⟩
      rw [formTruncation_eq e r c hk hx he hst hfree, targetStage_eq, lead_eq e c.stage x.group lead hin hmax]
      rfl
    · obtain ⟨given, latest⟩ := recomputeOffers_latestHold e r c hm hp hc hs
      refine ⟨fun w hw => ?_, fun hnone k x ⟨hq, hcov⟩ => ?_⟩
      · obtain ⟨x, hq, hcov, hmom, hlev⟩ := given w hw
        refine ⟨x, ⟨hq, hcov⟩, (momentIn_eq_map e r c x).symm.trans hmom, hlev, fun k y t ⟨hyq, hy⟩ hty => ?_⟩
        obtain ⟨o, ho, hle⟩ := latest k hyq y t hy ((momentIn_eq_map e r c y).trans hty)
        obtain rfl : w = o := Option.some.inj (hw.symm.trans ho)
        exact hle
      · rw [← momentIn_eq_none_iff e r c, Option.eq_none_iff_forall_ne_some]
        intro t ht
        obtain ⟨o, ho, -⟩ := latest k hq x t hcov ht
        exact absurd ho (by simp [hnone])
  · exact ⟨laterOf_eq_or now a b, earlierOf_eq_or now a b, back_laterOf now a b, back_earlierOf now a b⟩

end Sys2Proof.Machine

/-! SUPPORT. Proofs of the statements of the family 01_signal_groups_and_their_aspects: the group states that every step keeps. -/

namespace Sys2Proof.Machine

/-! ### Which operations leave DARK and FLASHING alone -/

/-- DARK and FLASHING: the states that only a whole-junction order or a stored group entry brings a group into or out of
(R5 to R8). -/
def GroupState.unlit (x : GroupState) : Prop := x = .dark ∨ x = .flashing

/-- Every group that is in DARK or FLASHING in `r` is in the same state in `r'`. -/
def keepsUnlit (r r' : Rt) : Prop :=
  ∀ g : Group, (r.groups.get g).state.unlit → (r'.groups.get g).state = (r.groups.get g).state

theorem keepsUnlit_of_groups_eq {r r' : Rt} (h : r'.groups = r.groups) : keepsUnlit r r' := fun g _ => by rw [h]

theorem keepsUnlit.trans {r r' r'' : Rt} (h : keepsUnlit r r') (h' : keepsUnlit r' r'') : keepsUnlit r r'' :=
  fun g hg => by
    have same := h g hg
    rw [← same] at hg
    exact (h' g hg).trans same

theorem keepsUnlit_foldl {α : Type} (f : Rt → α → Rt) (hf : ∀ r a, keepsUnlit r (f r a)) (l : List α) (r : Rt) :
    keepsUnlit r (l.foldl f r) :=
  foldl_inv (keepsUnlit r) f (fun r' a h => h.trans (hf r' a)) l r (keepsUnlit_of_groups_eq rfl)

theorem updGroup_get (g k : Group) (f : GroupRec → GroupRec) (r : Rt) :
    (updGroup g f r).groups.get k = if g = k then f (r.groups.get k) else r.groups.get k := by
  simp [updGroup, upd_get]

/-- A change of one group's record that is outside DARK and FLASHING, or keeps its state. -/
theorem keepsUnlit_updGroup (g : Group) (f : GroupRec → GroupRec) (r : Rt)
    (h : (r.groups.get g).state.unlit → (f (r.groups.get g)).state = (r.groups.get g).state) :
    keepsUnlit r (updGroup g f r) := fun k hk => by
  rw [updGroup_get]
  split
  · next hgk => subst hgk; exact h hk
  · rfl

theorem enterStarting_keepsUnlit (e : Env) (g : Group) (r : Rt) : keepsUnlit r (enterStarting e g r) := by
  unfold enterStarting
  split
  · next hs =>
    have rest : (r.groups.get g).state = .rest := by simp [startingNow] at hs; exact hs.1.1
    have key : keepsUnlit r (updGroup g (fun x => { x with state := .starting, startingDue := x.pendingGreen }) r) :=
      keepsUnlit_updGroup g _ r fun hu => by simp [GroupState.unlit, rest] at hu
    exact key.trans (keepsUnlit_of_groups_eq (by simp))
  · exact keepsUnlit_of_groups_eq rfl

/-- A group that has reached its green start was in STARTING or REST (R10). -/
theorem state_of_greenNow {e : Env} {r : Rt} {g : Group} {t : Time} (h : greenNow e r g = some t) :
    (r.groups.get g).state = .starting ∨ (r.groups.get g).state = .rest := by
  simp only [greenNow] at h
  split at h
  · next hs => exact hs.imp id And.left
  · cases h

theorem enterGreen_keepsUnlit (e : Env) (g : Group) (r : Rt) : keepsUnlit r (enterGreen e g r) := by
  unfold enterGreen
  split
  · next t ht =>
    have key : keepsUnlit r (updGroup g (GroupRec.enterGreen t (e.tab.minGreen g)) r) :=
      keepsUnlit_updGroup g _ r fun hu => by
        rcases state_of_greenNow ht with hs | hs <;> simp [GroupState.unlit, hs] at hu
    exact key.trans (keepsUnlit_of_groups_eq (by simp))
  · exact keepsUnlit_of_groups_eq rfl

theorem takeGreenStart_keepsUnlit (e : Env) (g : Group) (t : Time) (r : Rt) : keepsUnlit r (takeGreenStart e g t r) := by
  simp only [takeGreenStart]
  split
  · exact ((keepsUnlit_updGroup g _ r fun _ => rfl).trans (enterStarting_keepsUnlit e g _)).trans
      (enterGreen_keepsUnlit e g _)
  · exact keepsUnlit_of_groups_eq rfl

theorem minGreenRun_keepsUnlit (e : Env) (g : Group) (r : Rt) : keepsUnlit r (minGreenRun e g r) := by
  simp only [minGreenRun]
  split
  · exact keepsUnlit_updGroup g _ r fun _ => rfl
  · exact keepsUnlit_of_groups_eq rfl

theorem takeGreenEnd_keepsUnlit (e : Env) (g : Group) (r : Rt) : keepsUnlit r (takeGreenEnd e g r) := by
  simp only [takeGreenEnd]
  split
  · next hs =>
    have green : (r.groups.get g).state = .green := by simp [takesGreenEnd] at hs; exact hs.1
    have key : keepsUnlit r (updGroup g (GroupRec.endGreen e.now (e.tab.clearing g)) r) :=
      keepsUnlit_updGroup g _ r fun hu => by simp [GroupState.unlit, green] at hu
    split <;> exact key.trans (keepsUnlit_of_groups_eq (by simp))
  · exact keepsUnlit_of_groups_eq rfl

theorem clearingRun_keepsUnlit (e : Env) (g : Group) (r : Rt) : keepsUnlit r (clearingRun e g r) := by
  simp only [clearingRun]
  split
  · next hs =>
    have key : keepsUnlit r (updGroup g (fun x => { x with state := .rest, clearingDue := none }) r) :=
      keepsUnlit_updGroup g _ r fun hu => by simp [GroupState.unlit, hs.1] at hu
    exact key.trans (keepsUnlit_of_groups_eq (by simp))
  · exact keepsUnlit_of_groups_eq rfl

theorem orderGreenEnd_keepsUnlit (e : Env) (g : Group) (r : Rt) : keepsUnlit r (orderGreenEnd e g r) :=
  (keepsUnlit_of_groups_eq (by simp)).trans (takeGreenEnd_keepsUnlit e g _)

theorem fixGreen_keepsUnlit (e : Env) (j : Group) (t : Time) (r : Rt) : keepsUnlit r (fixGreen e j t r) :=
  (keepsUnlit_of_groups_eq (by simp)).trans (takeGreenStart_keepsUnlit e j t _)

theorem fixAtStart_keepsUnlit (e : Env) (x : Gaining) (r : Rt) : keepsUnlit r (fixAtStart e x r) := by
  unfold fixAtStart
  split
  · split
    · exact fixGreen_keepsUnlit e _ _ r
    · exact keepsUnlit_of_groups_eq rfl
  · exact keepsUnlit_of_groups_eq rfl

theorem fixAtConfirm_keepsUnlit (e : Env) (x : Gaining) (r : Rt) : keepsUnlit r (fixAtConfirm e x r) := by
  unfold fixAtConfirm
  split
  · split
    · exact fixGreen_keepsUnlit e _ _ r
    · exact keepsUnlit_of_groups_eq rfl
  · exact keepsUnlit_of_groups_eq rfl

theorem stageConfirm_keepsUnlit (e : Env) (i : Group) (stamp : Time) (r : Rt) : keepsUnlit r (stageConfirm e i stamp r) := by
  simp only [stageConfirm]
  split
  · exact keepsUnlit_of_groups_eq (by simp)
  · exact (keepsUnlit_of_groups_eq (by simp)).trans (keepsUnlit_foldl _ (fun r x => fixAtConfirm_keepsUnlit e x r) _ _)

theorem endStage_keepsUnlit (e : Env) (s : Stage) (cause : EndCause) (tr late : Bool) (r : Rt) :
    keepsUnlit r (endStage e s cause tr late r) := by
  unfold endStage
  split
  · exact keepsUnlit_of_groups_eq rfl
  · refine (keepsUnlit_of_groups_eq (by simp)).trans
      ((keepsUnlit_foldl _ (fun r g => orderGreenEnd_keepsUnlit e g r) _ _).trans
        (keepsUnlit_foldl _ (fun r x => fixAtStart_keepsUnlit e x r) _ _))

theorem firstInterstage_keepsUnlit (e : Env) (s : Stage) (r : Rt) : keepsUnlit r (firstInterstage e s r) :=
  (keepsUnlit_of_groups_eq (by simp)).trans (keepsUnlit_foldl _ (fun r x => fixGreen_keepsUnlit e _ _ r) _ _)

theorem slotConfirm_keepsUnlit (e : Env) (addr : Byte) (pl : List Byte) (s : Slot) (r : Rt) :
    keepsUnlit r (slotConfirm e addr pl s r) := by
  unfold slotConfirm
  split
  · exact keepsUnlit_of_groups_eq rfl
  · split
    · exact (keepsUnlit_of_groups_eq (by simp)).trans (stageConfirm_keepsUnlit e _ _ _)
    · exact keepsUnlit_of_groups_eq rfl

theorem takeLampStatus_keepsUnlit (e : Env) (addr : Byte) (pl : List Byte) (r : Rt) :
    keepsUnlit r (takeLampStatus e addr pl r) := by
  unfold takeLampStatus
  split
  · exact keepsUnlit_of_groups_eq rfl
  · exact ((keepsUnlit_of_groups_eq (by simp)).trans
      (keepsUnlit_foldl _ (fun r s => slotConfirm_keepsUnlit e addr pl s r) _ _)).trans
        (keepsUnlit_foldl _ (fun r s => keepsUnlit_of_groups_eq (by simp)) _ _)

theorem autonomousStep_keepsUnlit (e : Env) (r : Rt) : keepsUnlit r (autonomousStep e r).1 := by
  simp only [autonomousStep]
  split
  · split <;> exact keepsUnlit_of_groups_eq (by simp)
  · split
    · exact endStage_keepsUnlit e _ _ _ _ r
    · split
      · split
        · exact endStage_keepsUnlit e _ _ _ _ r
        · split <;> exact keepsUnlit_of_groups_eq (by simp)
      · split <;> exact keepsUnlit_of_groups_eq (by simp)

theorem directedStep_keepsUnlit (e : Env) (r : Rt) : keepsUnlit r (directedStep e r).1 := by
  unfold directedStep
  split
  · exact keepsUnlit_of_groups_eq rfl
  · split
    · exact keepsUnlit_of_groups_eq rfl
    · split
      · exact keepsUnlit_of_groups_eq (by simp)
      · split
        · exact keepsUnlit_of_groups_eq (by simp)
        · exact (keepsUnlit_of_groups_eq (by simp)).trans (endStage_keepsUnlit e _ _ _ _ _)

theorem manualStep_keepsUnlit (e : Env) (r : Rt) : keepsUnlit r (manualStep e r).1 := by
  unfold manualStep
  split
  · split
    · exact (keepsUnlit_of_groups_eq (by simp)).trans (endStage_keepsUnlit e _ _ _ _ _)
    · exact keepsUnlit_of_groups_eq (by simp)
  · exact keepsUnlit_of_groups_eq rfl

theorem clearingAll_keepsUnlit (e : Env) (r : Rt) : keepsUnlit r (clearingAll e r) := by
  have mode : keepsUnlit r (setMode e .shutdown .clearingAll r) := keepsUnlit_of_groups_eq (by simp)
  exact (mode.trans (keepsUnlit_foldl _ (fun r g => orderGreenEnd_keepsUnlit e g r) _ _)).trans
    (keepsUnlit_of_groups_eq rfl)

/-! ### Whole-junction orders -/

/-- A fold over distinct elements whose step at `g` changes what stands at `g` alone. -/
theorem foldl_get_of_step {β ι α : Type} [DecidableEq ι] (get : β → ι → α) (f : β → ι → β) (φ : ι → α → α)
    (hf : ∀ r g k, get (f r g) k = if g = k then φ g (get r g) else get r k) :
    ∀ (l : List ι) (r : β) (k : ι), l.Nodup → get (l.foldl f r) k = if k ∈ l then φ k (get r k) else get r k
  | [], r, k, _ => by simp
  | g :: l, r, k, hn => by
    obtain ⟨hg, hn⟩ := List.nodup_cons.mp hn
    rw [List.foldl_cons, foldl_get_of_step get f φ hf l (f r g) k hn, hf]
    by_cases hk : g = k
    · subst hk; simp [hg]
    · simp [hk, Ne.symm hk]

/-- The record of a group that a flash or dark order has reached (R5, R6). -/
def GroupRec.ordered (target : GroupState) (x : GroupRec) : GroupRec := if x.state = target then x else { state := target }

@[simp] theorem GroupRec.ordered_state (target : GroupState) (x : GroupRec) : (x.ordered target).state = target := by
  unfold GroupRec.ordered; split <;> simp_all

/-- The record of a group that a rest order has reached (R7). -/
def GroupRec.rested (defined : Bool) (x : GroupRec) : GroupRec :=
  if defined = true ∧ (x.state = .dark ∨ x.state = .flashing) then { state := .rest } else x

theorem orderGroup_get (target : GroupState) (g k : Group) (r : Rt) :
    (orderGroup target g r).groups.get k = if g = k then (r.groups.get g).ordered target else r.groups.get k := by
  unfold orderGroup GroupRec.ordered
  by_cases hk : g = k
  · subst hk; split <;> simp [updGroup_get]
  · split <;> simp [updGroup_get, hk]

theorem restGroup_get (e : Env) (g k : Group) (r : Rt) :
    (restGroup e g r).groups.get k = if g = k then (r.groups.get g).rested (e.tab.isDefined g) else r.groups.get k := by
  simp only [restGroup, GroupRec.rested]
  by_cases hk : g = k
  · subst hk; split <;> simp [updGroup_get]
  · split <;> simp [updGroup_get, hk]

@[simp] theorem mem_allGroups (g : Group) : g ∈ allGroups := List.mem_finRange g

theorem allGroups_nodup : allGroups.Nodup := List.nodup_finRange 24

theorem flashGroups_get (e : Env) (r : Rt) (k : Group) :
    (flashGroups e r).groups.get k = (r.groups.get k).ordered (flashState e.tab k) := by
  rw [flashGroups, foldl_get_of_step (fun r g => r.groups.get g) _ (fun g => GroupRec.ordered (flashState e.tab g))
    (fun r g k => orderGroup_get _ g k r) allGroups r k allGroups_nodup]
  simp

theorem darkGroups_get (r : Rt) (k : Group) : (darkGroups r).groups.get k = (r.groups.get k).ordered .dark := by
  rw [darkGroups, foldl_get_of_step (fun r g => r.groups.get g) _ (fun _ => GroupRec.ordered .dark)
    (fun r g k => orderGroup_get _ g k r) allGroups r k allGroups_nodup]
  simp

theorem flashOrder_get (e : Env) (r : Rt) (k : Group) :
    (flashOrder e r).groups.get k = (r.groups.get k).ordered (flashState e.tab k) := by
  simp [flashOrder, flashGroups_get]

theorem darkOrder_get (e : Env) (r : Rt) (k : Group) : (darkOrder e r).groups.get k = (r.groups.get k).ordered .dark := by
  simp [darkOrder, darkGroups_get]

theorem restOrder_get (e : Env) (r : Rt) (k : Group) :
    (restOrder e r).groups.get k = (r.groups.get k).rested (e.tab.isDefined k) := by
  have groups : (restOrder e r).groups = (allGroups.foldl (fun r g => restGroup e g r) r).groups := by simp [restOrder]
  rw [groups, foldl_get_of_step (fun r g => r.groups.get g) _ (fun g => GroupRec.rested (e.tab.isDefined g))
    (fun r g k => restGroup_get e g k r) allGroups r k allGroups_nodup]
  simp

/-! ### The invariant on the blocks -/

/-- The group states of the blocks are those that the mode and the group table of `e` allow. -/
def Rt.groupsFit (e : Env) (r : Rt) : Prop := (⟨e, r⟩ : Part).GroupsFitMode

theorem Rt.groupsFit.undefined {e : Env} {r : Rt} (h : r.groupsFit e) (g : Group) (hg : e.tab.isDefined g = false) :
    (r.groups.get g).state = .dark := h.1 g hg

theorem flashState_unlit (t : Tables) (g : Group) : (flashState t g).unlit := by
  unfold flashState GroupState.unlit; split <;> simp

theorem flashState_of_undefined {t : Tables} {g : Group} (h : t.isDefined g = false) : flashState t g = .dark := by
  have unused : t.gtype g = .unused := by simpa [Tables.isDefined] using h
  simp [flashState, unused]

/-- The modes and sub-phases in which only the undefined groups are bound to a state (R42 to R46). -/
def ModeUnit.released (m : ModeUnit) : Prop :=
  m.mode ≠ .dark ∧ m.mode ≠ .flash ∧ ¬ (m.mode = .startup ∧ m.sub = .startFlash)

/-- The invariant reads the group table, the mode with its sub-phase and the group states. -/
theorem groupsFit_congr {p p' : Part} (ht : p'.env.tab.groups = p.env.tab.groups)
    (hm : p'.rt.mode.mode = p.rt.mode.mode) (hs : p'.rt.mode.sub = p.rt.mode.sub) (hg : p'.rt.groups = p.rt.groups)
    (h : p.GroupsFitMode) : p'.GroupsFitMode := by
  have gtype : ∀ g, p'.env.tab.gtype g = p.env.tab.gtype g := fun g => by simp [Tables.gtype, ht]
  simpa [Part.GroupsFitMode, hm, hs, hg, Tables.isDefined, flashState, gtype] using h

theorem groupsFit_of_keepsUnlit {e : Env} {r r' : Rt} (h : r.groupsFit e) (hk : keepsUnlit r r')
    (hm : r'.mode.mode = r.mode.mode ∧ r'.mode.sub = r.mode.sub ∨ r'.mode.released) : r'.groupsFit e := by
  obtain ⟨undef, dark, flash⟩ := h
  refine ⟨fun g hg => ?_, fun hd g => ?_, fun hf g => ?_⟩
  · exact (hk g (.inl (undef g hg))).trans (undef g hg)
  · obtain ⟨hm, -⟩ | ⟨hd', -⟩ := hm
    · have now := dark (hm.symm.trans hd) g
      exact (hk g (.inl now)).trans now
    · exact absurd hd hd'
  · obtain ⟨hm, hs⟩ | ⟨-, hf', hf''⟩ := hm
    · have now := flash (by simpa [hm, hs] using hf) g
      exact (hk g (now ▸ flashState_unlit _ g)).trans now
    · exact hf.elim (fun h => absurd h hf') (fun h => absurd h hf'')

theorem groupsFit_of_same {e : Env} {r r' : Rt} (h : r.groupsFit e) (hg : r'.groups = r.groups)
    (hm : r'.mode.mode = r.mode.mode) (hs : r'.mode.sub = r.mode.sub) : r'.groupsFit e :=
  groupsFit_of_keepsUnlit h (keepsUnlit_of_groups_eq hg) (.inl ⟨hm, hs⟩)

/-- Every group is in the state that a flash order asks for, and the mode is not DARK. -/
theorem groupsFit_of_flashState {e : Env} {r : Rt} (hg : ∀ g, (r.groups.get g).state = flashState e.tab g)
    (hm : r.mode.mode ≠ .dark) : r.groupsFit e :=
  ⟨fun g h => (hg g).trans (flashState_of_undefined h), fun h => absurd h hm, fun _ => hg⟩

theorem groupsFit_of_dark {e : Env} {r : Rt} (hg : ∀ g, (r.groups.get g).state = .dark)
    (hm : r.mode.mode = .dark) : r.groupsFit e :=
  ⟨fun g _ => hg g, fun _ => hg, fun h => by simp [hm] at h⟩

theorem groupsFit_of_released {e : Env} {r : Rt} (hg : ∀ g, e.tab.isDefined g = false → (r.groups.get g).state = .dark)
    (hm : r.mode.released) : r.groupsFit e := by
  obtain ⟨hd, hf, hs⟩ := hm
  exact ⟨hg, fun h => absurd h hd, fun h => h.elim (fun h => absurd h hf) (fun h => absurd h hs)⟩

/-- A rest order leaves the undefined groups in DARK (R7). -/
theorem restOrder_undefined {e : Env} {r : Rt} (h : r.groupsFit e) (g : Group) (hg : e.tab.isDefined g = false) :
    ((restOrder e r).groups.get g).state = .dark := by
  simp [restOrder_get, GroupRec.rested, hg, Rt.groupsFit.undefined h g hg]

theorem shutdownAllRed_groupsFit {e : Env} {r : Rt} (h : r.groupsFit e) : (shutdownAllRed e r).groupsFit e :=
  groupsFit_of_released (by simpa [shutdownAllRed] using restOrder_undefined h)
    (by simp [shutdownAllRed, setMode_mode, ModeUnit.released])

theorem startupAllRed_groupsFit {e : Env} {r : Rt} (h : r.groupsFit e) : (startupAllRed e r).groupsFit e :=
  groupsFit_of_released (by simpa [startupAllRed] using restOrder_undefined h)
    (by simp [startupAllRed, setMode_mode, ModeUnit.released])

theorem stageStart_groupsFit {e : Env} (k : Interstage) {r : Rt} (h : r.groupsFit e) : (stageStart e k r).groupsFit e := by
  refine groupsFit_of_keepsUnlit h (keepsUnlit_of_groups_eq (by simp)) ?_
  by_cases hm : r.mode.mode = .startup
  · exact .inr (by simp [stageStart, hm, setMode_mode, ModeUnit.released])
  · exact .inl (by simp [stageStart, hm])

theorem stageEval_groupsFit {e : Env} {r : Rt} (h : r.groupsFit e) : (stageEval e r).1.groupsFit e := by
  unfold stageEval
  split
  · split
    · split
      · exact stageStart_groupsFit _ h
      · exact h
    · exact h
  · exact h
  · split
    · exact groupsFit_of_keepsUnlit h (autonomousStep_keepsUnlit e r) (.inl (by simp))
    · exact groupsFit_of_keepsUnlit h (directedStep_keepsUnlit e r) (.inl (by simp))
    · exact groupsFit_of_keepsUnlit h (manualStep_keepsUnlit e r) (.inl (by simp))
    · split
      · exact groupsFit_of_keepsUnlit h (clearingAll_keepsUnlit e r)
          (.inr (by simp [clearingAll, setMode_mode, ModeUnit.released]))
      · exact h
    · exact h
  · split
    · exact shutdownAllRed_groupsFit h
    · exact h

theorem settleFor_groupsFit {e : Env} (n : Nat) {r : Rt} (h : r.groupsFit e) : (settleFor e n r).groupsFit e := by
  induction n generalizing r with
  | zero => exact h
  | succ n ih =>
    have checked : (stageEval e (maxGreenCheck e r)).1.groupsFit e :=
      stageEval_groupsFit (groupsFit_of_same h (by simp) (by simp) (by simp))
    simp only [settleFor]
    split
    · next hr => rw [hr] at checked; exact ih checked
    · next hr => rw [hr] at checked; exact groupsFit_of_same checked (by simp) (by simp) (by simp)

theorem takeNotice_groupsFit {e : Env} (n : FaultNotice) {r : Rt} (h : r.groupsFit e) : (takeNotice e n r).groupsFit e := by
  unfold takeNotice
  split
  · exact groupsFit_of_flashState (by simp [flashOrder_get]) (by simp [setMode_mode])
  · exact groupsFit_of_same h (by simp) (by simp) (by simp)

theorem takeFaults_groupsFit {e : Env} {r : Rt} (h : r.groupsFit e) : (takeFaults e r).groupsFit e :=
  foldl_inv (Rt.groupsFit e) _ (fun _ n h => takeNotice_groupsFit n h) _ _
    (groupsFit_of_same h (by simp) (by simp) (by simp))

theorem finish_groupsFit {e : Env} {r : Rt} (h : r.groupsFit e) : (finish e r).groupsFit e :=
  takeFaults_groupsFit (settleFor_groupsFit _ (takeFaults_groupsFit h))


/-! ### Owners and moments -/

theorem enterShutdown_groupsFit {e : Env} {r : Rt} (h : r.groupsFit e) : (enterShutdown e r).groupsFit e :=
  groupsFit_of_keepsUnlit h (keepsUnlit_of_groups_eq (by simp))
    (.inr (by simp [enterShutdown, setMode_mode, ModeUnit.released]))

theorem firstStart_groupsFit {e : Env} {r : Rt} (h : r.groupsFit e) : (firstStart e r).groupsFit e := by
  have entered : keepsUnlit r (setMode e .startup .firstStart r) := keepsUnlit_of_groups_eq (by simp)
  have mode : (setMode e .startup .firstStart r).mode.released := by simp [setMode_mode, ModeUnit.released]
  simp only [firstStart]
  split
  · exact groupsFit_of_keepsUnlit h (entered.trans (firstInterstage_keepsUnlit e _ _)) (.inr (by simpa using mode))
  · exact groupsFit_of_keepsUnlit h entered (.inr mode)

theorem flashEntered_groupsFit (e : Env) (r : Rt) : (setMode e .flash .none (flashOrder e r)).groupsFit e :=
  groupsFit_of_flashState (by simp [flashOrder_get]) (by simp [setMode_mode])

theorem accept_groupsFit {e : Env} {r : Rt} (h : r.groupsFit e) : (accept e r).1.groupsFit e := finish_groupsFit h

/-- An owner whose acceptance changes neither groups nor mode before the conditions are read. -/
theorem accept_same_groupsFit {e : Env} {r r' : Rt} (h : r.groupsFit e) (hg : r'.groups = r.groups)
    (hm : r'.mode.mode = r.mode.mode) (hs : r'.mode.sub = r.mode.sub) : (accept e r').1.groupsFit e :=
  accept_groupsFit (groupsFit_of_same h hg hm hs)

theorem flashOnOwner_groupsFit {e : Env} {r : Rt} (h : r.groupsFit e) : (flashOnOwner e r).1.groupsFit e := by
  unfold flashOnOwner
  split
  · split
    · exact h
    · exact accept_groupsFit (flashEntered_groupsFit e r)
  · exact h
  all_goals exact h

theorem darkOwner_groupsFit {e : Env} {r : Rt} (h : r.groupsFit e) : (darkOwner e r).1.groupsFit e := by
  unfold darkOwner
  split
  · exact h
  · exact accept_groupsFit (groupsFit_of_dark (by simp [darkOrder_get]) (by simp [setMode_mode]))
  all_goals exact h

theorem startUp_groupsFit (e : Env) (p : PlanEntry) (r : Rt) : (startUp e p r).groupsFit e := by
  have begun : ∀ r' : Rt, r'.groups = (flashOrder e r).groups → r'.mode.mode = .startup → (takeFaults e r').groupsFit e :=
    fun r' hg hm => takeFaults_groupsFit (groupsFit_of_flashState (by simp [hg, flashOrder_get]) (by simp [hm]))
  have groups : ∀ f, (flashOrder e (r.withMode f)).groups = (flashOrder e r).groups := fun f =>
    Vector.ext fun i hi => by simpa [Vector.get] using
      (flashOrder_get e (r.withMode f) ⟨i, hi⟩).trans (flashOrder_get e r ⟨i, hi⟩).symm
  simp only [startUp]
  split
  · exact startupAllRed_groupsFit (begun _ (by simp [groups]) (by simp [setMode_mode]))
  · exact begun _ (by simp [groups]) (by simp [setMode_mode])

theorem startOwner_groupsFit {e : Env} {r : Rt} (h : r.groupsFit e) : (startOwner e r).1.groupsFit e := by
  unfold startOwner
  split
  · split
    · exact h
    · split
      · exact h
      · exact accept_groupsFit (startUp_groupsFit e _ r)
      · exact h
  all_goals exact h

theorem stopOwner_groupsFit {e : Env} {r : Rt} (h : r.groupsFit e) : (stopOwner e r).1.groupsFit e := by
  unfold stopOwner
  split
  · exact accept_groupsFit (enterShutdown_groupsFit h)
  all_goals exact h

theorem restartOwner_groupsFit (e : Env) (r : Rt) : (restartOwner e r).1.groupsFit e := by
  refine takeFaults_groupsFit ?_
  by_cases hc : e.tab.mappedCount = 0
  · exact groupsFit_of_dark (by simp [hc, darkGroups_get]) (by simp [hc, restartMode])
  · exact groupsFit_of_flashState (by simp [hc, flashGroups_get]) (by simp [hc, restartMode])

theorem directedOwner_groupsFit {tests : Env → Rt → Rt × Result}
    (ht : ∀ {e : Env} {r : Rt}, r.groupsFit e → (tests e r).1.groupsFit e) {e : Env} {r : Rt} (h : r.groupsFit e) :
    (directedOwner tests e r).1.groupsFit e := by
  unfold directedOwner
  split
  · exact h
  · split
    · exact groupsFit_of_same h (by simp [refuse]) (by simp [refuse]) (by simp [refuse])
    · exact ht h

theorem goStageTests_groupsFit (b : Byte) {e : Env} {r : Rt} (h : r.groupsFit e) : (goStageTests b e r).1.groupsFit e := by
  unfold goStageTests
  split
  · exact h
  · split
    · exact h
    · split
      · exact accept_same_groupsFit h (by simp) (by simp) (by simp)
      · exact h

theorem holdTests_groupsFit (b : Byte) {e : Env} {r : Rt} (h : r.groupsFit e) : (holdTests b e r).1.groupsFit e := by
  unfold holdTests
  split
  · exact accept_same_groupsFit h (by simp) (by simp) (by simp)
  · exact h

theorem takeOwner_groupsFit {e : Env} {r : Rt} (h : r.groupsFit e) : (takeOwner e r).1.groupsFit e := by
  unfold takeOwner
  split
  · exact h
  · split
    · exact h
    · split
      · exact h
      · exact accept_same_groupsFit h (by simp) (by simp) (by simp)

theorem releaseOwner_groupsFit {e : Env} {r : Rt} (h : r.groupsFit e) : (releaseOwner e r).1.groupsFit e := by
  unfold releaseOwner
  split
  · exact h
  · split
    · exact h
    · exact accept_same_groupsFit h (by simp) (by simp) (by simp)

theorem planSelectOwner_groupsFit (b : Byte) {e : Env} {r : Rt} (h : r.groupsFit e) :
    (planSelectOwner b e r).1.groupsFit e := by
  unfold planSelectOwner
  split
  · exact h
  · split
    · exact h
    · split
      · exact h
      · exact groupsFit_of_same h (by simp) (by simp) (by simp)

theorem softDemandOwner_groupsFit (b v : Byte) {e : Env} {r : Rt} (h : r.groupsFit e) :
    (softDemandOwner b v e r).1.groupsFit e := by
  unfold softDemandOwner
  split
  · exact h
  · split
    · exact h
    · split
      · exact h
      · split
        · exact h
        · exact accept_same_groupsFit h (by simp) (by simp) (by simp)

theorem priorityEnableOwner_groupsFit (b : Byte) {e : Env} {r : Rt} (h : r.groupsFit e) :
    (priorityEnableOwner b e r).1.groupsFit e := by
  unfold priorityEnableOwner
  split
  · exact h
  · exact accept_same_groupsFit h (by simp) (by simp) (by simp)

theorem cancelTramOwner_groupsFit (line run : Nat) {e : Env} {r : Rt} (h : r.groupsFit e) :
    (cancelTramOwner line run e r).1.groupsFit e := by
  unfold cancelTramOwner
  split
  · split
    · exact h
    · exact accept_same_groupsFit h (by simp) (by simp) (by simp)
  · exact h

theorem keepaliveRefreshOwner_groupsFit {e : Env} {r : Rt} (h : r.groupsFit e) :
    (keepaliveRefreshOwner e r).1.groupsFit e := by
  unfold keepaliveRefreshOwner
  split <;> exact groupsFit_of_same h (by simp [refuse]) (by simp [refuse]) (by simp [refuse])

theorem clearFaultOwner_groupsFit {e : Env} {r : Rt} (h : r.groupsFit e) : (clearFaultOwner e r).1.groupsFit e := by
  unfold clearFaultOwner
  split
  · exact h
  · exact groupsFit_of_same h (by simp) (by simp) (by simp)

theorem readOwner_groupsFit (pl : List Byte) {e : Env} {r : Rt} (h : r.groupsFit e) : (readOwner pl e r).1.groupsFit e := by
  unfold readOwner
  split <;> exact h

theorem tramTableOwner_groupsFit (b : Byte) {e : Env} {r : Rt} (h : r.groupsFit e) :
    (tramTableOwner b e r).1.groupsFit e := by
  unfold tramTableOwner
  split <;> exact h

theorem flashKeyRun_groupsFit {e : Env} {r : Rt} (h : r.groupsFit e) : (flashKeyRun e r).groupsFit e := by
  unfold flashKeyRun
  split
  · exact enterShutdown_groupsFit h
  · exact h

/-! ### Stored table entries -/

theorem gtype_upd (t : Tables) (g k : Group) (x : Option GroupEntry) (h : g ≠ k) :
    ({ t with groups := upd t.groups g fun _ => x } : Tables).gtype k = t.gtype k := by
  simp [Tables.gtype, upd_get, h]

theorem groupWritten_get (e : Env) (g k : Group) (r : Rt) : (groupWritten e g r).groups.get k =
    if r.mode.mode = .flash ∧ g = k then (r.groups.get g).ordered (flashState e.tab g) else r.groups.get k := by
  unfold groupWritten
  split <;> simp_all [orderGroup_get]

/-- A stored group entry keeps the states: all in DARK stay so, and in FLASH the written group takes the state that a flash
order gives it under its new entry (R8). -/
theorem storeGroup_groupsFit (g : Group) (x : Option GroupEntry) (p : Part) (h : p.GroupsFitMode)
    (hm : stagesRun p.rt.mode.mode = false) : (storeGroup g x p).GroupsFitMode := by
  obtain ⟨-, dark, flash⟩ := h
  have mode : p.rt.mode.mode = .dark ∨ p.rt.mode.mode = .flash := by
    cases hp : p.rt.mode.mode <;> simp [hp, stagesRun] at hm ⊢
  refine takeFaults_groupsFit ?_
  obtain hd | hf := mode
  · refine groupsFit_of_dark (fun k => ?_) (by simp; split <;> simp [hd])
    have written := groupWritten_get { p.env with tab := { p.env.tab with groups := upd p.env.tab.groups g fun _ => x } } g k p.rt
    split <;> simp [written, hd, dark hd k]
  · refine groupsFit_of_flashState (fun k => ?_) (by simp; split <;> simp [hf])
    have written := groupWritten_get { p.env with tab := { p.env.tab with groups := upd p.env.tab.groups g fun _ => x } } g k p.rt
    by_cases hk : g = k
    · subst hk
      split <;> simp [written, hf]
    · have same := flash (.inl hf) k
      simp only [flashState] at same ⊢
      split <;> simp [written, hk, gtype_upd _ _ _ _ hk, same]

theorem tableOwner_groupsFit {ι α : Type} (safety : Bool) (index : Option ι) (entry : ι → Option (Option α))
    (check : Rt → ι → Option α → Option Inconsistency) (store : ι → Option α → Part → Part)
    (hs : ∀ i x p, Part.GroupsFitMode p → (safety = true → stagesRun p.rt.mode.mode = false) → (store i x p).GroupsFitMode)
    (p : Part) (h : p.GroupsFitMode) : (tableOwner safety index entry check store p).1.GroupsFitMode := by
  unfold tableOwner
  split
  · exact h
  · next fence =>
    split
    · exact h
    · split
      · exact h
      · split
        · exact h
        · exact hs _ _ p h fun hsafe => by simpa [hsafe] using fence

theorem storeOnly_groupsFit (f : Tables → Tables) (hf : ∀ t, (f t).groups = t.groups) (p : Part) (h : p.GroupsFitMode) :
    (storeOnly f p).GroupsFitMode := groupsFit_congr (p := p) (hf _) rfl rfl rfl h

theorem storeLoop_groupsFit (l : Loop) (x : Option LoopEntry) (p : Part) (h : p.GroupsFitMode) :
    (storeLoop l x p).GroupsFitMode :=
  finish_groupsFit (groupsFit_congr (p := p) rfl (by simp) (by simp) (by simp) h)

theorem storeAssign_groupsFit (a : Assign) (x : Option AssignEntry) (p : Part) (h : p.GroupsFitMode) :
    (storeAssign a x p).GroupsFitMode := by
  refine finish_groupsFit ?_
  split
  · split <;> exact groupsFit_congr (p := p) rfl (by simp) (by simp) (by simp) h
  · exact groupsFit_congr (p := p) rfl (by simp) (by simp) (by simp) h

theorem storeButton_groupsFit (n : Entry) (x : Option ButtonEntry) (p : Part) (h : p.GroupsFitMode) :
    (storeButton n x p).GroupsFitMode := by
  simp only [storeButton]
  split
  · exact groupsFit_congr (p := p) rfl rfl rfl rfl h
  · exact groupsFit_congr (p := p) rfl (by simp [Part.onRt, storeOnly]) (by simp [Part.onRt, storeOnly])
      (by simp [Part.onRt, storeOnly]) h

theorem storeSettings_groupsFit (u : Unit) (x : Option Settings) (p : Part) (h : p.GroupsFitMode) :
    (storeSettings u x p).GroupsFitMode := by
  unfold storeSettings
  split
  · exact groupsFit_congr (p := p) rfl rfl rfl rfl h
  · exact h

/-! ### Dispositions of frames and moments -/

/-- The change of the part keeps the group states within what mode and table allow. -/
def KeepsGroupsFit (f : Part → Part) : Prop := ∀ p : Part, p.GroupsFitMode → (f p).GroupsFitMode

theorem onRt_keepsFit {f : Env → Rt → Rt} (hf : ∀ {e : Env} {r : Rt}, r.groupsFit e → (f e r).groupsFit e) :
    KeepsGroupsFit fun p => p.onRt f := fun _ h => hf h

theorem onRt_same_keepsFit {f : Env → Rt → Rt}
    (hf : ∀ e r, (f e r).groups = r.groups ∧ (f e r).mode.mode = r.mode.mode ∧ (f e r).mode.sub = r.mode.sub) :
    KeepsGroupsFit fun p => p.onRt f := onRt_keepsFit fun {e r} h =>
  groupsFit_of_same h (hf e r).1 (hf e r).2.1 (hf e r).2.2

theorem act_keepsFit {f : Env → Rt → Rt} (hf : ∀ {e : Env} {r : Rt}, r.groupsFit e → (f e r).groupsFit e) :
    KeepsGroupsFit fun p => p.act f := fun _ h => finish_groupsFit (hf h)

theorem act_same_keepsFit {f : Env → Rt → Rt}
    (hf : ∀ e r, (f e r).groups = r.groups ∧ (f e r).mode.mode = r.mode.mode ∧ (f e r).mode.sub = r.mode.sub) :
    KeepsGroupsFit fun p => p.act f := act_keepsFit fun {e r} h =>
  groupsFit_of_same h (hf e r).1 (hf e r).2.1 (hf e r).2.2

theorem actQuiet_keepsFit {f : Env → Rt → Rt} (hf : ∀ {e : Env} {r : Rt}, r.groupsFit e → (f e r).groupsFit e) :
    KeepsGroupsFit fun p => p.actQuiet f := fun _ h => takeFaults_groupsFit (hf h)

theorem actQuiet_same_keepsFit {f : Env → Rt → Rt}
    (hf : ∀ e r, (f e r).groups = r.groups ∧ (f e r).mode.mode = r.mode.mode ∧ (f e r).mode.sub = r.mode.sub) :
    KeepsGroupsFit fun p => p.actQuiet f := actQuiet_keepsFit fun {e r} h =>
  groupsFit_of_same h (hf e r).1 (hf e r).2.1 (hf e r).2.2

theorem whenDue_keepsFit (i : Instr) {f : Part → Part} (hf : KeepsGroupsFit f) : KeepsGroupsFit (Part.whenDue i f) := by
  intro p h
  unfold Part.whenDue
  split
  · exact hf p h
  · exact h

theorem onBlocks_keepsFit {f : Env → Rt → Rt × Result} (hf : ∀ {e : Env} {r : Rt}, r.groupsFit e → (f e r).1.groupsFit e) :
    KeepsGroupsFit fun p => (onBlocks f p).1 := fun _ h => hf h

theorem onBlocks_same_keepsFit {f : Env → Rt → Rt × Result} (hf : ∀ e r, (f e r).1.groups = r.groups ∧
    (f e r).1.mode.mode = r.mode.mode ∧ (f e r).1.mode.sub = r.mode.sub) :
    KeepsGroupsFit fun p => (onBlocks f p).1 := onBlocks_keepsFit fun {e r} h =>
  groupsFit_of_same h (hf e r).1 (hf e r).2.1 (hf e r).2.2

theorem commandUnit_keepsFit (f : Frame) (d : Decoding) {owner : Owner} (ho : KeepsGroupsFit fun p => (owner p).1) :
    KeepsGroupsFit (commandUnit f d owner) := by
  intro p h
  unfold commandUnit
  split
  · exact h
  · split
    · exact onRt_same_keepsFit (by simp) p h
    · split
      · exact onRt_same_keepsFit (by simp) p h
      · split
        · exact h
        · exact onRt_same_keepsFit (f := fun e r => answer e f (owner p).2 r) (by simp) _ (ho p h)

theorem headFrame_keepsFit (f : Frame) (d : Decoding) {owner : Owner} (ho : KeepsGroupsFit fun p => (owner p).1) :
    KeepsGroupsFit (headFrame f d owner) := by
  intro p h
  have arrived : (p.onRt fun e r => linkUp e .head r).GroupsFitMode := onRt_same_keepsFit (by simp) p h
  simp only [headFrame]
  split
  · split
    · exact commandUnit_keepsFit f d ho _ arrived
    · split
      · exact onRt_same_keepsFit (by simp) _ (commandUnit_keepsFit f d ho _ arrived)
      · exact onRt_same_keepsFit (by simp) _ arrived
  · exact onRt_same_keepsFit (by simp) p h

theorem badKind_keepsFit (f : Frame) (d : Decoding) : KeepsGroupsFit (headFrame f d fun p => (p, ⟨.badKind, []⟩)) :=
  headFrame_keepsFit f d fun _ h => h

theorem fieldFrame_keepsFit (f : Frame) {block : Part → Part} (hb : KeepsGroupsFit block) (forwarded : Bool) :
    KeepsGroupsFit (fieldFrame f block forwarded) := by
  intro p h
  have arrived : (p.onRt fun e r => linkUp e .field r).GroupsFitMode := onRt_same_keepsFit (by simp) p h
  simp only [fieldFrame]
  split
  · split
    · split
      · exact onRt_same_keepsFit (by simp) _ (hb _ arrived)
      · exact hb _ arrived
    · exact onRt_same_keepsFit (by simp) _ arrived
  · exact onRt_same_keepsFit (by simp) p h

theorem forwardOnly_keepsFit (port : Port) (f : Frame) : KeepsGroupsFit (forwardOnly port f) := by
  intro p h
  have arrived : (p.onRt fun e r => linkUp e port r).GroupsFitMode := onRt_same_keepsFit (by simp) p h
  simp only [forwardOnly]
  split
  · split
    · exact onRt_same_keepsFit (by simp) _ arrived
    · split
      · exact arrived
      · exact onRt_same_keepsFit (by simp) _ arrived
  · exact onRt_same_keepsFit (by simp) p h

theorem dropForeign_keepsFit (port : Port) (f : Frame) : KeepsGroupsFit (dropForeign port f) := by
  intro p h
  unfold dropForeign
  split <;> exact onRt_same_keepsFit (by simp) p h

theorem telegramFrame_keepsFit (type : TelegramType) (h : Header) (pl : List Byte) :
    KeepsGroupsFit (telegramFrame type h pl) := by
  intro p hp
  unfold telegramFrame
  split
  · refine fieldFrame_keepsFit _ (act_same_keepsFit fun e r => ?_) true p hp
    split <;> simp
  · exact hp

theorem lampBlock_keepsFit (src : Byte) (pl : List Byte) : KeepsGroupsFit (lampBlock src pl) := by
  have taken : ∀ {e : Env} {r : Rt}, r.groupsFit e → (takeLampStatus e src pl r).groupsFit e := fun {e r} h =>
    groupsFit_of_keepsUnlit h (takeLampStatus_keepsUnlit e src pl r) (.inl (by simp))
  intro p h
  unfold lampBlock
  split
  · exact act_keepsFit taken p h
  · exact actQuiet_keepsFit taken p h

/-- A write at the head port keeps the states when its store does, which for a safety table need only be shown outside
STARTUP, RUNNING and SHUTDOWN (R189). -/
theorem write_keepsFit {ι α : Type} (f : Frame) (d : Decoding) (w : Option WriteOperand) (safety : Bool)
    (index : WriteOperand → Option ι) (entry : WriteOperand → ι → Option (Option α))
    (check : Rt → ι → Option α → Option Inconsistency) (store : ι → Option α → Part → Part)
    (hs : ∀ i x p, Part.GroupsFitMode p → (safety = true → stagesRun p.rt.mode.mode = false) → (store i x p).GroupsFitMode) :
    KeepsGroupsFit (headFrame f d (match w with
      | some w => tableOwner safety (index w) (entry w) check store
      | none => fun p => (p, ⟨.badLength, []⟩))) := by
  refine headFrame_keepsFit _ _ fun p h => ?_
  split
  · exact tableOwner_groupsFit _ _ _ _ _ hs p h
  · exact h

/-! ### Every command -/

theorem execBadKindFrame_keepsFit (h : Header) (kind : Byte) (pl : List Byte) (s : State) :
    ∃ f, execBadKindFrame h kind pl s = s.onPart f ∧ KeepsGroupsFit f := by
  refine ⟨_, rfl, fun p hp => ?_⟩
  split
  · exact badKind_keepsFit _ _ p hp
  · exact hp

theorem execForwardFrame_keepsFit (port : Port) (h : Header) (kind : Byte) (pl : List Byte) (s : State) :
    ∃ f, execForwardFrame port h kind pl s = s.onPart f ∧ KeepsGroupsFit f := by
  refine ⟨_, rfl, fun p hp => ?_⟩
  split
  · exact forwardOnly_keepsFit _ _ p hp
  · exact hp

theorem execCrcErrorFrame_keepsFit (port : Port) (bytes : List Byte) (s : State) :
    ∃ f, execCrcErrorFrame port bytes s = s.onPart f ∧ KeepsGroupsFit f := by
  refine ⟨_, rfl, fun p hp => ?_⟩
  split
  · exact onRt_same_keepsFit (by simp) p hp
  · exact hp

/-- Every command is a change of the part that keeps the group states. -/
theorem exec_keepsFit (i : Instr) (s : State) : ∃ f, exec i s = s.onPart f ∧ KeepsGroupsFit f := by
  cases i with
  | powerOn strap =>
    exact ⟨_, rfl, fun _ _ => groupsFit_of_dark (e := { strap := strap }) (r := {}) (by simp) rfl⟩
  | flashOn => exact ⟨_, rfl, headFrame_keepsFit _ _ (onBlocks_keepsFit flashOnOwner_groupsFit)⟩
  | dark => exact ⟨_, rfl, headFrame_keepsFit _ _ (onBlocks_keepsFit darkOwner_groupsFit)⟩
  | start => exact ⟨_, rfl, headFrame_keepsFit _ _ (onBlocks_keepsFit startOwner_groupsFit)⟩
  | stop => exact ⟨_, rfl, headFrame_keepsFit _ _ (onBlocks_keepsFit stopOwner_groupsFit)⟩
  | restart => exact ⟨_, rfl, headFrame_keepsFit _ _ (onBlocks_keepsFit fun _ => restartOwner_groupsFit _ _)⟩
  | clearFault => exact ⟨_, rfl, headFrame_keepsFit _ _ (onBlocks_keepsFit clearFaultOwner_groupsFit)⟩
  | take => exact ⟨_, rfl, headFrame_keepsFit _ _ (onBlocks_keepsFit takeOwner_groupsFit)⟩
  | release => exact ⟨_, rfl, headFrame_keepsFit _ _ (onBlocks_keepsFit releaseOwner_groupsFit)⟩
  | goStage => exact ⟨_, rfl, headFrame_keepsFit _ _ (onBlocks_keepsFit (directedOwner_groupsFit (goStageTests_groupsFit _)))⟩
  | hold => exact ⟨_, rfl, headFrame_keepsFit _ _ (onBlocks_keepsFit (directedOwner_groupsFit (holdTests_groupsFit _)))⟩
  | planSelect => exact ⟨_, rfl, headFrame_keepsFit _ _ (onBlocks_keepsFit (planSelectOwner_groupsFit _))⟩
  | softDemand => exact ⟨_, rfl, headFrame_keepsFit _ _ (onBlocks_keepsFit (softDemandOwner_groupsFit _ _))⟩
  | priorityEnable => exact ⟨_, rfl, headFrame_keepsFit _ _ (onBlocks_keepsFit (priorityEnableOwner_groupsFit _))⟩
  | cancelTram => exact ⟨_, rfl, headFrame_keepsFit _ _ (onBlocks_keepsFit (cancelTramOwner_groupsFit _ _))⟩
  | keepaliveArm => exact ⟨_, rfl, headFrame_keepsFit _ _ (onBlocks_same_keepsFit (by simp [keepaliveArmOwner]))⟩
  | keepaliveRefresh => exact ⟨_, rfl, headFrame_keepsFit _ _ (onBlocks_keepsFit keepaliveRefreshOwner_groupsFit)⟩
  | tableWriteGroup =>
    exact ⟨_, rfl, write_keepsFit _ _ _ true _ _ _ _ fun g x p h hm => storeGroup_groupsFit g x p h (hm rfl)⟩
  | tableWriteConflict | tableWriteIntergreen | tableWriteStage | tableWritePermitted | tableWritePlan | tableWriteRoute =>
    exact ⟨_, rfl, write_keepsFit _ _ _ _ _ _ _ _ fun i x p h _ => storeOnly_groupsFit _ (fun _ => rfl) p h⟩
  | tableWriteLoop => exact ⟨_, rfl, write_keepsFit _ _ _ _ _ _ _ _ fun l x p h _ => storeLoop_groupsFit l x p h⟩
  | tableWriteAssignment => exact ⟨_, rfl, write_keepsFit _ _ _ _ _ _ _ _ fun a x p h _ => storeAssign_groupsFit a x p h⟩
  | tableWriteButton => exact ⟨_, rfl, write_keepsFit _ _ _ _ _ _ _ _ fun n x p h _ => storeButton_groupsFit n x p h⟩
  | tableWriteSettings => exact ⟨_, rfl, write_keepsFit _ _ _ _ _ _ _ _ fun u x p h _ => storeSettings_groupsFit u x p h⟩
  | tableRead => exact ⟨_, rfl, headFrame_keepsFit _ _ (onBlocks_keepsFit (readOwner_groupsFit _))⟩
  | queryStatus => exact ⟨_, rfl, headFrame_keepsFit _ _ (onBlocks_same_keepsFit (by simp [statusOwner]))⟩
  | queryCounts => exact ⟨_, rfl, headFrame_keepsFit _ _ (onBlocks_same_keepsFit (by simp [countsOwner]))⟩
  | queryFaultRecord => exact ⟨_, rfl, headFrame_keepsFit _ _ (onBlocks_same_keepsFit (by simp [faultRecordOwner]))⟩
  | queryTramTable => exact ⟨_, rfl, headFrame_keepsFit _ _ (onBlocks_keepsFit (tramTableOwner_groupsFit _))⟩
  | badKindFrame => exact execBadKindFrame_keepsFit _ _ _ s
  | loopCounts => exact ⟨_, rfl, fieldFrame_keepsFit _ (act_same_keepsFit (by simp)) _⟩
  | telegramCheckIn | telegramDoorClosed | telegramCheckOut | telegramCancel => exact ⟨_, rfl, telegramFrame_keepsFit _ _ _⟩
  | lampStatus => exact ⟨_, rfl, fieldFrame_keepsFit _ (lampBlock_keepsFit _ _) _⟩
  | flashKey => exact ⟨_, rfl, fieldFrame_keepsFit _ (act_keepsFit flashKeyRun_groupsFit) _⟩
  | manualOn | manualOff | stepKey | pushButton => exact ⟨_, rfl, fieldFrame_keepsFit _ (act_same_keepsFit (by simp)) _⟩
  | sensorReading => exact ⟨_, rfl, fieldFrame_keepsFit _ (onRt_same_keepsFit (by simp)) _⟩
  | foreignAspect => exact ⟨_, rfl, dropForeign_keepsFit _ _⟩
  | forwardFrame => exact execForwardFrame_keepsFit _ _ _ _ s
  | crcErrorFrame port => exact execCrcErrorFrame_keepsFit port _ s
  | headPortGrant | fieldPortGrant => exact ⟨_, rfl, onRt_same_keepsFit (by simp)⟩
  | linkTimeout | forwardAgeDiscard | settlingWindowEnd | sensorFreshnessExpiry =>
    exact ⟨_, rfl, whenDue_keepsFit _ (onRt_same_keepsFit (by simp))⟩
  | startFlashEnd => exact ⟨_, rfl, whenDue_keepsFit _ (act_keepsFit startupAllRed_groupsFit)⟩
  | startupAllRedEnd => exact ⟨_, rfl, whenDue_keepsFit _ (act_keepsFit firstStart_groupsFit)⟩
  | shutdownAllRedEnd => exact ⟨_, rfl, whenDue_keepsFit _ (act_keepsFit fun _ => flashEntered_groupsFit _ _)⟩
  | keepaliveWindowExpiry | keepaliveArmExpiry | minEnd | maxOut | truncationPointReached | gapTimerExpiry
  | demandDelayExpiry | cardSilenceExpiry | tuneEchoExpiry | tuneRetryExpiry | stopLimitExpiry | windowEndExpiry
  | guardEndExpiry | lockoutExpiry =>
    exact ⟨_, rfl, whenDue_keepsFit _ (act_same_keepsFit (by simp))⟩
  | extensionHoldEnd => exact ⟨_, rfl, whenDue_keepsFit _ (act_same_keepsFit fun e r => by rw [holdEnds_eq]; simp)⟩
  | groupEnterStarting g =>
    exact ⟨_, rfl, whenDue_keepsFit _ (actQuiet_keepsFit fun {e r} h =>
      groupsFit_of_keepsUnlit h (enterStarting_keepsUnlit e g r) (.inl (by simp)))⟩
  | groupEnterGreen g =>
    exact ⟨_, rfl, whenDue_keepsFit _ (act_keepsFit fun {e r} h =>
      groupsFit_of_keepsUnlit h (enterGreen_keepsUnlit e g r) (.inl (by simp)))⟩
  | minGreenMet g =>
    exact ⟨_, rfl, whenDue_keepsFit _ (onRt_keepsFit fun {e r} h =>
      groupsFit_of_keepsUnlit h (minGreenRun_keepsUnlit e g r) (.inl (by simp)))⟩
  | clearingEnd g =>
    exact ⟨_, rfl, whenDue_keepsFit _ (act_keepsFit fun {e r} h =>
      groupsFit_of_keepsUnlit h (clearingRun_keepsUnlit e g r) (.inl (by simp)))⟩
  | refreshTimerExpiry | moduleSilenceExpiry | confirmTimeout | qualificationTimerExpiry =>
    exact ⟨_, rfl, whenDue_keepsFit _ (actQuiet_same_keepsFit (by simp))⟩

/-- Settles O8: every command keeps the states by `exec_keepsFit`, and a tick changes junction time alone. -/
theorem groupStatesKeptByStep : Obligations.GroupStatesKeptByStep := by
  intro s t h hst
  rw [step] at hst
  cases hp : s.pending with
  | nil =>
    rw [hp] at hst
    cases hst
    exact groupsFit_congr (p := s.part) rfl rfl rfl rfl h
  | cons i rest =>
    rw [hp] at hst
    obtain ⟨f, hf, keeps⟩ := exec_keepsFit i { s with pending := rest }
    obtain rfl : _ = t := Host.Outcome.next.inj (hf.symm.trans hst)
    exact keeps s.part h

end Sys2Proof.Machine

/-! SUPPORT. Proofs of the statements of the family 01_signal_groups_and_their_aspects: power-on and reset. -/

namespace Sys2Proof.Machine

theorem exec_powerOn (strap : BitVec 3) (s : State) :
    exec (.powerOn strap) s = .next { s with part := { env := { strap := strap } } } := rfl

/-- Settles O3: POWER_ON leaves the part `{ env := { strap } }`, each of whose fields is the default that `State` gives it. -/
theorem powerOnValues : Obligations.PowerOnValues := by
  refine ⟨fun strap s => ⟨_, exec_powerOn strap s, ?_⟩, exec_powerOn 0#3 State.reset, rfl⟩
  simp [State.reset, Env.own]

/-- Settles O11: at reset every queue, list and table is empty and every group in DARK. -/
theorem invariantsAtReset : Obligations.InvariantsAtReset := by
  have queues : State.reset.part.rt.Bounded := by simp [Rt.Bounded, State.reset]
  have priority : State.reset.part.rt.QueueFitsTrams := by simp [State.reset, Rt.QueueFitsTrams]
  have loops : State.reset.part.LoopsBounded := by simp [State.reset, Part.LoopsBounded, Tables.LoopsFit]
  have demand : State.reset.part.DemandBounded := by simp [State.reset, Part.DemandBounded]
  have groups : State.reset.part.GroupsFitMode := groupsFit_of_dark (e := {}) (r := {}) (by simp) rfl
  have ownership : State.reset.part.rt.OwnershipFitsMode := by simp [State.reset, Rt.OwnershipFitsMode]
  have records : State.reset.part.RecordsFitTables := by
    have modules : State.reset.part.env.tab.mappedModules = [] := by decide
    have cards : State.reset.part.env.tab.cardAddrs = [] := by decide
    exact ⟨modules.symm, cards.symm, .nil, by simp [State.reset]⟩
  exact ⟨⟨queues, priority, loops, demand⟩, groups, ownership, records⟩

end Sys2Proof.Machine

/-! SUPPORT. Laws for the proofs of the family 01_signal_groups_and_their_aspects: delivered commands, fault notices in DARK and
FLASH, changes of mode, and the aspect frames that the Conflict Monitor passes. -/

namespace Sys2Proof.Machine

/-! ### Delivered commands -/

theorem lengthIs_refusal {n : Nat} {rest : List Byte} (h : rest.length = n) : (lengthIs n rest).refusal = none := by
  simp [lengthIs, h]

/-- A delivered management frame of the right length is answered with what its owner does after its arrival. -/
theorem onPart_headFrame_delivered (s : State) (f : Frame) (n : Nat) (rest : List Byte) (owner : Env → Rt → Rt × Result)
    (hd : Delivered s.part f) (hl : rest.length = n) :
    s.onPart (headFrame f (lengthIs n rest) (onBlocks owner)) =
      .next (s.withRt (answer s.part.env f (owner s.part.env (s.part.arrived .head)).2
        (owner s.part.env (s.part.arrived .head)).1)) := by
  rw [State.onPart, headFrame_delivered _ _ _ _ hd, lengthIs_refusal hl]
  rfl

/-- A valid panel key acts after its arrival and is forwarded (R181). -/
theorem onPart_keyFrame (s : State) (h : Header) (k : Nat) (f : Env → Rt → Rt) (hf : frameOk (keyFrame h k []) = true) :
    s.onPart (fieldFrame (keyFrame h k []) (fun p => p.act f) true) =
      .next (s.withRt (forwardTo s.part.env .head (keyFrame h k [])
        (finish s.part.env (f s.part.env (s.part.arrived .field))))) := by
  rw [State.onPart, fieldFrame_valid _ _ _ hf (by rfl)]
  rfl

theorem exec_flashOn_delivered (s : State) (h : Header) (hd : Delivered s.part (junctionFrame h 0 [])) :
    exec (.flashOn h []) s = .next (s.withRt (answer s.part.env (junctionFrame h 0 [])
      (flashOnOwner s.part.env (s.part.arrived .head)).2 (flashOnOwner s.part.env (s.part.arrived .head)).1)) :=
  onPart_headFrame_delivered s _ 0 [] flashOnOwner hd rfl

theorem exec_dark_delivered (s : State) (h : Header) (hd : Delivered s.part (junctionFrame h 1 [])) :
    exec (.dark h []) s = .next (s.withRt (answer s.part.env (junctionFrame h 1 [])
      (darkOwner s.part.env (s.part.arrived .head)).2 (darkOwner s.part.env (s.part.arrived .head)).1)) :=
  onPart_headFrame_delivered s _ 0 [] darkOwner hd rfl

theorem exec_start_delivered (s : State) (h : Header) (hd : Delivered s.part (junctionFrame h 2 [])) :
    exec (.start h []) s = .next (s.withRt (answer s.part.env (junctionFrame h 2 [])
      (startOwner s.part.env (s.part.arrived .head)).2 (startOwner s.part.env (s.part.arrived .head)).1)) :=
  onPart_headFrame_delivered s _ 0 [] startOwner hd rfl

theorem exec_stop_delivered (s : State) (h : Header) (hd : Delivered s.part (junctionFrame h 3 [])) :
    exec (.stop h []) s = .next (s.withRt (answer s.part.env (junctionFrame h 3 [])
      (stopOwner s.part.env (s.part.arrived .head)).2 (stopOwner s.part.env (s.part.arrived .head)).1)) :=
  onPart_headFrame_delivered s _ 0 [] stopOwner hd rfl

theorem exec_goStage_delivered (s : State) (h : Header) (b : Byte) (hd : Delivered s.part (controlFrame h 2 [b])) :
    exec (.goStage h [b]) s = .next (s.withRt (answer s.part.env (controlFrame h 2 [b])
      (directedOwner (goStageTests b) s.part.env (s.part.arrived .head)).2
      (directedOwner (goStageTests b) s.part.env (s.part.arrived .head)).1)) :=
  onPart_headFrame_delivered s _ 1 [b] (directedOwner (goStageTests b)) hd rfl

theorem exec_hold_delivered (s : State) (h : Header) (b : Byte) (hd : Delivered s.part (controlFrame h 3 [b])) :
    exec (.hold h [b]) s = .next (s.withRt (answer s.part.env (controlFrame h 3 [b])
      (directedOwner (holdTests b) s.part.env (s.part.arrived .head)).2
      (directedOwner (holdTests b) s.part.env (s.part.arrived .head)).1)) :=
  onPart_headFrame_delivered s _ 1 [b] (directedOwner (holdTests b)) hd rfl

theorem exec_flashKey (s : State) (h : Header) (hf : frameOk (keyFrame h 0 []) = true) :
    exec (.flashKey h []) s = .next (s.withRt (forwardTo s.part.env .head (keyFrame h 0 [])
      (finish s.part.env (flashKeyRun s.part.env (s.part.arrived .field))))) := onPart_keyFrame s h 0 flashKeyRun hf

theorem exec_manualOn (s : State) (h : Header) (hf : frameOk (keyFrame h 1 []) = true) :
    exec (.manualOn h []) s = .next (s.withRt (forwardTo s.part.env .head (keyFrame h 1 [])
      (finish s.part.env (manualOnRun s.part.env (s.part.arrived .field))))) := onPart_keyFrame s h 1 manualOnRun hf

theorem exec_manualOff (s : State) (h : Header) (hf : frameOk (keyFrame h 2 []) = true) :
    exec (.manualOff h []) s = .next (s.withRt (forwardTo s.part.env .head (keyFrame h 2 [])
      (finish s.part.env (manualOffRun s.part.env (s.part.arrived .field))))) := onPart_keyFrame s h 2 manualOffRun hf

theorem exec_stepKey (s : State) (h : Header) (hf : frameOk (keyFrame h 3 []) = true) :
    exec (.stepKey h []) s = .next (s.withRt (forwardTo s.part.env .head (keyFrame h 3 [])
      (finish s.part.env (stepRun s.part.env (s.part.arrived .field))))) := onPart_keyFrame s h 3 stepRun hf

/-- A time-driven command acts when its moment has come. -/
theorem whenDue_onPart (s : State) (i : Instr) (f : Part → Part) (h : timeDue s.part.env s.part.rt i = true) :
    s.onPart (Part.whenDue i f) = s.onPart f := by
  simp [State.onPart, Part.whenDue, h]

/-! ### Aspects and the frames that pass -/

theorem aspectOf_of_mem_aspectTable : ∀ x ∈ aspectTable, aspectOf x.1 x.2.1 = x.2.2 := by decide

theorem slotAspects_get (e : Env) (r : Rt) (addr : Byte) (k : Slot) :
    (slotAspects e r addr).get k = match e.tab.holder addr k with | some g => groupAspect e r g | none => .dark := by
  show (Vector.ofFn _)[k.val] = _
  simp <;> rfl

theorem slotAspects_congr {e : Env} {r r' : Rt} (addr : Byte) (h : r'.groups = r.groups) :
    slotAspects e r' addr = slotAspects e r addr := by
  simp [slotAspects, groupAspect, h]

/-- What a frame of a module carries is what R4's table gives for its slots (R165). -/
theorem slotAspects_asStand (e : Env) (r : Rt) (addr : Byte) : aspectsAsStand e r.groups addr (slotAspects e r addr) := by
  intro k
  rw [slotAspects_get]
  refine ⟨fun h => by simp [h], fun g a h hm => ?_⟩
  simpa [h, groupAspect] using aspectOf_of_mem_aspectTable _ hm

theorem frame_eq_aspectSet (e : Env) (addr : Byte) (v : Vector Aspect 4) (b : Brightness) :
    AspectFrame.frame e ⟨addr, v, b⟩ = aspectSet e addr v b := by
  obtain ⟨⟨l⟩, hl⟩ := v
  match l, hl with
  | [a, b, c, d], _ => rfl

theorem slotOf_eq_some {t : Tables} {g : Group} {m : Mapping} (h : t.slotOf g = some m) :
    t.mapping g = some m ∧ t.holder m.addr m.slot = some g := by
  unfold Tables.slotOf at h
  split at h
  · next hm =>
    split at h
    · next hh => cases h; exact ⟨hm, hh⟩
    · cases h
  · cases h

theorem mapping_of_holder {t : Tables} {g : Group} {addr : Byte} {k : Slot} (h : t.holder addr k = some g) :
    t.mapping g = some ⟨addr, k⟩ := by
  simpa using List.find?_some h

/-- The holder of a slot holds that slot. -/
theorem slotOf_of_holder {t : Tables} {g : Group} {addr : Byte} {k : Slot} (h : t.holder addr k = some g) :
    t.slotOf g = some ⟨addr, k⟩ := by
  simp [Tables.slotOf, mapping_of_holder h, h]

/-- The Monitor has passed the starting and green aspects that the slot-holding groups show. -/
abbrev Rt.follows (e : Env) (r : Rt) : Prop := (⟨e, r⟩ : Part).monitorFollows

/-- A frame of the module as it stands shows each of its slot-holding groups in the group's own class. -/
theorem shownClass_slotAspects (e : Env) (r : Rt) (addr : Byte) (b : Brightness) (g : Group) :
    shownClass e ⟨addr, slotAspects e r addr, b⟩ g =
      match e.tab.slotOf g with
      | some m => if m.addr = addr then some (groupAspect e r g).cls else none
      | none => none := by
  unfold shownClass
  cases hs : e.tab.slotOf g with
  | none => rfl
  | some m =>
    by_cases ha : m.addr = addr
    · subst ha
      simp [slotAspects_get, (slotOf_eq_some hs).2]
    · simp [ha]

theorem monitorCheck_of_not_entering {e : Env} {r : Rt} {f : AspectFrame} (h : ∀ g, isEntering e r f g = false) :
    monitorCheck e r f = none := by
  simp only [monitorCheck, List.findSome?_eq_none_iff]
  intro k _
  cases hk : e.tab.holder f.addr k with
  | none => rfl
  | some j => simp [h j]

/-- Where the Monitor follows the groups, no slot of a frame as the module stands is an entering slot, and so it passes. -/
theorem frame_passes {e : Env} {r : Rt} (addr : Byte) (b : Brightness) (h : r.follows e) :
    monitorCheck e r ⟨addr, slotAspects e r addr, b⟩ = none := by
  refine monitorCheck_of_not_entering fun g => ?_
  unfold isEntering
  rw [shownClass_slotAspects]
  cases hs : e.tab.slotOf g with
  | none => rfl
  | some m =>
    by_cases ha : m.addr = addr
    · have follows := h g (by simp [hs])
      simp only [ha, if_true]
      cases hc : (groupAspect e r g).cls <;> simp [hc] at follows ⊢ <;> exact follows
    · simp [ha]

/-- The Monitor's check reads the blocks through the Monitor's records alone. -/
theorem monitorCheck_congr {e : Env} {r r' : Rt} (f : AspectFrame) (h : r'.monitor = r.monitor) :
    monitorCheck e r' f = monitorCheck e r f := by
  have entering : ∀ g, isEntering e r' f g = isEntering e r f g := fun g => by unfold isEntering; rw [h]
  have holds : ∀ i, holdsWay e r' f i = holdsWay e r f i := fun i => by unfold holdsWay; rw [entering, h]
  have short : ∀ j i, intergreenShort e r' f j i = intergreenShort e r f j i := fun j i => by
    unfold intergreenShort recordAgainst; rw [h]
  have failure : ∀ j, enteringFailure e r' f j = enteringFailure e r f j := fun j => by
    unfold enteringFailure; simp only [holds, short]
  unfold monitorCheck
  simp only [entering, failure]

theorem follows_congr {e : Env} {r r' : Rt} (hg : r'.groups = r.groups) (hm : r'.monitor = r.monitor) (h : r.follows e) :
    r'.follows e := by
  intro g hs hc
  simpa [groupAspect, hg, hm] using h g hs (by simpa [groupAspect, hg] using hc)

theorem follows_of_dull {e : Env} {r : Rt}
    (h : ∀ g, (groupAspect e r g).cls ≠ .starting ∧ (groupAspect e r g).cls ≠ .green) : r.follows e :=
  fun g _ hc => absurd hc (not_or.mpr (h g))

theorem monitorUpdate_passed (now : Time) (clearing : Nat) (c : AspectClass) (m : MonitorRec) :
    (monitorUpdate now clearing c m).passed = some c := by
  unfold monitorUpdate
  split
  · assumption
  · cases c <;> simp <;> split <;> rfl

/-- The record that the passing of a frame leaves of a group (R32). -/
def MonitorRec.seen (e : Env) (f : AspectFrame) (g : Group) (m : MonitorRec) : MonitorRec :=
  match shownClass e f g with
  | some c => monitorUpdate e.now (e.tab.clearing g) c m
  | none => m

theorem monitorPass_get (e : Env) (f : AspectFrame) (r : Rt) (k : Group) :
    (monitorPass e f r).monitor.get k = (r.monitor.get k).seen e f k := by
  rw [monitorPass, foldl_get_of_step (fun r g => r.monitor.get g) _ (fun g => MonitorRec.seen e f g)
    (fun r g k => ?_) allGroups r k allGroups_nodup]
  · simp
  · unfold MonitorRec.seen
    by_cases hk : g = k
    · subst hk; cases shownClass e f g <;> simp
    · cases shownClass e f g <;> simp [upd_get, hk]

theorem handFrame_passed {e : Env} {f : AspectFrame} {r : Rt} (h : monitorCheck e r f = none) :
    handFrame e f r = updModule f.addr (ModuleRec.sent e.now f) (pushAspect e (f.frame e) (monitorPass e f r)) := by
  simp [handFrame, h]

theorem handFrame_failed {e : Env} {f : AspectFrame} {r : Rt} {k : FaultKind} {j i : Group}
    (h : monitorCheck e r f = some (k, j, i)) : handFrame e f r = handNotice ⟨k, some j, some i, none, e.now⟩ r := by
  simp [handFrame, h]

theorem frameModule_passed {e : Env} {addr : Byte} {r : Rt} (h : r.follows e) :
    frameModule e addr r = updModule addr (ModuleRec.sent e.now ⟨addr, slotAspects e r addr, r.lamp.brightness⟩)
      (pushAspect e (aspectSet e addr (slotAspects e r addr) r.lamp.brightness)
        (monitorPass e ⟨addr, slotAspects e r addr, r.lamp.brightness⟩ r)) := by
  rw [frameModule, handFrame_passed (frame_passes addr _ h), frame_eq_aspectSet]

theorem frameModule_notices {e : Env} {addr : Byte} {r : Rt} (h : r.follows e) :
    (frameModule e addr r).notices = r.notices := by
  rw [frameModule_passed h]; simp

theorem frameModule_follows {e : Env} {addr : Byte} {r : Rt} (h : r.follows e) : (frameModule e addr r).follows e := by
  intro g hs hc
  have aspect : groupAspect e (frameModule e addr r) g = groupAspect e r g := by simp [groupAspect]
  have monitor : (frameModule e addr r).monitor.get g =
      (r.monitor.get g).seen e ⟨addr, slotAspects e r addr, r.lamp.brightness⟩ g := by
    rw [frameModule_passed h]; simp [monitorPass_get]
  have before := h g hs (by simpa [aspect] using hc)
  simp only [monitor, aspect, MonitorRec.seen, shownClass_slotAspects]
  cases hm : e.tab.slotOf g with
  | none => exact before
  | some m =>
    by_cases ha : m.addr = addr
    · simp [ha, monitorUpdate_passed]
    · simpa [ha] using before

theorem pushAspect_aspects (e : Env) (f : Frame) (r : Rt) :
    (pushAspect e f r).ring.aspects = classTake 48 r.ring.aspects f := by
  simp [pushAspect, Config.aspectCap]

theorem updModule_modules (addr : Byte) (f : ModuleRec → ModuleRec) (r : Rt) :
    (updModule addr f r).lamp.modules = r.lamp.modules.map fun m => if m.addr = addr then f m else m := by
  simp [updModule]

theorem ModuleRec.sent_addr (now : Time) (f : AspectFrame) (m : ModuleRec) : (m.sent now f).addr = m.addr := rfl

theorem moduleRec_updModule (addr a : Byte) (f : ModuleRec → ModuleRec) (hf : ∀ m, (f m).addr = m.addr) (r : Rt) :
    (updModule addr f r).moduleRec a = (r.moduleRec a).map fun m => if m.addr = addr then f m else m := by
  rw [Rt.moduleRec, updModule_modules, List.find?_map]
  have same : (fun m : ModuleRec => m.addr == a) ∘ (fun m => if m.addr = addr then f m else m) = fun m => m.addr == a := by
    funext m
    by_cases hm : m.addr = addr <;> simp [hm, hf]
  rw [same]
  rfl

/-- A property of module records that no frame changes holds after any frames. -/
theorem handFrame_modules_inv (P : ModuleRec → Prop) (hP : ∀ now f m, P m → P (m.sent now f)) (e : Env) (f : AspectFrame)
    (r : Rt) (h : ∀ m ∈ r.lamp.modules, P m) : ∀ m ∈ (handFrame e f r).lamp.modules, P m := by
  unfold handFrame
  split
  · simpa using h
  · rw [updModule_modules]
    intro m hm
    obtain ⟨x, hx, rfl⟩ := List.mem_map.mp hm
    have before := h x (by simpa using hx)
    split
    · exact hP _ _ _ before
    · exact before

theorem frameAll_modules_inv (P : ModuleRec → Prop) (hP : ∀ now f m, P m → P (m.sent now f)) (e : Env) (r : Rt)
    (h : ∀ m ∈ r.lamp.modules, P m) : ∀ m ∈ (frameAll e r).lamp.modules, P m :=
  foldl_inv (fun r => ∀ m ∈ r.lamp.modules, P m) _ (fun r _ h => handFrame_modules_inv P hP e _ r h) _ _ h

theorem foldl_frameModule_follows {e : Env} (l : List Byte) {r : Rt} (h : r.follows e) :
    (l.foldl (fun r a => frameModule e a r) r).follows e ∧
      (l.foldl (fun r a => frameModule e a r) r).notices = r.notices :=
  foldl_inv (fun r' => r'.follows e ∧ r'.notices = r.notices) _
    (fun _ _ h => ⟨frameModule_follows h.1, (frameModule_notices h.1).trans h.2⟩) _ _ ⟨h, rfl⟩

theorem frameAll_follows {e : Env} {r : Rt} (h : r.follows e) : (frameAll e r).follows e ∧ (frameAll e r).notices = r.notices :=
  foldl_frameModule_follows _ h

theorem groupFrame_follows {e : Env} {g : Group} {r : Rt} (h : r.follows e) :
    (groupFrame e g r).follows e ∧ (groupFrame e g r).notices = r.notices := by
  unfold groupFrame
  split
  · exact ⟨frameModule_follows h, frameModule_notices h⟩
  · exact ⟨h, rfl⟩

/-- What a frame hands on when group `g` has changed between `u` and `r₁`, which agree in what the Monitor and the Lamp
Interface hold, and what comes after the frame leaves the class and the module records alone. -/
theorem groupFrame_handsAspect {e : Env} {g : Group} {u r₁ r : Rt} (hm : r₁.monitor = u.monitor) (hl : r₁.lamp = u.lamp)
    (hr : r₁.ring = u.ring) (hg : r.groups = r₁.groups) (ha : r.ring.aspects = (groupFrame e g r₁).ring.aspects)
    (hmod : r.lamp.modules = (groupFrame e g r₁).lamp.modules) : handsAspect e u r g := by
  have rec_eq : ∀ a, r.moduleRec a = (groupFrame e g r₁).moduleRec a := fun a => by simp [Rt.moduleRec, hmod]
  refine ⟨fun hs => by simp [ha, hmod, groupFrame, hs, hr, hl], fun m hs => ⟨slotAspects e r₁ m.addr, ?_, fun hc => ?_, fun hc => ?_⟩⟩
  · rw [hg]; exact slotAspects_asStand e r₁ m.addr
  · have passed : monitorCheck e r₁ ⟨m.addr, slotAspects e r₁ m.addr, r₁.lamp.brightness⟩ = none := by
      rw [monitorCheck_congr _ hm, hl]; exact hc
    have frame : groupFrame e g r₁ = updModule m.addr
        (ModuleRec.sent e.now ⟨m.addr, slotAspects e r₁ m.addr, r₁.lamp.brightness⟩)
        (pushAspect e (aspectSet e m.addr (slotAspects e r₁ m.addr) r₁.lamp.brightness)
          (monitorPass e ⟨m.addr, slotAspects e r₁ m.addr, r₁.lamp.brightness⟩ r₁)) := by
      simp only [groupFrame, hs, frameModule, handFrame_passed passed, frame_eq_aspectSet]
    refine ⟨by rw [ha, frame]; simp [pushAspect_aspects, hr, hl], fun x hx => ?_⟩
    have addr : x.addr = m.addr := by simpa using List.find?_some hx
    have hx' : r₁.moduleRec m.addr = some x := by simpa [Rt.moduleRec, hl] using hx
    rw [rec_eq, frame, moduleRec_updModule _ _ _ (ModuleRec.sent_addr _ _)]
    refine ⟨x.sent e.now ⟨m.addr, slotAspects e r₁ m.addr, r₁.lamp.brightness⟩, ?_, ?_⟩
    · simpa [Rt.moduleRec, addr] using ⟨x, hx', by simp [addr]⟩
    · simp [ModuleRec.sent, hl, after, Config.refreshTime]
  · obtain ⟨⟨k, j, i⟩, hf⟩ := Option.ne_none_iff_exists'.mp hc
    have failed : monitorCheck e r₁ ⟨m.addr, slotAspects e r₁ m.addr, r₁.lamp.brightness⟩ = some (k, j, i) := by
      rw [monitorCheck_congr _ hm, hl]; exact hf
    have frame : groupFrame e g r₁ = handNotice ⟨k, some j, some i, none, e.now⟩ r₁ := by
      simp only [groupFrame, hs, frameModule, handFrame_failed failed]
    simp [ha, hmod, frame, hr, hl]

end Sys2Proof.Machine

/-! SUPPORT. Laws for the proofs of the family 01_signal_groups_and_their_aspects: fault notices, the reading of conditions, and
changes of mode. -/

namespace Sys2Proof.Machine

/-! ### Fault notices -/

/-- In DARK and FLASH fault notices post their events and nothing else. -/
theorem takeFaults_quiet (e : Env) (r : Rt) (h : stagesRun r.mode.mode = false) :
    takeFaults e r = { r with report := (takeFaults e r).report, notices := [] } := by
  have inv : ∀ (l : List FaultNotice) (r : Rt), stagesRun r.mode.mode = false →
      l.foldl (fun r n => takeNotice e n r) r = { r with report := (l.foldl (fun r n => takeNotice e n r) r).report } := by
    intro l
    induction l with
    | nil => intro r _; rfl
    | cons n l ih =>
      intro r hr
      rw [List.foldl_cons, takeNotice_quiet e n r hr, ih _ (by simpa using hr)]
      rfl
  exact inv r.notices (r.withNotices fun _ => []) h

theorem groupAspect_of_unlit {e : Env} {r : Rt} {g : Group} (h : (r.groups.get g).state.unlit) :
    (groupAspect e r g).cls = .off := by
  unfold groupAspect
  rcases h with h | h <;> rw [h] <;> cases e.tab.gtype g <;> rfl

theorem follows_of_unlit {e : Env} {r : Rt} (h : ∀ g, (r.groups.get g).state.unlit) : r.follows e :=
  follows_of_dull fun g => by simp [groupAspect_of_unlit (e := e) (h g)]

theorem flashGroups_follows (e : Env) (r : Rt) : (flashGroups e r).follows e :=
  follows_of_unlit fun g => by simpa [flashGroups_get] using flashState_unlit e.tab g

theorem darkGroups_follows (e : Env) (r : Rt) : (darkGroups r).follows e :=
  follows_of_unlit fun g => by simp [darkGroups_get, GroupState.unlit]

/-- No frame of a flash order fails the Monitor's check. -/
theorem flashOrder_follows (e : Env) (r : Rt) : (flashOrder e r).follows e ∧ (flashOrder e r).notices = r.notices := by
  obtain ⟨follows, notices⟩ := frameAll_follows (flashGroups_follows e r)
  exact ⟨follows, notices.trans (by simp)⟩

/-- No frame of a dark order fails the Monitor's check. -/
theorem darkOrder_follows (e : Env) (r : Rt) : (darkOrder e r).follows e ∧ (darkOrder e r).notices = r.notices := by
  obtain ⟨follows, notices⟩ := frameAll_follows (darkGroups_follows e r)
  exact ⟨follows, notices.trans (by simp)⟩

/-! ### Changes of mode -/

/-- The blocks at the mode notice of a change of mode: the Mode Controller's record set and MODE_CHANGE posted (R38). -/
def modeNoticed (e : Env) (mode : Mode) (sub : SubPhase) (r : Rt) : Rt :=
  post e .modeChange noSubject [b8 mode.code, b8 sub.code]
    (r.withMode fun m => { m with mode := mode, sub := sub, phaseDue := none })

theorem setMode_eq (e : Env) (mode : Mode) (sub : SubPhase) (r : Rt) : setMode e mode sub r =
    lampNotice e r.mode.mode (priorityNotice e (tramNotice e (loopNotice e r.mode.mode
      (demandNotice e (stageNotice (modeNoticed e mode sub r)))))) := rfl

@[simp] theorem modeNoticed_frame (e : Env) (mode : Mode) (sub : SubPhase) (r : Rt) :
    (modeNoticed e mode sub r).ring = r.ring ∧
    (modeNoticed e mode sub r).mode = { r.mode with mode := mode, sub := sub, phaseDue := none } ∧
    (modeNoticed e mode sub r).groups = r.groups ∧ (modeNoticed e mode sub r).monitor = r.monitor ∧
    (modeNoticed e mode sub r).lamp = r.lamp ∧ (modeNoticed e mode sub r).stage = r.stage ∧
    (modeNoticed e mode sub r).loops = r.loops ∧ (modeNoticed e mode sub r).demand = r.demand ∧
    (modeNoticed e mode sub r).trams = r.trams ∧ (modeNoticed e mode sub r).priority = r.priority ∧
    (modeNoticed e mode sub r).report.record = r.report.record ∧ (modeNoticed e mode sub r).notices = r.notices := by
  simp [modeNoticed]

/-- Between modes other than DARK the Loop Unit does nothing on the mode notice (R111). -/
theorem loopNotice_lit {e : Env} {old : Mode} {r : Rt} (ho : old ≠ .dark) (hm : r.mode.mode ≠ .dark) : loopNotice e old r = r := by
  cases old <;> simp at ho <;> cases h : r.mode.mode <;> simp [h] at hm <;> simp [loopNotice, h]

/-- Between modes other than DARK a change of mode leaves the fault record as it is. -/
theorem setMode_record {e : Env} {mode : Mode} {sub : SubPhase} {r : Rt} (ho : r.mode.mode ≠ .dark) (hm : mode ≠ .dark) :
    (setMode e mode sub r).report.record = r.report.record := by
  rw [setMode_eq, loopNotice_lit ho (by simpa using hm)]
  simp

theorem setMode_stage (e : Env) (mode : Mode) (sub : SubPhase) (r : Rt) :
    (setMode e mode sub r).stage = (stageNotice (modeNoticed e mode sub r)).stage := by
  simp [setMode_eq]

/-- The Stage Engine's record in IDLE (R66). -/
def StageUnit.idled (s : StageUnit) : StageUnit :=
  { s with
    phase := .idle, current := none, pendingGo := none, hold := false, inter := none
    greenEnds := Vector.replicate 24 .absent }

/-- On the notice of DARK or FLASH the Stage Engine enters IDLE (R66). -/
theorem setMode_stage_idle (e : Env) (mode : Mode) (sub : SubPhase) (r : Rt) (h : stagesRun mode = false) :
    (setMode e mode sub r).stage = r.stage.idled := by
  rw [setMode_stage]
  cases mode <;> simp [stagesRun] at h <;> simp [stageNotice, stageIdle, StageUnit.idled]

theorem setMode_flash_stage (e : Env) (sub : SubPhase) (r : Rt) : (setMode e .flash sub r).stage = r.stage.idled :=
  setMode_stage_idle e .flash sub r rfl

theorem setMode_dark_stage (e : Env) (sub : SubPhase) (r : Rt) : (setMode e .dark sub r).stage = r.stage.idled :=
  setMode_stage_idle e .dark sub r rfl

theorem demandDeactivate_active (e : Env) (r : Rt) : (demandDeactivate e r).demand.active = false := by
  have buttons : ∀ (l : List Group) (r : Rt), (l.foldl (fun r g => groupButtons e g false r) r).demand = r.demand :=
    fun l r => foldl_inv (fun r' => r'.demand = r.demand) _ (fun _ _ h => by simpa using h) l r rfl
  unfold demandDeactivate
  split
  · simp [demandClear, buttons]
  · next h => simpa using h

/-- On the notice of DARK or FLASH the Demand Unit becomes inactive (R127). -/
theorem setMode_demand_inactive (e : Env) (mode : Mode) (sub : SubPhase) (r : Rt) (h : stagesRun mode = false) :
    (setMode e mode sub r).demand.active = false := by
  have notice : (setMode e mode sub r).demand.active = (demandNotice e (stageNotice (modeNoticed e mode sub r))).demand.active := by
    simp [setMode_eq]
  rw [notice]
  cases mode <;> simp [stagesRun] at h <;> simp [demandNotice, demandDeactivate_active]

/-- Outside RUNNING no change of mode leaves an offer (R150). -/
theorem setMode_offers_none (e : Env) (mode : Mode) (sub : SubPhase) (r : Rt) (h : mode ≠ .running) :
    (setMode e mode sub r).priority.holdOffer = none ∧ (setMode e mode sub r).priority.truncOffer = none := by
  have noticed : ∀ u : Rt, u.mode.mode ≠ .running →
      (priorityNotice e u).priority.holdOffer = none ∧ (priorityNotice e u).priority.truncOffer = none := fun u hu =>
    recomputeOffers_absent e _ (mayOffer_eq_false _ (.inl (by split <;> simpa using hu)))
  have priority : (setMode e mode sub r).priority = (priorityNotice e (tramNotice e (loopNotice e r.mode.mode
      (demandNotice e (stageNotice (modeNoticed e mode sub r)))))).priority := by simp [setMode_eq]
  rw [priority]
  exact noticed _ (by simpa using h)

theorem setMode_trams (e : Env) (mode : Mode) (sub : SubPhase) (r : Rt) (h : mode ≠ .dark) :
    (setMode e mode sub r).trams = r.trams := by
  simp [setMode_eq, tramNotice, h]

theorem lampStartup_none_silent (e : Env) (r : Rt) (h : ∀ m ∈ r.lamp.modules, m.silent = false) : lampStartup e r = r := by
  have inv : ∀ (l : List ModuleRec) (u : Rt), (∀ m ∈ l, m.silent = false) → l.foldl (fun r m =>
      if m.silent then handNotice ⟨.moduleSilent, none, none, some m.addr, e.now⟩ r else r) u = u := by
    intro l
    induction l with
    | nil => intro u _; rfl
    | cons m l ih =>
      intro u hl
      obtain ⟨hm, hl⟩ := List.forall_mem_cons.mp hl
      simpa [hm] using ih u hl
  exact inv _ _ h

/-- Where no frame can fail and no silent module gives its notice, the Lamp Interface's part in a change of mode hands no
fault notice. -/
theorem lampNotice_follows {e : Env} {old : Mode} {r : Rt} (hf : r.follows e)
    (hs : r.mode.mode = .startup → r.mode.sub = .startFlash → ∀ m ∈ r.lamp.modules, m.silent = false) :
    (lampNotice e old r).follows e ∧ (lampNotice e old r).notices = r.notices := by
  unfold lampNotice
  split
  · exact ⟨follows_congr (by simp) (by simp) hf, by simp⟩
  · obtain ⟨follows, notices⟩ := frameAll_follows (r := r.withLamp fun x =>
      { x with modules := x.modules.map fun m => { m with silenceDue := some (after e.now Config.second) } })
      (follows_congr (by simp) (by simp) hf)
    exact ⟨follows, notices.trans (by simp)⟩
  · next hm hsub =>
    rw [lampStartup_none_silent e r (hs hm hsub)]
    exact ⟨hf, rfl⟩
  · exact ⟨hf, rfl⟩

theorem setMode_follows {e : Env} {mode : Mode} {sub : SubPhase} {r : Rt} (hf : r.follows e)
    (hs : mode = .startup → sub = .startFlash → ∀ m ∈ r.lamp.modules, m.silent = false) :
    (setMode e mode sub r).follows e ∧ (setMode e mode sub r).notices = r.notices := by
  obtain ⟨follows, notices⟩ := lampNotice_follows (old := r.mode.mode) (r := priorityNotice e (tramNotice e
    (loopNotice e r.mode.mode (demandNotice e (stageNotice (modeNoticed e mode sub r))))))
    (follows_congr (by simp) (by simp) hf) (by simpa using hs)
  exact ⟨follows, notices.trans (by simp)⟩

/-! ### The reading of conditions -/

/-- A fault notice that is taken leaves the others waiting as they are, for no frame of its flash order fails. -/
theorem takeNotice_notices (e : Env) (n : FaultNotice) (r : Rt) : (takeNotice e n r).notices = r.notices := by
  unfold takeNotice
  split
  · obtain ⟨follows, ordered⟩ := flashOrder_follows e (postFault e n (r.withMode fun m => { m with latch := true }))
    simp [(setMode_follows (mode := .flash) (sub := .none) follows (by simp)).2, ordered]
  · simp

theorem takeFaults_notices (e : Env) (r : Rt) : (takeFaults e r).notices = [] :=
  foldl_inv (fun r' => r'.notices = []) _ (fun r' n h => (takeNotice_notices e n r').trans h) _ _ (by simp)

theorem maxGreenCheck_outside_stage (e : Env) (r : Rt) (h : r.inStagePhase = false) : maxGreenCheck e r = r := by
  unfold maxGreenCheck
  split
  · rfl
  · simp [h]

/-- A command's end while the Stage Engine, once the fault notices are taken, has nothing to act on. -/
theorem finish_of_still {e : Env} {r : Rt} (h : (takeFaults e r).still e = true) :
    finish e r = noteGap e (maxGreenCheck e (takeFaults e r)) := by
  rw [← finish_still e _ h, finish, finish, takeFaults_nil e _ (takeFaults_notices e r)]

/-- A command's end in DARK and FLASH with the Stage Engine in IDLE takes the fault notices. -/
theorem finish_quiet {e : Env} {r : Rt} (hm : stagesRun r.mode.mode = false) (hp : r.stage.phase = .idle) :
    finish e r = { r with report := (takeFaults e r).report, notices := [] } := by
  have quiet := takeFaults_quiet e r hm
  have outside : (takeFaults e r).inStagePhase = false := by rw [quiet]; simp [Rt.inStagePhase, hp]
  have still : (takeFaults e r).still e = true := by
    have shut : r.mode.mode ≠ .shutdown := fun h => by simp [h, stagesRun] at hm
    rw [quiet]; simp [Rt.still, hp, shut]
  rw [finish_of_still still, maxGreenCheck_outside_stage e _ outside, noteGap_quiet e _ outside, quiet]

end Sys2Proof.Machine

/-! SUPPORT. Proofs of the statements of the family 01_signal_groups_and_their_aspects: FLASH_ON and DARK. -/

namespace Sys2Proof.Machine

/-! ### FLASH_ON (R39) -/

theorem flashOnOwner_notLoaded (e : Env) (r : Rt) (hm : r.mode.mode = .dark) (hc : e.tab.mappedCount = 0) :
    flashOnOwner e r = (r, ⟨.notLoaded, []⟩) := by
  simp [flashOnOwner, hm, hc, refuse]

theorem flashOnOwner_flash (e : Env) (r : Rt) (hm : r.mode.mode = .flash) : flashOnOwner e r = (r, .accepted) := by
  simp [flashOnOwner, hm]

theorem flashOnOwner_wrongMode (e : Env) (r : Rt) (hm : stagesRun r.mode.mode = true) :
    flashOnOwner e r = (r, ⟨.wrongMode, []⟩) := by
  cases h : r.mode.mode <;> simp [h, stagesRun] at hm <;> simp [flashOnOwner, h, refuse]

theorem flashOnOwner_accepts (e : Env) (r : Rt) (hm : r.mode.mode = .dark) (hc : 0 < e.tab.mappedCount) :
    flashOnOwner e r = (finish e (setMode e .flash .none (flashOrder e r)), .accepted) := by
  simp [flashOnOwner, hm, Nat.pos_iff_ne_zero.mp hc, accept]

/-- Entering FLASH, where the junction stands still, changes what FLASH and its flash order say; the fault notices are posted. -/
theorem finish_flashEntered (e : Env) (r : Rt) :
    let u := setMode e .flash .none (flashOrder e r)
    finish e u = { u with report := (takeFaults e u).report, notices := [] } :=
  finish_quiet (by simp [setMode_mode, stagesRun]) (by simp [setMode_flash_stage, StageUnit.idled])

/-- Leaving DARK starts the silence timer of every module (R174). -/
theorem setMode_leaveDark_silenceDue (e : Env) (mode : Mode) (sub : SubPhase) (r : Rt) (ho : r.mode.mode = .dark)
    (hm : mode ≠ .dark) : ∀ m ∈ (setMode e mode sub r).lamp.modules, m.silenceDue = some (e.now + 10#32) := by
  have leave : ∀ u : Rt, u.mode.mode ≠ .dark → ∀ m ∈ (lampNotice e .dark u).lamp.modules, m.silenceDue = some (e.now + 10#32) := by
    intro u hu
    have notice : lampNotice e .dark u = lampLeaveDark e u := by
      cases h : u.mode.mode <;> simp [h] at hu <;> simp [lampNotice, h]
    rw [notice]
    refine frameAll_modules_inv _ (fun _ _ _ h => h) e _ ?_
    simp [after, Config.second]
  rw [setMode_eq, ho]
  exact leave _ (by simpa using hm)

/-- What a flash order and the notice of FLASH leave of the blocks (R39, R46). -/
theorem flashEntered_values (e : Env) (r : Rt) :
    let u := setMode e .flash .none (flashOrder e r)
    u.mode = { r.mode with mode := .flash, sub := .none, phaseDue := none } ∧
      (∀ g : Group, (u.groups.get g).state = flashState e.tab g) ∧
      u.stage = r.stage.idled ∧
      u.demand.active = false ∧ u.trams = r.trams ∧ u.priority.holdOffer = none ∧ u.priority.truncOffer = none := by
  have inactive := setMode_demand_inactive e .flash .none (flashOrder e r) rfl
  have offers := setMode_offers_none e .flash .none (flashOrder e r) (by simp)
  exact ⟨by simp [setMode_mode], by simp [flashOrder_get], by simp [setMode_flash_stage], inactive,
    by simp [setMode_trams], offers⟩

/-- Settles O18: the answers are `flashOnOwner`'s cases, and the effect is that of a flash order and of the notice of FLASH. -/
theorem flashOnEntersFlash : Obligations.FlashOnEntersFlash := by
  refine ⟨fun s h => ?_, fun s h => ?_⟩
  · intro f answered hd
    have exec_eq := exec_flashOn_delivered s h hd
    refine ⟨fun hm hc => ?_, fun hm => ?_, fun hm => ?_⟩
    · rw [exec_eq, flashOnOwner_notLoaded _ _ (by simpa using hm) hc]
    · rw [exec_eq, flashOnOwner_flash _ _ (by simpa using hm)]
      rfl
    · rw [exec_eq, flashOnOwner_wrongMode _ _ (by rcases hm with hm | hm | hm <;> simp [hm, stagesRun])]
  · intro e f hd hm hc
    obtain ⟨mode, groups, stage, active, trams, offers⟩ := flashEntered_values e (s.part.arrived .head)
    have silence := setMode_leaveDark_silenceDue e .flash .none (flashOrder e (s.part.arrived .head)) (by simpa using hm) (by simp)
    refine ⟨_, by rw [exec_flashOn_delivered s h hd, flashOnOwner_accepts _ _ (by simpa using hm) hc], ?_⟩
    rw [finish_flashEntered]
    generalize setMode e .flash .none (flashOrder e (s.part.arrived .head)) = u at *
    exact ⟨by simp [mode], groups, by simp [stage, StageUnit.idled], silence, active, by simp [trams], offers⟩

/-! ### DARK (R40) -/

theorem darkOwner_dark (e : Env) (r : Rt) (hm : r.mode.mode = .dark) : darkOwner e r = (r, .accepted) := by
  simp [darkOwner, hm]

theorem darkOwner_wrongMode (e : Env) (r : Rt) (hm : stagesRun r.mode.mode = true) :
    darkOwner e r = (r, ⟨.wrongMode, []⟩) := by
  cases h : r.mode.mode <;> simp [h, stagesRun] at hm <;> simp [darkOwner, h, refuse]

theorem darkOwner_accepts (e : Env) (r : Rt) (hm : r.mode.mode = .flash) :
    darkOwner e r = (finish e (setMode e .dark .none (darkOrder e r)), .accepted) := by
  simp [darkOwner, hm, accept]

/-- Every record is gone when the tram table is emptied (R144). -/
theorem tramsEmpty_get (e : Env) (r : Rt) (k : TramSlot) : (tramsEmpty e r).trams.get k = none := by
  rw [tramsEmpty, foldl_get_of_step (fun r s => r.trams.get s) _ (fun _ _ => none) (fun r s j => ?_) allTramSlots r k
    (List.nodup_finRange 8)]
  · simp [allTramSlots]
  · by_cases hs : (r.tram s).isSome = true
    · simp [hs, setTram, upd_get]
    · have empty : r.trams.get s = none := by simpa [Rt.tram] using hs
      by_cases hj : s = j
      · subst hj; simp [hs, empty]
      · simp [hs, hj]

/-- The notice of DARK when the part leaves another mode than DARK: loops wait for tuning, and timers and lists stand anew. -/
theorem setMode_dark_loops (e : Env) (sub : SubPhase) (r : Rt) (ho : r.mode.mode ≠ .dark) :
    (setMode e .dark sub r).loops = (rebuildLoops e r).loops := by
  have demandLoops : ∀ (l : List Loop) (u : Rt), (l.foldl (fun r l => demandLoop e l e.now r) u).loops = u.loops :=
    fun l u => foldl_inv (fun r' => r'.loops = u.loops) _ (fun _ _ h => by simpa using h) l u rfl
  have notice : ∀ u : Rt, u.mode.mode = .dark → (loopNotice e r.mode.mode u).loops = (rebuildLoops e u).loops := by
    intro u hu
    cases h : r.mode.mode <;> simp [h] at ho <;> simp [loopNotice, hu, loopsDark, demandLoops]
  have loops : (setMode e .dark sub r).loops =
      (loopNotice e r.mode.mode (demandNotice e (stageNotice (modeNoticed e .dark sub r)))).loops := by
    simp [setMode_eq]
  rw [loops, notice _ (by simp)]
  simp [rebuildLoops]

theorem setMode_dark_modules (e : Env) (sub : SubPhase) (r : Rt) :
    ∀ m ∈ (setMode e .dark sub r).lamp.modules, m.silenceDue = none ∧ m.silent = false := by
  have notice : ∀ u : Rt, u.mode.mode = .dark → lampNotice e r.mode.mode u = lampDark u := fun u hu => by
    simp [lampNotice, hu]
  rw [setMode_eq, notice _ (by simp)]
  simp [lampDark]

theorem setMode_dark_trams (e : Env) (sub : SubPhase) (r : Rt) (k : TramSlot) : (setMode e .dark sub r).trams.get k = none := by
  simp [setMode_eq, tramNotice, tramsEmpty_get]

theorem setMode_dark_record (e : Env) (sub : SubPhase) (r : Rt) (ho : r.mode.mode ≠ .dark) :
    (setMode e .dark sub r).report.record = r.report.record := by
  have notice : ∀ u : Rt, u.mode.mode = .dark → (loopNotice e r.mode.mode u).report = u.report := fun u hu => by
    cases h : r.mode.mode <;> simp [h] at ho <;> simp [loopNotice, hu]
  rw [setMode_eq]
  simp [notice]

/-- What DARK leaves of the loops' records (R111). -/
theorem rebuildLoops_get (e : Env) (r : Rt) (l : Loop) : (rebuildLoops e r).loops.recs.get l =
    (r.loops.recs.get l).cleared (if (e.tab.loops.get l).isSome then .waitingTune else .unused) := by
  show (Vector.ofFn _)[l.val] = _
  simp

/-- What the DARK command leaves of the blocks it acts on (R40), from blocks in another mode. -/
theorem darkEntered_values (e : Env) (r : Rt) (hm : r.mode.mode ≠ .dark) :
    let u := setMode e .dark .none (darkOrder e r)
    u.mode = { r.mode with mode := .dark, sub := .none, phaseDue := none } ∧
      u.report.record = r.report.record ∧
      (∀ g : Group, (u.groups.get g).state = .dark) ∧ (∀ k : TramSlot, u.trams.get k = none) ∧
      (∀ l : Loop, (u.loops.recs.get l).state = (if (e.tab.loops.get l).isSome then .waitingTune else .unused) ∧
        (u.loops.recs.get l).vehicles = (r.loops.recs.get l).vehicles) ∧
      (∀ c ∈ u.loops.cards, c.wait = e.tab.cardLoops c.addr ∧ c.silenceDue = none ∧ c.silent = false) ∧
      (∀ m ∈ u.lamp.modules, m.silenceDue = none ∧ m.silent = false) ∧ u.demand.active = false ∧ u.stage.phase = .idle := by
  have left : (darkOrder e r).mode.mode ≠ .dark := by simpa using hm
  have loops := setMode_dark_loops e .none _ left
  have record := setMode_dark_record e .none _ left
  have modules := setMode_dark_modules e .none (darkOrder e r)
  have trams := setMode_dark_trams e .none (darkOrder e r)
  have inactive := setMode_demand_inactive e .dark .none (darkOrder e r) rfl
  have cards : ∀ c ∈ (rebuildLoops e (darkOrder e r)).loops.cards,
      c.wait = e.tab.cardLoops c.addr ∧ c.silenceDue = none ∧ c.silent = false := by simp [rebuildLoops]
  exact ⟨by simp [setMode_mode], by simpa using record, by simp [darkOrder_get], trams,
    fun l => by simp [loops, rebuildLoops_get, LoopRec.cleared], by rw [loops]; exact cards, modules, inactive,
    by simp [setMode_dark_stage, StageUnit.idled]⟩

/-- Entering DARK, where no frame of the dark order fails, nothing is left to be done. -/
theorem finish_darkEntered (e : Env) (r : Rt) (hn : r.notices = []) :
    finish e (setMode e .dark .none (darkOrder e r)) = setMode e .dark .none (darkOrder e r) := by
  obtain ⟨follows, notices⟩ := darkOrder_follows e r
  have none_waits : (setMode e .dark .none (darkOrder e r)).notices = [] := by
    rw [(setMode_follows follows (by simp)).2, notices, hn]
  have taken := takeFaults_nil e _ none_waits
  rw [finish_quiet (by simp [setMode_mode, stagesRun]) (by simp [setMode_dark_stage, StageUnit.idled]), taken, ← none_waits]

/-- Settles O19: the answers are `darkOwner`'s cases, and the effect is that of a dark order, whose frames pass the Monitor,
and of the notice of DARK. -/
theorem darkEntersDark : Obligations.DarkEntersDark := by
  refine ⟨fun s h => ?_, fun s h => ?_⟩
  · intro f answered hd
    have exec_eq := exec_dark_delivered s h hd
    refine ⟨fun hm => ?_, fun hm => ?_⟩
    · rw [exec_eq, darkOwner_dark _ _ (by simpa using hm)]
      rfl
    · rw [exec_eq, darkOwner_wrongMode _ _ (by rcases hm with hm | hm | hm <;> simp [hm, stagesRun])]
  · intro e f hd hm hn
    refine ⟨_, by rw [exec_dark_delivered s h hd, darkOwner_accepts _ _ (by simpa using hm)], ?_⟩
    have entered := darkEntered_values e (s.part.arrived .head) (by simp [hm])
    rw [finish_darkEntered e _ (by simpa using hn)]
    simpa using entered

end Sys2Proof.Machine

/-! SUPPORT. Proofs of the statements of the family 01_signal_groups_and_their_aspects: the phase ends of STARTUP and SHUTDOWN. -/

namespace Sys2Proof.Machine

/-! ### Events and changes of mode -/

/-- An event adds its kind to the summary (R193). -/
theorem post_summary (e : Env) (kind : EventKind) (subject : Byte) (detail : List Byte) (r : Rt) :
    (post e kind subject detail r).report.summary = r.report.summary ||| (1#21 <<< kind.code) := by
  simp only [post, ReportUnit.take, Rt.withReport_fields]
  split <;> (try split) <;> rfl

theorem modeNoticed_summary (e : Env) (mode : Mode) (sub : SubPhase) (r : Rt) :
    (modeNoticed e mode sub r).report.summary = r.report.summary ||| 1#21 := by
  rw [modeNoticed, post_summary]; rfl

/-- Between modes other than DARK, RUNNING and SHUTDOWN are entered with the notices to the Stage Engine and the Priority Unit
alone. -/
theorem setMode_service (e : Env) (mode : Mode) (sub : SubPhase) (r : Rt) (ho : r.mode.mode ≠ .dark)
    (hm : mode = .running ∨ mode = .shutdown) :
    setMode e mode sub r = recomputeOffers e (stageNotice (modeNoticed e mode sub r)) := by
  have serving : ∀ u : Rt, u.mode.mode = mode → lampNotice e r.mode.mode (priorityNotice e (tramNotice e
      (loopNotice e r.mode.mode (demandNotice e u)))) = recomputeOffers e u := fun u hu => by
    have demand : demandNotice e u = u := by rcases hm with rfl | rfl <;> simp [demandNotice, hu]
    have loops : loopNotice e r.mode.mode u = u := loopNotice_lit ho (by rcases hm with rfl | rfl <;> simp [hu])
    have trams : tramNotice e u = u := by rcases hm with rfl | rfl <;> simp [tramNotice, hu]
    have priority : priorityNotice e u = recomputeOffers e u := by rcases hm with rfl | rfl <;> simp [priorityNotice, hu]
    have lamp : ∀ w : Rt, w.mode.mode = mode → lampNotice e r.mode.mode w = w := fun w hw => by
      rcases hm with rfl | rfl <;> cases h : r.mode.mode <;> simp [h] at ho <;> simp [lampNotice, hw]
    rw [demand, loops, trams, priority, lamp _ (by simpa using hu)]
  rw [setMode_eq]
  exact serving _ (by simp)

/-- MODE_CHANGE joins the summary, which keeps what it held. -/
theorem setMode_service_summary (e : Env) (mode : Mode) (sub : SubPhase) (r : Rt) (ho : r.mode.mode ≠ .dark)
    (hm : mode = .running ∨ mode = .shutdown) : (setMode e mode sub r).report.summary = r.report.summary ||| 1#21 := by
  rw [setMode_service e mode sub r ho hm]
  simp [modeNoticed_summary]

/-- A change of sub-phase within STARTUP, ALL_RED or FIRST_START, leaves the Stage Engine's record alone. -/
theorem setMode_stage_startup (e : Env) (sub : SubPhase) (r : Rt) (h : sub ≠ .startFlash) :
    (setMode e .startup sub r).stage = r.stage := by
  rw [setMode_stage]
  cases sub <;> simp at h <;> simp [stageNotice]

theorem setMode_stage_shutdownAllRed (e : Env) (r : Rt) : (setMode e .shutdown .allRed r).stage = r.stage := by
  rw [setMode_stage]; simp [stageNotice]

/-! ### The reading of conditions in IDLE -/

/-- With the Stage Engine in IDLE, no notice waiting and no group of a CLEARING_ALL to wait for, a command's end does nothing. -/
theorem finish_idle (e : Env) (r : Rt) (hn : r.notices = []) (hp : r.stage.phase = .idle)
    (hs : r.mode.sub ≠ .clearingAll) : finish e r = r := by
  have outside : r.inStagePhase = false := by simp [Rt.inStagePhase, hp]
  have still : r.still e = true := by simp [Rt.still, hn, hp, hs]
  rw [finish_still e r still, maxGreenCheck_outside_stage e r outside, noteGap_quiet e r outside]

/-- The last group of a CLEARING_ALL to reach REST brings ALL_RED of SHUTDOWN (R46). -/
theorem finish_allRest (e : Env) (r : Rt) (hn : r.notices = []) (hp : r.stage.phase = .idle) (hm : r.mode.mode = .shutdown)
    (hs : r.mode.sub = .clearingAll) (ha : allRest e r = true) : finish e r = takeFaults e (shutdownAllRed e r) := by
  have outside : r.inStagePhase = false := by simp [Rt.inStagePhase, hp]
  have eval : stageEval e r = (shutdownAllRed e r, false) := by simp [stageEval, hp, hm, hs, ha]
  have quiet : (shutdownAllRed e r).inStagePhase = false := by
    simp [shutdownAllRed, Rt.inStagePhase, setMode_stage_shutdownAllRed, hp]
  simp only [finish, takeFaults_nil e r hn, Config.stageFuel, settleFor, maxGreenCheck_outside_stage e r outside, eval]
  rw [noteGap_quiet e _ quiet]

/-! ### Rest orders -/

theorem aspectOf_rest_dull (t : GroupType) : (aspectOf t .rest).cls ≠ .starting ∧ (aspectOf t .rest).cls ≠ .green := by
  cases t <;> decide

theorem groupAspect_of_undefined {e : Env} {r : Rt} {g : Group} (h : e.tab.isDefined g = false) : groupAspect e r g = .dark := by
  have unused : e.tab.gtype g = .unused := by simpa [Tables.isDefined] using h
  simp [groupAspect, unused, aspectOf]

/-- Where every defined group is in REST no frame can fail the Monitor's check. -/
theorem follows_of_rest {e : Env} {r : Rt} (h : ∀ g, e.tab.isDefined g = true → (r.groups.get g).state = .rest) : r.follows e :=
  follows_of_dull fun g => by
    cases hd : e.tab.isDefined g
    · rw [groupAspect_of_undefined hd]; decide
    · rw [groupAspect, h g hd]; exact aspectOf_rest_dull _

/-- The groups that a rest order has reached, before its frames. -/
theorem restOrder_follows {e : Env} {r : Rt}
    (h : ∀ g, e.tab.isDefined g = true → ((r.groups.get g).rested true).state = .rest) :
    (restOrder e r).follows e ∧ (restOrder e r).notices = r.notices := by
  have ordered : ∀ g, e.tab.isDefined g = true → ((restOrder e r).groups.get g).state = .rest := fun g hg => by
    rw [restOrder_get, hg]; exact h g hg
  obtain ⟨follows, notices⟩ := frameAll_follows (e := e) (r := allGroups.foldl (fun r g => restGroup e g r) r)
    (follows_of_rest fun g hg => by simpa [restOrder] using ordered g hg)
  exact ⟨follows, notices.trans (by simp)⟩

/-! ### START_FLASH_END (R42) -/

/-- ALL_RED of STARTUP brings no fault notice and leaves the Stage Engine as it is. -/
theorem startupAllRed_values (e : Env) (r : Rt) (v : StartValues) (hv : r.mode.startValues = some v)
    (hg : ∀ g : Group, (r.groups.get g).state = flashState e.tab g) :
    let u := startupAllRed e r
    u.mode = { r.mode with mode := .startup, sub := .allRed, phaseDue := some (e.now + BitVec.ofNat 32 v.allRed) } ∧
      (∀ g : Group, (u.groups.get g).state = if e.tab.isDefined g then .rest else .dark) ∧
      u.stage = r.stage ∧ u.trams = r.trams ∧ u.notices = r.notices := by
  have rested : ∀ g, e.tab.isDefined g = true → ((r.groups.get g).rested true).state = .rest := fun g _ => by
    have unlit := flashState_unlit e.tab g
    rw [GroupRec.rested, if_pos ⟨rfl, by rw [hg]; exact unlit⟩]
  obtain ⟨follows, notices⟩ := restOrder_follows rested
  have quiet := (setMode_follows (mode := .startup) (sub := .allRed) follows (by simp)).2
  refine ⟨by simp [startupAllRed, setMode_mode, hv, after], fun g => ?_, ?_, ?_, ?_⟩
  · have state : ((startupAllRed e r).groups.get g).state = ((r.groups.get g).rested (e.tab.isDefined g)).state := by
      simp [startupAllRed, restOrder_get]
    rw [state]
    cases hd : e.tab.isDefined g
    · simp [GroupRec.rested, hg, flashState_of_undefined hd]
    · simp [rested g hd]
  · simp [startupAllRed, setMode_stage_startup]
  · simp [startupAllRed, setMode_trams]
  · simpa [startupAllRed, notices] using quiet


theorem exec_startFlashEnd (s : State) (h : phaseOver s.part.env s.part.rt .startup .startFlash = true) :
    exec .startFlashEnd s = .next (s.withRt (finish s.part.env (startupAllRed s.part.env s.part.rt))) :=
  whenDue_onPart s .startFlashEnd (fun p => p.act startupAllRed) h

/-! ### SHUTDOWN_ALL_RED_END (R46) -/

theorem exec_shutdownAllRedEnd (s : State) (h : phaseOver s.part.env s.part.rt .shutdown .allRed = true) :
    exec .shutdownAllRedEnd s = .next (s.withRt (finish s.part.env
      (setMode s.part.env .flash .none (flashOrder s.part.env s.part.rt)))) :=
  whenDue_onPart s .shutdownAllRedEnd (fun p => p.act fun e r => setMode e .flash .none (flashOrder e r)) h

/-! ### The CLEARING_END that ends CLEARING_ALL (R46) -/

/-- A group's clearing has run: it is in REST (R13). -/
def restEntered (g : Group) (r : Rt) : Rt := updGroup g (fun x => { x with state := .rest, clearingDue := none }) r

@[simp] theorem restEntered_frame (g : Group) (r : Rt) :
    (restEntered g r).ring = r.ring ∧ (restEntered g r).mode = r.mode ∧ (restEntered g r).monitor = r.monitor ∧
    (restEntered g r).lamp = r.lamp ∧ (restEntered g r).stage = r.stage ∧ (restEntered g r).loops = r.loops ∧
    (restEntered g r).demand = r.demand ∧ (restEntered g r).trams = r.trams ∧ (restEntered g r).priority = r.priority ∧
    (restEntered g r).report = r.report ∧ (restEntered g r).notices = r.notices := by
  simp [restEntered]

theorem restEntered_get (g k : Group) (r : Rt) : (restEntered g r).groups.get k =
    if g = k then { r.groups.get k with state := .rest, clearingDue := none } else r.groups.get k := updGroup_get g k _ r

theorem clearingRun_due {e : Env} {g : Group} {r : Rt} (hs : (r.groups.get g).state = .clearing)
    (hd : isDue e.now (r.groups.get g).clearingDue = true) :
    clearingRun e g r = markRest g (groupFrame e g (restEntered g r)) := by
  simp [clearingRun, hs, hd, restEntered]

theorem exec_clearingEnd (s : State) (g : Group) (hs : (s.part.rt.groups.get g).state = .clearing)
    (hd : isDue s.part.env.now (s.part.rt.groups.get g).clearingDue = true) :
    exec (.clearingEnd g) s = .next (s.withRt (finish s.part.env
      (markRest g (groupFrame s.part.env g (restEntered g s.part.rt))))) := by
  rw [← clearingRun_due hs hd]
  exact whenDue_onPart s (.clearingEnd g) (fun p => p.act fun e r => clearingRun e g r) (by simp [timeDue, hs, hd])

theorem allRest_iff {e : Env} {r : Rt} : allRest e r = true ↔ ∀ g, e.tab.isDefined g = true → (r.groups.get g).state = .rest := by
  simp [allRest, imp_iff_not_or]

/-- ALL_RED of SHUTDOWN, once every defined group is in REST: no group changes and no frame fails. -/
theorem shutdownAllRed_values (e : Env) (r : Rt) (v : Taken) (hm : r.mode.mode = .shutdown) (hv : r.stage.taken = some v)
    (ha : allRest e r = true) :
    let u := shutdownAllRed e r
    u.mode = { r.mode with sub := .allRed, phaseDue := some (e.now + BitVec.ofNat 32 v.allRed) } ∧
      (∀ g : Group, u.groups.get g = r.groups.get g) ∧ u.stage = r.stage ∧ u.trams = r.trams ∧ u.notices = r.notices ∧ u.report.summary.getLsbD 0 = true := by
  have same : ∀ g, (r.groups.get g).rested (e.tab.isDefined g) = r.groups.get g := fun g => by
    cases hg : e.tab.isDefined g
    · simp [GroupRec.rested]
    · simp [GroupRec.rested, allRest_iff.mp ha g hg]
  obtain ⟨follows, notices⟩ := restOrder_follows (e := e) (r := r) fun g hg => by
    rw [← hg, same g, allRest_iff.mp ha g hg]
  have quiet := (setMode_follows (mode := .shutdown) (sub := .allRed) follows (by simp)).2
  have summary := setMode_service_summary e .shutdown .allRed (restOrder e r) (by simp [hm]) (.inr rfl)
  refine ⟨by simp [shutdownAllRed, setMode_mode, setMode_stage_shutdownAllRed, hv, hm, after], fun g => ?_, ?_, ?_, ?_, ?_⟩
  · simp [shutdownAllRed, restOrder_get, same]
  · simp [shutdownAllRed, setMode_stage_shutdownAllRed]
  · simp [shutdownAllRed, setMode_trams]
  · simpa [shutdownAllRed, notices] using quiet
  · simp [shutdownAllRed, summary]

/-- The last group in CLEARING has come to REST in CLEARING_ALL (R46). -/
theorem finish_lastClearing (e : Env) (g : Group) (r : Rt) (hn : r.notices = []) (hp : r.stage.phase = .idle)
    (hm : r.mode.mode = .shutdown) (hs : r.mode.sub = .clearingAll)
    (hg : ∀ k : Group, k ≠ g → e.tab.isDefined k = true → (r.groups.get k).state = .rest) :
    let u := markRest g (groupFrame e g (restEntered g r))
    allRest e u = true ∧ finish e u = takeFaults e (shutdownAllRed e u) ∧ u.notices = [] := by
  have rest : ∀ k, e.tab.isDefined k = true → ((restEntered g r).groups.get k).state = .rest := fun k hk => by
    by_cases h : g = k
    · simp [restEntered_get, h]
    · simpa [restEntered_get, h] using hg k (Ne.symm h) hk
  have notices := (groupFrame_follows (g := g) (follows_of_rest rest)).2
  have all : allRest e (markRest g (groupFrame e g (restEntered g r))) = true := allRest_iff.mpr (by simpa using rest)
  refine ⟨all, finish_allRest e _ (by simp [notices, hn]) (by simp [markRest, hp]) (by simp [hm]) (by simp [hs]) all,
    by simp [notices, hn]⟩

/-- Settles O51: each end of a phase is its order and its change of mode, after which the Stage Engine, in IDLE, has nothing
to act on. -/
theorem phaseEndsOfStartupAndShutdown : Obligations.PhaseEndsOfStartupAndShutdown := by
  refine ⟨fun s v hover hv hstill hidle hg => ?_, fun s hover => ?_, fun s g v => ?_⟩
  · obtain ⟨mode, groups, stage, trams, notices⟩ := startupAllRed_values s.part.env s.part.rt v hv hg
    have starting : s.part.rt.mode.mode = .startup := by simp [phaseOver] at hover; exact hover.1.1
    refine ⟨_, exec_startFlashEnd s hover, rfl, rfl, ?_⟩
    rw [finish_idle _ _ (notices.trans (Rt.still_notices _ _ hstill)) (by rw [stage, hidle]) (by rw [mode]; simp)]
    exact ⟨by simp [mode, starting], groups, stage, trams⟩
  · obtain ⟨mode, groups, stage, active, trams, -⟩ := flashEntered_values s.part.env s.part.rt
    refine ⟨_, exec_shutdownAllRedEnd s hover, rfl, rfl, ?_⟩
    rw [finish_flashEntered]
    generalize setMode s.part.env .flash .none (flashOrder s.part.env s.part.rt) = u at *
    exact ⟨mode, groups, by simp [stage, StageUnit.idled], active, trams⟩
  · intro u hm hs hp hn hv hc hd hg
    obtain ⟨all, final, notices⟩ := finish_lastClearing s.part.env g u hn hp hm hs hg
    obtain ⟨mode, groups, stage, trams, none_waits, summary⟩ := shutdownAllRed_values s.part.env _ v (by simp [u, hm])
      (by simp [markRest, u, hv]) all
    refine ⟨_, exec_clearingEnd s g hc hd, rfl, rfl, ?_⟩
    rw [final, takeFaults_nil _ _ (none_waits.trans notices)]
    exact ⟨by simp [mode], by rw [groups g]; simp [restEntered_get, u],
      fun k hk _ => by rw [groups k]; simp [restEntered_get, Ne.symm hk, u], by rw [stage]; simp [markRest, u], by simp [trams], summary⟩

end Sys2Proof.Machine

/-! SUPPORT. Proofs of the statements of the family 01_signal_groups_and_their_aspects: the first interstage. -/

namespace Sys2Proof.Machine

/-! ### Moments ahead -/

/-- A moment within the longest span is reached only when it is the present one. -/
theorem reached_after {now : Time} {d : Nat} (h : d ≤ 36000) : reached now (after now d) = decide (d = 0) := by
  have dist : back now (after now d) = 36000 - d := by
    simp only [back, after, Config.maxSpan]
    bv_omega
  simp only [reached, dist, Config.maxSpan, decide_eq_decide]
  omega

theorem before_after (now : Time) (d : Nat) : before (after now d) d = now := by
  simp [before, after]

theorem reached_self (now : Time) : reached now now = true := by
  simpa [after] using reached_after (now := now) (d := 0) (by omega)

/-! ### A green-start order (R9, R10) -/

/-- What a fold does where each step acts on its own element alone. -/
theorem foldl_get_of_local {β ι α : Type} (get : β → ι → α) (f : β → ι → β) (P : ι → α → α → Prop)
    (hother : ∀ r g k, g ≠ k → get (f r g) k = get r k) (hself : ∀ r g, P g (get r g) (get (f r g) g)) :
    ∀ (l : List ι) (r : β), l.Nodup →
      (∀ k ∈ l, P k (get r k) (get (l.foldl f r) k)) ∧ ∀ k, k ∉ l → get (l.foldl f r) k = get r k
  | [], r, _ => by simp
  | g :: l, r, hn => by
    obtain ⟨hg, hn⟩ := List.nodup_cons.mp hn
    obtain ⟨inside, outside⟩ := foldl_get_of_local get f P hother hself l (f r g) hn
    refine ⟨fun k hk => ?_, fun k hk => ?_⟩
    · rcases List.mem_cons.mp hk with rfl | hk
      · rw [List.foldl_cons, outside _ hg]; exact hself r _
      · have ne : g ≠ k := fun h => hg (h ▸ hk)
        simpa [hother r g k ne] using inside k hk
    · obtain ⟨ne, hk⟩ := not_or.mp (mt List.mem_cons.mpr hk)
      rw [List.foldl_cons, outside k hk, hother r g k (Ne.symm ne)]

theorem enterStarting_get_ne (e : Env) (g k : Group) (r : Rt) (h : g ≠ k) :
    (enterStarting e g r).groups.get k = r.groups.get k := by
  unfold enterStarting
  split <;> simp [updGroup_get, h]

theorem enterGreen_get_ne (e : Env) (g k : Group) (r : Rt) (h : g ≠ k) :
    (enterGreen e g r).groups.get k = r.groups.get k := by
  unfold enterGreen
  split <;> simp [updGroup_get, h]

theorem takeGreenStart_get_ne (e : Env) (g k : Group) (t : Time) (r : Rt) (h : g ≠ k) :
    (takeGreenStart e g t r).groups.get k = r.groups.get k := by
  simp only [takeGreenStart]
  split
  · rw [enterGreen_get_ne e g k _ h, enterStarting_get_ne e g k _ h, updGroup_get, if_neg h]
  · rfl

theorem enterStarting_of_not_due {e : Env} {g : Group} {r : Rt} (h : startingNow e r g = false) : enterStarting e g r = r := by
  simp [enterStarting, h]

theorem enterStarting_get_self {e : Env} {g : Group} {r : Rt} (h : startingNow e r g = true) :
    (enterStarting e g r).groups.get g =
      { r.groups.get g with state := .starting, startingDue := (r.groups.get g).pendingGreen } := by
  simp [enterStarting, h, updGroup_get]

theorem enterGreen_of_not_due {e : Env} {g : Group} {r : Rt} (h : greenNow e r g = none) : enterGreen e g r = r := by
  simp [enterGreen, h]

theorem enterGreen_get_self {e : Env} {g : Group} {r : Rt} {t : Time} (h : greenNow e r g = some t) :
    (enterGreen e g r).groups.get g = (r.groups.get g).enterGreen t (e.tab.minGreen g) := by
  simp [enterGreen, h, updGroup_get]

/-- A green-start order for RA from now on: STARTING at once, or GREEN at once without a starting time (R9, R10). -/
theorem takeGreenStart_now {e : Env} {g : Group} {r : Rt} (hs : (r.groups.get g).state = .rest)
    (hp : (r.groups.get g).pendingGreen = none) (hr : e.tab.ra g ≤ 36000) :
    (takeGreenStart e g (after e.now (e.tab.ra g)) r).groups.get g =
      if 0 < e.tab.ra g then { r.groups.get g with
        state := .starting, pendingGreen := some (after e.now (e.tab.ra g)), startingDue := some (after e.now (e.tab.ra g)) }
      else GroupRec.enterGreen (after e.now (e.tab.ra g)) (e.tab.minGreen g) (r.groups.get g) := by
  have reach := reached_after (now := e.now) hr
  have order : takeGreenStart e g (after e.now (e.tab.ra g)) r =
      enterGreen e g (enterStarting e g (updGroup g (fun x => { x with pendingGreen := some (after e.now (e.tab.ra g)) }) r)) := by
    simp [takeGreenStart, hs, hp]
  rw [order]
  generalize hu : updGroup g (fun x => { x with pendingGreen := some (after e.now (e.tab.ra g)) }) r = u
  have ordered : u.groups.get g = { r.groups.get g with pendingGreen := some (after e.now (e.tab.ra g)) } := by
    simp [← hu, updGroup_get]
  by_cases hra : 0 < e.tab.ra g
  · have starting : startingNow e u g = true := by simp [startingNow, ordered, hs, hra, before_after, reached_self]
    have state := enterStarting_get_self starting
    have ahead : greenNow e (enterStarting e g u) g = none := by
      simp [greenNow, state, ordered, reach, Nat.ne_of_gt hra]
    simp [enterGreen_of_not_due ahead, state, ordered, hra]
  · have none_left : e.tab.ra g = 0 := by omega
    have notStarting : startingNow e u g = false := by simp [startingNow, none_left]
    have green : greenNow e u g = some (after e.now (e.tab.ra g)) := by
      simp [greenNow, ordered, hs, none_left, reached_after (now := e.now) (d := 0) (by omega)]
    rw [enterStarting_of_not_due notStarting, enterGreen_get_self green, ordered, if_neg hra]
    rfl

/-! ### The interstage record -/

/-- Fixing a green start leaves the order of the gaining groups and what they wait for, and notes the green start. -/
theorem fixGreen_inter (e : Env) (j : Group) (t : Time) (r : Rt) (k : Interstage) (hk : r.stage.inter = some k) :
    ∃ b, (fixGreen e j t r).stage.inter = some { k with gaining := k.gaining.map fun x =>
      if x.group = j then { x with greenAt := some t, green := x.green || b } else x } := by
  have fixed : ∀ b : Bool, ({ k with gaining := k.gaining.map fun x => if x.group = j then { x with greenAt := some t } else x }
      : Interstage) = { k with gaining := k.gaining.map fun x =>
        if x.group = j then { x with greenAt := some t, green := x.green || false } else x } := by simp
  have green : ∀ (u : Rt), u.stage.inter = some { k with gaining := k.gaining.map fun x =>
      if x.group = j then { x with greenAt := some t } else x } → ∃ b, (enterGreen e j u).stage.inter = some { k with
        gaining := k.gaining.map fun x => if x.group = j then { x with greenAt := some t, green := x.green || b } else x } := by
    intro u hu
    unfold enterGreen
    split
    · refine ⟨true, ?_⟩
      simp [markGreen, hu, Function.comp_def]
      intro x _
      split <;> simp_all
    · exact ⟨false, by simpa using hu⟩
  simp only [fixGreen, takeGreenStart]
  split
  · exact green _ (by simp [hk])
  · exact ⟨false, by simp [hk]⟩


/-- Fixing the green starts of several groups notes each one's own. -/
theorem foldl_fixGreen_inter (e : Env) (t : Group → Time) : ∀ (l : List Group) (r : Rt) (k : Interstage),
    r.stage.inter = some k → ∃ gaining, (l.foldl (fun r g => fixGreen e g (t g) r) r).stage.inter =
        some { k with gaining := gaining } ∧ gaining.map Gaining.group = k.gaining.map Gaining.group ∧
      ∀ x ∈ gaining, ∃ y ∈ k.gaining, x.group = y.group ∧ x.constraining = y.constraining ∧
        x.greenAt = if y.group ∈ l then some (t y.group) else y.greenAt
  | [], r, k, hk => ⟨k.gaining, by simpa using hk, rfl, fun x hx => ⟨x, hx, rfl, rfl, by simp⟩⟩
  | g :: l, r, k, hk => by
    obtain ⟨b, hb⟩ := fixGreen_inter e g (t g) r k hk
    obtain ⟨gaining, inter, groups, each⟩ := foldl_fixGreen_inter e t l _ _ hb
    refine ⟨gaining, inter, groups.trans ?_, fun x hx => ?_⟩
    · simp only [List.map_map]
      refine List.map_congr_left fun y _ => ?_
      by_cases h : y.group = g <;> simp [h]
    · obtain ⟨y', hy', group, constraining, greenAt⟩ := each x hx
      obtain ⟨y, hy, rfl⟩ := List.mem_map.mp hy'
      refine ⟨y, hy, ?_⟩
      by_cases h : y.group = g
      · simp only [h, if_true] at group constraining greenAt ⊢
        refine ⟨group, constraining, ?_⟩
        simp only [List.mem_cons, true_or, if_true]
        simpa [h] using greenAt
      · simp only [h, if_false] at group constraining greenAt ⊢
        simpa [h] using ⟨group, constraining, greenAt⟩

/-! ### STARTUP_ALL_RED_END (R43, R84) -/

theorem exec_startupAllRedEnd (s : State) (h : phaseOver s.part.env s.part.rt .startup .allRed = true) :
    exec .startupAllRedEnd s = .next (s.withRt (finish s.part.env (firstStart s.part.env s.part.rt))) :=
  whenDue_onPart s .startupAllRedEnd (fun p => p.act firstStart) h

theorem greenSet_nodup (t : Tables) (s : Stage) : (t.greenSet s).Nodup := by
  unfold Tables.greenSet
  split
  · exact allGroups_nodup.filter _
  · exact .nil

/-- The Stage Engine in the first interstage, before its green-start orders. -/
def firstComposed (e : Env) (s : Stage) (r : Rt) : Rt :=
  r.withStage fun u => { u with
    phase := .interstage
    inter := some
      { fromStage := none, toStage := s, t0 := e.now, cause := .first, losing := [], continuing := []
        gaining := (e.tab.greenSet s).map fun g => { group := g, constraining := [] } } }

theorem firstInterstage_eq (e : Env) (s : Stage) (r : Rt) : firstInterstage e s r =
    (e.tab.greenSet s).foldl (fun r g => fixGreen e g (after e.now (e.tab.ra g)) r) (firstComposed e s r) := by
  simp [firstInterstage, firstComposed, List.foldl_map]

/-- The record of a group with a green-start order for RA from now on (R9, R10). -/
def GroupRec.startedNow (e : Env) (g : Group) (x y : GroupRec) : Prop :=
  x.state = .rest → x.pendingGreen = none → e.tab.ra g ≤ 36000 →
    y = if 0 < e.tab.ra g then { x with
        state := .starting, pendingGreen := some (after e.now (e.tab.ra g)), startingDue := some (after e.now (e.tab.ra g)) }
      else x.enterGreen (after e.now (e.tab.ra g)) (e.tab.minGreen g)

/-- The green-start orders of the first interstage reach its gaining groups, and no other group (R9). -/
theorem firstInterstage_get (e : Env) (s : Stage) (r : Rt) :
    (∀ g ∈ e.tab.greenSet s, GroupRec.startedNow e g (r.groups.get g) ((firstInterstage e s r).groups.get g)) ∧
      ∀ g, g ∉ e.tab.greenSet s → (firstInterstage e s r).groups.get g = r.groups.get g := by
  rw [firstInterstage_eq]
  have fixed_ne : ∀ (r : Rt) (g k : Group), g ≠ k → (fixGreen e g (after e.now (e.tab.ra g)) r).groups.get k = r.groups.get k :=
    fun r g k h => takeGreenStart_get_ne e g k _ _ h
  have fixed_self : ∀ (r : Rt) (g : Group), GroupRec.startedNow e g (r.groups.get g)
      ((fixGreen e g (after e.now (e.tab.ra g)) r).groups.get g) := fun r g hs hp hr =>
    takeGreenStart_now (r := r.withStage _) hs hp hr
  exact foldl_get_of_local (fun r g => r.groups.get g) _ (GroupRec.startedNow e) fixed_ne fixed_self _
    (firstComposed e s r) (greenSet_nodup _ _)

theorem firstInterstage_phase (e : Env) (s : Stage) (r : Rt) : (firstInterstage e s r).stage.phase = .interstage := by
  rw [firstInterstage_eq]
  exact foldl_inv (fun r' => r'.stage.phase = .interstage) _ (fun _ _ h => by simpa using h) _ _ rfl

theorem firstStart_eq (e : Env) (r : Rt) (v : StartValues) (hv : r.mode.startValues = some v) :
    firstStart e r = firstInterstage e v.stage (setMode e .startup .firstStart r) := by
  simp [firstStart, setMode_mode, hv]

/-- Settles O52: the first interstage is composed with its gaining groups waiting for none, and the green-start orders follow. -/
theorem startupAllRedEndBeginsFirstInterstage : Obligations.StartupAllRedEndBeginsFirstInterstage := by
  intro s v hover hv
  have starting : s.part.rt.mode.mode = .startup := by simp [phaseOver] at hover; exact hover.1.1
  obtain ⟨started, others⟩ := firstInterstage_get s.part.env v.stage (setMode s.part.env .startup .firstStart s.part.rt)
  obtain ⟨gaining, inter, groups, each⟩ := foldl_fixGreen_inter s.part.env (fun g => after s.part.env.now (s.part.env.tab.ra g))
    (s.part.env.tab.greenSet v.stage) (firstComposed s.part.env v.stage (setMode s.part.env .startup .firstStart s.part.rt)) _ rfl
  rw [← firstInterstage_eq] at inter
  refine ⟨_, _, by rw [exec_startupAllRedEnd s hover, firstStart_eq _ _ v hv],
    by simp [setMode_mode, starting], firstInterstage_phase _ _ _, inter, rfl, rfl, rfl, rfl, rfl, rfl, ?_, fun x hx => ?_,
    fun g hg x tj hxeq htj hs hp hr => ?_, fun g hg => by simpa using others g hg⟩
  · simpa [Function.comp_def] using groups
  · obtain ⟨y, hy, group, constraining, greenAt⟩ := each x hx
    obtain ⟨g, hg, rfl⟩ := List.mem_map.mp hy
    exact ⟨constraining, by rw [greenAt, if_pos hg, group]; rfl⟩
  · have record := started g hg (by simpa [← hxeq] using hs) (by simpa [← hxeq] using hp) hr
    refine ⟨fun hra => ?_, fun hra => ?_⟩
    · rw [record, if_pos hra]; simp [hxeq, htj, after]
    · rw [record, if_neg (by omega)]; simp [GroupRec.enterGreen, hxeq, htj, after]

end Sys2Proof.Machine

/-! SUPPORT. Proofs of the statements of the family 01_signal_groups_and_their_aspects: the moments of a group and the start of
the stage that they complete. -/

namespace Sys2Proof.Machine

/-! ### What a group that enters GREEN brings about (R10, R119, R142) -/

theorem updDemand_get (g k : Group) (f : DemandRec → DemandRec) (r : Rt) :
    (updDemand g f r).demand.groups.get k = if g = k then f (r.demand.groups.get k) else r.demand.groups.get k := by
  simp [updDemand, upd_get]

/-- A group that enters GREEN has no demand left (R119). -/
theorem demandGreen_hasDemand (e : Env) (g : Group) (r : Rt) : hasDemand (demandGreen e g r) g = false := by
  have assigns : ∀ (l : List (Assign × AssignEntry)) (u : Rt), (l.foldl (fun r (a, _) =>
      updAssign a (fun y => { y with delayDue := none, giving := false }) r) u).demand.groups = u.demand.groups :=
    fun l u => foldl_inv (fun u' => u'.demand.groups = u.demand.groups) _ (fun _ _ h => by simpa using h) l u rfl
  simp only [demandGreen]
  split <;> simp [hasDemand, assigns, updDemand_get]

/-- The record of a tram whose group has entered GREEN (R142). -/
def TramRec.greened (g : Group) (x : TramRec) : TramRec :=
  if x.group = g ∧ x.state ≠ .atStop then { x with greenGiven := true } else x

theorem TramRec.greened_group (g : Group) (x : TramRec) : (x.greened g).group = x.group := by
  unfold TramRec.greened; split <;> rfl

theorem TramRec.greened_state (g : Group) (x : TramRec) : (x.greened g).state = x.state := by
  unfold TramRec.greened; split <;> rfl

theorem TramRec.greened_greenGiven (g : Group) (x : TramRec) (hg : x.group = g) (hs : x.state ≠ .atStop) :
    (x.greened g).greenGiven = true := by
  simp [TramRec.greened, hg, hs]

theorem tramGreen_get (e : Env) (g : Group) (r : Rt) (k : TramSlot) :
    (tramGreen e g r).trams.get k = (r.trams.get k).map (TramRec.greened g) := by
  rw [tramGreen, foldl_get_of_step (fun r s => r.trams.get s) _ (fun _ x => x.map (TramRec.greened g)) (fun r s j => ?_)
    allTramSlots r k (List.nodup_finRange 8)]
  · simp [allTramSlots]
  · cases hs : r.tram s with
    | none =>
      have empty : r.trams.get s = none := hs
      by_cases hj : s = j
      · subst hj; simp [empty]
      · simp [hj]
    | some x =>
      have there : r.trams.get s = some x := hs
      by_cases hc : x.group = g ∧ x.state ≠ .atStop ∧ x.greenGiven = false
      · by_cases hj : s = j
        · subst hj; simp [hc, setTram, there, TramRec.greened]
        · simp [hc, setTram, upd_get, hj]
      · have same : x.greened g = x := by
          unfold TramRec.greened
          split
          · next h =>
            have given : x.greenGiven = true := by simpa [h] using hc
            rw [← given]
          · rfl
        simp only [hc, if_false]
        by_cases hj : s = j
        · subst hj; simp [there, same]
        · simp [hj]

/-- A group has entered GREEN at `t`: its record (R10). -/
def greenEntered (e : Env) (g : Group) (t : Time) (r : Rt) : Rt := updGroup g (GroupRec.enterGreen t (e.tab.minGreen g)) r

theorem enterGreen_eq {e : Env} {g : Group} {r : Rt} {t : Time} (h : greenNow e r g = some t) :
    enterGreen e g r = markGreen g (recomputeOffers e (tramGreen e g (demandGreen e g
      (groupFrame e g (greenEntered e g t r))))) := by
  simp [enterGreen, h, greenEntered]

/-- A group has entered STARTING: its record (R9). -/
def startingEntered (g : Group) (r : Rt) : Rt :=
  updGroup g (fun x => { x with state := .starting, startingDue := x.pendingGreen }) r

theorem enterStarting_eq {e : Env} {g : Group} {r : Rt} (h : startingNow e r g = true) :
    enterStarting e g r = groupFrame e g (startingEntered g r) := by
  simp [enterStarting, h, startingEntered]

/-! ### The commands of a group's moments -/

theorem exec_groupEnterStarting (s : State) (g : Group) (h : startingNow s.part.env s.part.rt g = true) :
    exec (.groupEnterStarting g) s = .next (s.withRt (takeFaults s.part.env (enterStarting s.part.env g s.part.rt))) :=
  whenDue_onPart s (.groupEnterStarting g) (fun p => p.actQuiet fun e r => enterStarting e g r) h

theorem exec_groupEnterGreen (s : State) (g : Group) (t : Time) (h : greenNow s.part.env s.part.rt g = some t) :
    exec (.groupEnterGreen g) s = .next (s.withRt (finish s.part.env (enterGreen s.part.env g s.part.rt))) :=
  whenDue_onPart s (.groupEnterGreen g) (fun p => p.act fun e r => enterGreen e g r) (by simp [timeDue, h])

theorem exec_minGreenMet (s : State) (g : Group) (hs : (s.part.rt.groups.get g).state = .green)
    (hd : isDue s.part.env.now (s.part.rt.groups.get g).minGreenDue = true) :
    exec (.minGreenMet g) s = .next (s.withRt (minGreenRun s.part.env g s.part.rt)) :=
  whenDue_onPart s (.minGreenMet g) (fun p => p.onRt fun e r => minGreenRun e g r) (by simp [timeDue, hs, hd])

/-- A group enters STARTING (R9): its record, its aspect handed on, and nothing else. -/
theorem enterStarting_moment (e : Env) (g : Group) (r : Rt) (h : startingNow e r g = true) :
    let u := enterStarting e g r
    let x := r.groups.get g
    u.groups.get g = { x with state := .starting, startingDue := x.pendingGreen } ∧ handsAspect e r u g ∧
      (∀ k : Group, k ≠ g → u.groups.get k = r.groups.get k) ∧ u.mode = r.mode ∧ u.stage = r.stage ∧ u.demand = r.demand := by
  refine ⟨enterStarting_get_self h, ?_, fun k hk => enterStarting_get_ne e g k r hk.symm, by simp, by simp, by simp⟩
  rw [enterStarting_eq h]
  exact groupFrame_handsAspect (r₁ := startingEntered g r) rfl rfl rfl (by simp) rfl rfl

/-- A group enters GREEN (R10): its record, its aspect handed on, no demand left, and green given to its trams. -/
theorem enterGreen_moment (e : Env) (g : Group) (r : Rt) (t : Time) (h : greenNow e r g = some t) :
    let u := enterGreen e g r
    u.groups.get g = (r.groups.get g).enterGreen t (e.tab.minGreen g) ∧ handsAspect e r u g ∧
      (∀ k : Group, k ≠ g → u.groups.get k = r.groups.get k) ∧ u.mode = r.mode ∧ hasDemand u g = false ∧
      ∀ k y, u.trams.get k = some y → y.group = g → y.state ≠ .atStop → y.greenGiven = true := by
  refine ⟨enterGreen_get_self h, ?_, fun k hk => enterGreen_get_ne e g k r hk.symm, by simp, ?_, fun k y hy hg hs => ?_⟩
  · rw [enterGreen_eq h]
    exact groupFrame_handsAspect (r₁ := greenEntered e g t r) rfl rfl rfl (by simp) (by simp) (by simp)
  · rw [enterGreen_eq h]
    simpa [hasDemand] using demandGreen_hasDemand e g (groupFrame e g (greenEntered e g t r))
  · rw [enterGreen_eq h] at hy
    obtain ⟨x, -, rfl⟩ : ∃ x, _ ∧ TramRec.greened g x = y := by simpa [tramGreen_get] using hy
    rw [TramRec.greened_group] at hg
    rw [TramRec.greened_state] at hs
    exact x.greened_greenGiven g hg hs

/-- Min green has run (R11): the record alone changes. -/
theorem minGreenRun_moment (e : Env) (g : Group) (r : Rt) (hs : (r.groups.get g).state = .green)
    (hd : isDue e.now (r.groups.get g).minGreenDue = true) :
    minGreenRun e g r = { r with groups := upd r.groups g fun x => { x with minMet := true, minGreenDue := none } } := by
  simp [minGreenRun, hs, hd, updGroup, Rt.withGroups]

/-- A group's clearing has run (R13): its record, its aspect handed on, and the interstage's note of it. -/
theorem clearingEnd_moment (e : Env) (g : Group) (r : Rt) :
    let u := markRest g (groupFrame e g (restEntered g r))
    u.groups.get g = { r.groups.get g with state := .rest, clearingDue := none } ∧ handsAspect e r u g ∧
      (∀ k : Group, k ≠ g → u.groups.get k = r.groups.get k) ∧ u.mode = r.mode ∧ u.demand = r.demand ∧
      u.stage = { r.stage with inter := u.stage.inter } := by
  refine ⟨by simp [restEntered_get], ?_, fun k hk => by simp [restEntered_get, hk.symm], by simp, by simp, by simp [markRest]⟩
  exact groupFrame_handsAspect (r₁ := restEntered g r) rfl rfl rfl (by simp) (by simp) (by simp)

end Sys2Proof.Machine

/-! SUPPORT. Proofs of the statements of the family 01_signal_groups_and_their_aspects: the start of the stage that a group's
moment completes. -/

namespace Sys2Proof.Machine

/-! ### Min-end (R68) -/

/-- The moments that bound the min-end of a stage that starts now (R68): its own minimum, and the min greens that run. -/
def minEndTimes (e : Env) (groups : Vector GroupRec 24) (s : Stage) (l : List Group) : List Time :=
  after e.now (e.tab.minStage s) :: l.filterMap fun g =>
    (groups.get g).greenStart.bind fun t =>
      if e.tab.minGreen g ≤ (e.now - t).toNat then none else some (t + BitVec.ofNat 32 (e.tab.minGreen g))

/-- A running maximum of moments is one of them, and none is later. -/
theorem foldl_laterOf (now : Time) (f : Group → Option Time) : ∀ (l : List Group) (m : Time),
    let u := l.foldl (fun m g => match f g with | some t => laterOf now m t | none => m) m
    u ∈ m :: l.filterMap f ∧ ∀ t ∈ m :: l.filterMap f, back now u ≤ back now t
  | [], m => by simp
  | g :: l, m => by
    cases hf : f g with
    | none => simpa [hf] using foldl_laterOf now f l m
    | some t =>
      obtain ⟨mem, least⟩ := foldl_laterOf now f l (laterOf now m t)
      have later := least _ (List.mem_cons_self ..)
      rw [back_laterOf] at later
      simp only [List.foldl_cons, hf, List.filterMap_cons]
      refine ⟨?_, fun y hy => ?_⟩
      · rcases List.mem_cons.mp mem with h | h
        · rw [h]; rcases laterOf_eq_or now m t with h | h <;> simp [h]
        · exact List.mem_cons_of_mem _ (List.mem_cons_of_mem _ h)
      · rcases List.mem_cons.mp hy with rfl | hy
        · omega
        · rcases List.mem_cons.mp hy with rfl | hy
          · omega
          · exact least y (List.mem_cons_of_mem _ hy)

/-- The min-end is the latest of the moments that bound it (R68). -/
theorem minEndOf_spec (e : Env) (r : Rt) (s : Stage) :
    minEndOf e r s ∈ minEndTimes e r.groups s (e.tab.greenSet s) ∧
      ∀ t ∈ minEndTimes e r.groups s (e.tab.greenSet s), back e.now (minEndOf e r s) ≤ back e.now t := by
  have fold : minEndOf e r s = (e.tab.greenSet s).foldl (fun m g =>
      match (r.groups.get g).greenStart.bind fun t =>
          if e.tab.minGreen g ≤ (e.now - t).toNat then none else some (t + BitVec.ofNat 32 (e.tab.minGreen g)) with
      | some t => laterOf e.now m t
      | none => m) (after e.now (e.tab.minStage s)) := by
    unfold minEndOf
    congr 1
    funext m g
    cases (r.groups.get g).greenStart with
    | none => rfl
    | some t => by_cases h : e.tab.minGreen g ≤ (e.now - t).toNat <;> simp [elapsed, h, after, -BitVec.toNat_sub]
  rw [fold]
  exact foldl_laterOf e.now _ _ _

/-- A minimum with time to run has not been reached. -/
theorem minEndOf_ahead {e : Env} {r : Rt} {s : Stage} (h0 : 0 < e.tab.minStage s) (h1 : e.tab.minStage s ≤ 36000) :
    reached e.now (minEndOf e r s) = false := by
  have bound := (minEndOf_spec e r s).2 _ (List.mem_cons_self ..)
  have ahead := reached_after (now := e.now) h1
  simp only [reached, decide_eq_false_iff_not, decide_eq_decide] at ahead ⊢
  omega

/-! ### The start of a stage (R65, R67) -/

theorem setGapTimes_get (v : Vector Nat 24) (r : Rt) (g : Group) :
    (setGapTimes v r).demand.groups.get g = { r.demand.groups.get g with gapTime := v.get g } := by
  rw [setGapTimes, foldl_get_of_step (fun r g => r.demand.groups.get g) _ (fun g d => { d with gapTime := v.get g })
    (fun r g k => ?_) allGroups r g allGroups_nodup]
  · simp
  · rw [updDemand_get]
    split
    · next h => subst h; rfl
    · rfl

theorem minEndOf_congr {e : Env} {r r' : Rt} (s : Stage) (h : r'.groups = r.groups) : minEndOf e r' s = minEndOf e r s := by
  simp [minEndOf, h]

/-- The blocks once the stage of a completed interstage has been entered, before the notices of it. -/
def stageEntered (e : Env) (k : Interstage) (r : Rt) : Rt :=
  (post e .stageStart (stageByte k.toStage) (enc1 k.cause.code) ((takePlan e k.toStage r).withStage fun s => { s with
    inter := none
    current := some { stage := k.toStage, start := e.now, minEnd := minEndOf e (takePlan e k.toStage r) k.toStage }
    phase := if reached e.now (minEndOf e (takePlan e k.toStage r) k.toStage) then .stageRun else .stageMin })).withPriority
      fun p => { p with extensionNoted := false }

theorem stageStart_eq (e : Env) (k : Interstage) (r : Rt) : stageStart e k r = recomputeOffers e
    (if (stageEntered e k r).mode.mode = .startup then setMode e .running .none (stageEntered e k r)
      else stageEntered e k r) := rfl

theorem stageEntered_mode (e : Env) (k : Interstage) (r : Rt) : (stageEntered e k r).mode = r.mode := by
  simp [stageEntered]

/-- The first stage's RUNNING touches the mode, the offers and the report alone (R43). -/
theorem setMode_running (e : Env) (r : Rt) (h : r.mode.mode ≠ .dark) :
    setMode e .running .none r = recomputeOffers e (modeNoticed e .running .none r) := by
  have notice : stageNotice (modeNoticed e .running .none r) = modeNoticed e .running .none r := by simp [stageNotice]
  rw [setMode_service e _ _ r h (.inl rfl), notice]

/-- A stage start in RUNNING is `stageEntered`, and in STARTUP RUNNING is entered with it; the offers are read anew. -/
theorem stageStart_cases (e : Env) (k : Interstage) (r : Rt) (h : r.mode.mode = .running ∨ r.mode.mode = .startup) :
    stageStart e k r = recomputeOffers e (stageEntered e k r) ∧ r.mode.mode = .running ∨
    stageStart e k r = recomputeOffers e (recomputeOffers e (modeNoticed e .running .none (stageEntered e k r))) ∧
      r.mode.mode = .startup := by
  rw [stageStart_eq, stageEntered_mode]
  rcases h with h | h
  · exact .inl ⟨by simp [h], h⟩
  · exact .inr ⟨by rw [if_pos h, setMode_running e _ (by simp [stageEntered_mode, h])], h⟩

theorem takePlan_of_plan {e : Env} {s : Stage} {r : Rt} {p : PlanEntry} (h : e.tab.plans.get r.stage.activePlan = some p) :
    takePlan e s r = setGapTimes p.gapTime (r.withStage fun u => { u with
      taken := some p.taken, position := nextPosition p.sequence s u.position }) := by
  simp [takePlan, h]


/-- What the start of a stage leaves of the blocks (R65, R67), under a loaded plan and a minimum with time to run. -/
theorem stageEntered_values {e : Env} {k : Interstage} {r : Rt} {p : PlanEntry}
    (hplan : e.tab.plans.get r.stage.activePlan = some p) (h0 : 0 < e.tab.minStage k.toStage)
    (h1 : e.tab.minStage k.toStage ≤ 36000) :
    let u := stageEntered e k r
    u.stage = { r.stage with
        phase := .stageMin, inter := none, current := some { stage := k.toStage, start := e.now, minEnd := minEndOf e r k.toStage }
        taken := some p.taken, position := nextPosition p.sequence k.toStage r.stage.position } ∧
      (∀ g : Group, (u.demand.groups.get g).gapTime = p.gapTime.get g) ∧
      u.report.summary = r.report.summary ||| 4#21 ∧ u.priority.extensionNoted = false := by
  have plan := takePlan_of_plan (s := k.toStage) hplan
  have ahead := minEndOf_ahead (r := r) h0 h1
  have minEnd := minEndOf_congr (e := e) (r := r) (r' := takePlan e k.toStage r) k.toStage (by simp)
  refine ⟨by simp [stageEntered, minEnd, ahead]; simp [plan], fun g => by simp [stageEntered, plan, setGapTimes_get], ?_, by simp [stageEntered]⟩
  simp [stageEntered, post_summary]
  rfl

/-- The start of a stage after its notices: the mode of RUNNING when it is the first (R43), the offers read anew, and the rest
as the stage was entered. -/
theorem stageStart_values {e : Env} {k : Interstage} {r : Rt} (h : r.mode.mode = .running ∨ r.mode.mode = .startup) :
    let u := stageStart e k r
    let w := stageEntered e k r
    u.stage = w.stage ∧ u.demand = w.demand ∧ u.groups = r.groups ∧ u.trams = r.trams ∧ u.notices = r.notices ∧
      u.monitor = r.monitor ∧ u.priority.extensionNoted = w.priority.extensionNoted ∧
      (r.mode.mode = .running → u.mode = r.mode ∧ u.report = w.report) ∧
      (r.mode.mode = .startup → u.mode = { r.mode with mode := .running, sub := .none, phaseDue := none } ∧
        u.report.summary = w.report.summary ||| 1#21) := by
  rcases stageStart_cases e k r h with ⟨start, hm⟩ | ⟨start, hm⟩ <;> rw [start] <;>
    simp [hm, stageEntered, modeNoticed_summary]

/-! ### The reading of conditions at a stage start -/

/-- What the max-green check leaves of a stage record (R69). -/
def StageRec.timed (e : Env) (r : Rt) (c : StageRec) : StageRec :=
  { c with maxOut := if c.maxOut.isNone && demandOutside e r then some (maxOutMoment e r c) else c.maxOut }

theorem maxGreenCheck_current {e : Env} {r : Rt} {c : StageRec} (hp : r.inStagePhase = true) (hc : r.stage.current = some c) :
    (maxGreenCheck e r).stage.current = some (c.timed e r) := by
  unfold maxGreenCheck StageRec.timed
  simp only [hc, hp, Bool.true_and]
  split
  · simp
  · exact hc

/-- While a stage goes on, a reading of the conditions keeps its record but for the max-green timer and the reading of
gap-out. -/
theorem noteGap_maxGreenCheck_current {e : Env} {r : Rt} {c : StageRec} (hp : r.inStagePhase = true)
    (hc : r.stage.current = some c) :
    let u := noteGap e (maxGreenCheck e r)
    u.stage.current = some { c.timed e r with gap := u.stage.current.bind StageRec.gap } := by
  have phase : (maxGreenCheck e r).inStagePhase = true := by simpa [Rt.inStagePhase] using hp
  rw [noteGap_run e _ _ phase (maxGreenCheck_current hp hc)]
  rfl

/-- A command's end where the interstage is complete starts its stage (R67), which then goes on. -/
theorem finish_complete {e : Env} {r : Rt} {k : Interstage} (hn : r.notices = []) (hp : r.stage.phase = .interstage)
    (hi : r.stage.inter = some k) (hc : k.complete = true) (hs : (stageStart e k r).still e = true) :
    finish e r = noteGap e (maxGreenCheck e (stageStart e k r)) := by
  have outside : r.inStagePhase = false := by simp [Rt.inStagePhase, hp]
  have eval : stageEval e r = (stageStart e k r, true) := by simp [stageEval, hp, hi, hc]
  have settled := stageEval_still e _ (maxGreenCheck_still e _ hs)
  simp only [finish, takeFaults_nil e r hn, Config.stageFuel, settleFor, maxGreenCheck_outside_stage e r outside, eval, settled]
  exact takeFaults_nil e _ (by simpa using Rt.still_notices e _ hs)

theorem demandOutside_congr {e : Env} {r r' : Rt} (hd : r'.demand = r.demand) (hc : r'.currentStage = r.currentStage) :
    demandOutside e r' = demandOutside e r := by
  simp [demandOutside, hasDemand, hd, hc]

/-- Settling into the stage that a completed interstage leads to (R65 to R69). -/
theorem stageStarted_of_complete {e : Env} {r : Rt} {k : Interstage} {p : PlanEntry} (hn : r.notices = [])
    (hp : r.stage.phase = .interstage) (hi : r.stage.inter = some k) (hc : k.complete = true)
    (hm : r.mode.mode = .running ∨ r.mode.mode = .startup) (hplan : e.tab.plans.get r.stage.activePlan = some p)
    (h0 : 0 < e.tab.minStage k.toStage) (h1 : e.tab.minStage k.toStage ≤ 36000) :
    let t := finish e r
    stageStarted e r t k p ∧ t.groups = r.groups ∧ t.trams = r.trams ∧ (r.mode.mode = .running → t.mode = r.mode) ∧
      (r.mode.mode = .startup → t.mode = { r.mode with mode := .running, sub := .none, phaseDue := none } ∧
        t.report.summary.getLsbD 0 = true) := by
  obtain ⟨entered, gaps, summary, unnoted⟩ := stageEntered_values hplan h0 h1
  obtain ⟨stage, demand, groups, trams, notices, -, noted, running, startup⟩ := stageStart_values (e := e) (k := k) hm
  obtain ⟨minMem, minLeast⟩ := minEndOf_spec e r k.toStage
  have stage := stage.trans entered
  have still : (stageStart e k r).still e = true := by simp [Rt.still, notices, hn, stage]
  have phase : (stageStart e k r).inStagePhase = true := by simp [Rt.inStagePhase, stage]
  have current := noteGap_maxGreenCheck_current (e := e) phase (by rw [stage])
  rw [finish_complete hn hp hi hc still]
  have summary2 : (stageStart e k r).report.summary.getLsbD 2 = true := by
    rcases hm with h | h
    · rw [(running h).2, summary]; simp
    · rw [(startup h).2, summary]; simp
  have outside : demandOutside e (noteGap e (maxGreenCheck e (stageStart e k r))) = demandOutside e (stageStart e k r) :=
    demandOutside_congr (by simp) (by rw [Rt.currentStage, current]; simp [Rt.currentStage, stage, StageRec.timed])
  have moment : maxOutMoment e (stageStart e k r) { stage := k.toStage, start := e.now, minEnd := minEndOf e r k.toStage } =
      laterOf e.now (e.now + BitVec.ofNat 32 (max (p.maxGreen.get k.toStage) (e.tab.minStage k.toStage)))
        (minEndOf e r k.toStage) := by
    simp [maxOutMoment, stage, PlanEntry.taken, after]
  refine ⟨⟨by simp [stage], by simp [stage], by simp [noted, unnoted], by simp [stage, PlanEntry.taken],
    fun g => by simp [demand, gaps], by simp [stage, nextPosition], ⟨minEndOf e r k.toStage, ?_, ?_⟩, by simp [stage],
    by simp [stage], by simp [stage], by simpa using summary2⟩, by simp, by simp [trams],
    fun h => by simp [(running h).1], fun h => ⟨by simp [(startup h).1], by simp [(startup h).2]⟩⟩
  · rw [outside, ← moment]
    simpa [StageRec.timed] using current
  · have same : (noteGap e (maxGreenCheck e (stageStart e k r))).groups = r.groups := by simp
    rw [same]
    exact ⟨minMem, minLeast⟩


/-! ### The moments that complete an interstage (R82) -/

theorem stageStarted_congr {e : Env} {r0 r0' r : Rt} {k k' : Interstage} {p : PlanEntry} (hk : k'.toStage = k.toStage)
    (hs : r0'.stage = { r0.stage with inter := r0'.stage.inter }) (h : stageStarted e r0' r k' p) : stageStarted e r0 r k p := by
  unfold stageStarted at *
  rw [hs, hk] at h
  exact h

theorem complete_iff {k : Interstage} : k.complete = true ↔ (∀ x ∈ k.gaining, x.green = true) ∧ ∀ x ∈ k.losing, x.rest = true := by
  simp [Interstage.complete]

/-- The interstage once a losing group has reached REST (R82). -/
def Interstage.noteRest (g : Group) (k : Interstage) : Interstage :=
  { k with losing := k.losing.map fun x => if x.group = g then { x with rest := true } else x }

/-- The interstage once a gaining group has reached GREEN (R82). -/
def Interstage.noteGreen (g : Group) (k : Interstage) : Interstage :=
  { k with gaining := k.gaining.map fun x => if x.group = g then { x with green := true } else x }

theorem markRest_stage (g : Group) (r : Rt) :
    (markRest g r).stage = { r.stage with inter := r.stage.inter.map (Interstage.noteRest g) } := rfl

theorem markGreen_stage (g : Group) (r : Rt) :
    (markGreen g r).stage = { r.stage with inter := r.stage.inter.map (Interstage.noteGreen g) } := rfl

theorem noteRest_complete {g : Group} {k : Interstage} (hg : ∀ x ∈ k.gaining, x.green = true)
    (hl : ∀ x ∈ k.losing, x.group ≠ g → x.rest = true) : (k.noteRest g).complete = true := by
  refine complete_iff.mpr ⟨hg, fun x hx => ?_⟩
  obtain ⟨y, hy, rfl⟩ := List.mem_map.mp hx
  by_cases h : y.group = g
  · simp [h]
  · simpa [h] using hl y hy h

theorem noteGreen_complete {g : Group} {k : Interstage} (hl : k.losing = []) (hg : ∀ x ∈ k.gaining, x.group ≠ g → x.green = true) :
    (k.noteGreen g).complete = true := by
  refine complete_iff.mpr ⟨fun x hx => ?_, by simp [Interstage.noteGreen, hl]⟩
  obtain ⟨y, hy, rfl⟩ := List.mem_map.mp hx
  by_cases h : y.group = g
  · simp [h]
  · simpa [h] using hg y hy h

theorem restEntered_follows {e : Env} {g : Group} {r : Rt} (h : r.follows e) : (restEntered g r).follows e := by
  intro k hk hc
  by_cases hg : g = k
  · have dull := aspectOf_rest_dull (e.tab.gtype k)
    simp only [groupAspect, restEntered_get, hg, if_true] at hc
    exact absurd hc (not_or.mpr dull)
  · have same : groupAspect e (restEntered g r) k = groupAspect e r k := by simp [groupAspect, restEntered_get, hg]
    rw [same] at hc ⊢
    simpa using h k hk hc

/-- A frame of a group's module that the Monitor passes hands no fault notice. -/
theorem groupFrame_notices_of_passed {e : Env} {g : Group} {r : Rt} (h : ∀ m, e.tab.slotOf g = some m →
    monitorCheck e r ⟨m.addr, slotAspects e r m.addr, r.lamp.brightness⟩ = none) :
    (groupFrame e g r).notices = r.notices := by
  unfold groupFrame
  split
  · next m hm => simp [frameModule, handFrame_passed (h m hm)]
  · rfl

/-- Settles O53: the four moments, and the two that complete the interstage and start its stage. -/
theorem groupMoments : Obligations.GroupMoments := by
  refine ⟨fun s g => ⟨fun h => ?_, fun tj h => ?_, fun hs hd => ?_, fun hs hd => ?_⟩, fun s g k p => ?_, fun s g k p tj u1 => ?_⟩
  · exact ⟨_, exec_groupEnterStarting s g h, enterStarting_moment _ g _ h⟩
  · exact ⟨_, exec_groupEnterGreen s g tj h, enterGreen_moment _ g _ tj h⟩
  · refine ⟨_, by rw [exec_minGreenMet s g hs hd, minGreenRun_moment _ g _ hs hd], by simp, fun k hk => upd_get_ne _ _ _ _ hk⟩
  · exact ⟨_, exec_clearingEnd s g hs hd, clearingEnd_moment _ g _⟩
  · intro e u hm hn hp hi hs hd hg hl hf hplan h0 h1
    have notices : (groupFrame e g (restEntered g u)).notices = [] :=
      (groupFrame_follows (restEntered_follows hf)).2.trans (by simpa using hn)
    obtain ⟨started, groups, trams, mode, -⟩ := stageStarted_of_complete (e := e)
      (r := markRest g (groupFrame e g (restEntered g u))) (k := k.noteRest g) (p := p) (by simp [notices])
      (by simp [u, hp]) (by simp [markRest_stage, u, hi]) (noteRest_complete hg hl) (.inl (by simp [u, hm])) (by simpa using hplan) h0 h1
    refine ⟨_, exec_clearingEnd s g hs hd, rfl, rfl, stageStarted_congr rfl (by simp [markRest_stage]) started, ?_, ?_, ?_, ?_⟩
    · exact (mode (by simp [u, hm])).trans (by simp)
    · rw [groups]; simp [restEntered_get, u]
    · intro i hi; rw [groups]; simp [restEntered_get, hi.symm, u]
    · rw [trams]; simp
  · intro e u hm _ hn hp hi hl hg ht hu1 hcheck hplan h0 h1
    have moved : greenEntered e g tj u = u1 := by simp [greenEntered, updGroup, Rt.withGroups, hu1]
    have enter := enterGreen_eq ht
    rw [moved] at enter
    have notices : (enterGreen e g u).notices = [] := by
      have passed : (groupFrame e g u1).notices = u1.notices := groupFrame_notices_of_passed (by simpa [hu1] using hcheck)
      have same : u1.notices = u.notices := by simp [hu1]
      rw [enter]
      simp [passed, same, hn]
    have stage : (enterGreen e g u).stage = { u.stage with inter := u.stage.inter.map (Interstage.noteGreen g) } := by
      rw [enter]; simp [markGreen_stage, hu1]
    obtain ⟨started, groups, -, -, mode⟩ := stageStarted_of_complete (e := e)
      (r := enterGreen e g u) (k := k.noteGreen g) (p := p) notices
      (by rw [stage]; exact hp) (by rw [stage, hi]; rfl) (noteGreen_complete hl hg) (.inr (by simp [hm])) (by rw [stage]; exact hplan)
      h0 h1
    obtain ⟨mode, summary⟩ := mode (by simp [hm])
    refine ⟨_, exec_groupEnterGreen s g tj ht, rfl, rfl, stageStarted_congr rfl (by simp [stage]) started, ?_, ?_, summary⟩
    · exact mode.trans (by simp)
    · rw [groups, enter]; simp

end Sys2Proof.Machine

/-! SUPPORT. Proofs of the statements of the family 01_signal_groups_and_their_aspects: a TABLE_WRITE of a group. -/

namespace Sys2Proof.Machine

/-! ### Delivered table writes (R188, R189) -/

/-- A delivered TABLE_WRITE of its table's length is answered with what its owner does after its arrival. -/
theorem writeFrame_delivered (s : State) (h : Header) (c len : Nat) (i1 i2 m : Byte) (entry : List Byte)
    (owner : WriteOperand → Owner) (hd : Delivered s.part (h.frame kindTableWrite (b8 c :: i1 :: i2 :: m :: entry)))
    (hl : entry.length = len) :
    let w := owner ⟨i1, i2, m, entry⟩ { s.part with rt := s.part.arrived .head }
    writeFrame h c len (i1 :: i2 :: m :: entry) owner s = .next { s with
      part := { w.1 with rt := answer w.1.env (h.frame kindTableWrite (b8 c :: i1 :: i2 :: m :: entry)) w.2 w.1.rt } } := by
  have operand : writeOperand len (i1 :: i2 :: m :: entry) = some ⟨i1, i2, m, entry⟩ := by simp [writeOperand, hl]
  have length : (lengthIs (3 + len) (i1 :: i2 :: m :: entry)).refusal = none := by
    simp only [lengthIs, List.length_cons, hl]; rw [if_pos (by omega)]
  rw [writeFrame, State.onPart, headFrame_delivered _ _ _ _ hd, length, operand]
  rfl

section
variable {ι α : Type} {safety : Bool} {entry : ι → Option (Option α)} {check : Rt → ι → Option α → Option Inconsistency}
  {store : ι → Option α → Part → Part} {p : Part}

theorem tableOwner_badIndex (h : stagesRun p.rt.mode.mode = false) :
    tableOwner safety none entry check store p = (p, ⟨.badIndex, []⟩) := by
  simp [tableOwner, h]

theorem tableOwner_badEntry {i : ι} (h : stagesRun p.rt.mode.mode = false) (he : entry i = none) :
    tableOwner safety (some i) entry check store p = (p, ⟨.badEntry, []⟩) := by
  simp [tableOwner, h, he]

theorem tableOwner_stores {i : ι} {x : Option α} (h : stagesRun p.rt.mode.mode = false) (he : entry i = some x)
    (hc : check p.rt i x = none) : tableOwner safety (some i) entry check store p = (store i x p, .accepted) := by
  simp [tableOwner, h, he, hc]

end

/-! ### A stored group entry (R2, R8, R164) -/

/-- The environment once a group entry is stored (R2). -/
def groupStored (e : Env) (g : Group) (x : Option GroupEntry) : Env :=
  { e with tab := { e.tab with groups := upd e.tab.groups g fun _ => x } }

/-- The blocks once a group entry is stored, before the frames to the modules that it changes. -/
def groupRemapped (e : Env) (g : Group) (x : Option GroupEntry) (r : Rt) : Rt :=
  let u := remapModules (groupStored e g x) (groupWritten (groupStored e g x) g r)
  monitorUnslotted (groupStored e g x) (if e.tab.mapping g = (groupStored e g x).tab.mapping g then u
    else clearNoted ((groupStored e g x).tab.mapping g) (clearNoted (e.tab.mapping g) u))

theorem storeGroup_eq (g : Group) (x : Option GroupEntry) (p : Part) : storeGroup g x p =
    { env := groupStored p.env g x
      rt := takeFaults (groupStored p.env g x) ((changedModules p.env (groupStored p.env g x) p.rt
        (groupRemapped p.env g x p.rt)).foldl (fun r a => frameModule (groupStored p.env g x) a r)
          (groupRemapped p.env g x p.rt)) } := rfl

/-- Frames keep the modules' addresses, and all that is not theirs. -/
theorem foldl_frameModule_keeps (e : Env) (l : List Byte) (r : Rt) :
    let u := l.foldl (fun r a => frameModule e a r) r
    u.groups = r.groups ∧ u.lamp.modules.map ModuleRec.addr = r.lamp.modules.map ModuleRec.addr ∧ u.mode = r.mode ∧
      u.stage = r.stage ∧ u.demand = r.demand ∧ u.loops = r.loops ∧ u.trams = r.trams ∧ u.priority = r.priority := by
  refine foldl_inv (fun u => u.groups = r.groups ∧ u.lamp.modules.map ModuleRec.addr = r.lamp.modules.map ModuleRec.addr ∧
    u.mode = r.mode ∧ u.stage = r.stage ∧ u.demand = r.demand ∧ u.loops = r.loops ∧ u.trams = r.trams ∧
    u.priority = r.priority) _ (fun u a h => ?_) l r (by simp)
  have addrs : (frameModule e a u).lamp.modules.map ModuleRec.addr = u.lamp.modules.map ModuleRec.addr := by
    unfold frameModule handFrame
    split
    · simp
    · simp [updModule_modules, Function.comp_def, apply_ite ModuleRec.addr, ModuleRec.sent_addr]
  simpa [addrs] using h

theorem clearNoted_addrs (m : Option Mapping) (r : Rt) :
    (clearNoted m r).lamp.modules.map ModuleRec.addr = r.lamp.modules.map ModuleRec.addr := by
  cases m <;> simp [clearNoted, updModule_modules, Function.comp_def, apply_ite ModuleRec.addr]

/-- A stored group entry makes the module records those of the mapped modules (R164). -/
theorem groupRemapped_addrs (e : Env) (g : Group) (x : Option GroupEntry) (r : Rt) :
    (groupRemapped e g x r).lamp.modules.map ModuleRec.addr = (groupStored e g x).tab.mappedModules := by
  have mapped : ∀ u : Rt, (remapModules (groupStored e g x) u).lamp.modules.map ModuleRec.addr =
      (groupStored e g x).tab.mappedModules := fun u => by
    simp only [remapModules, Rt.withLamp_fields, List.map_map]
    conv_rhs => rw [← List.map_id (groupStored e g x).tab.mappedModules]
    refine List.map_congr_left fun a _ => ?_
    cases h : u.lamp.modules.find? fun m => m.addr == a with
    | none => simp [h, newModule]
    | some m => simpa [h] using List.find?_some h
  simp only [groupRemapped, monitorUnslotted_frame]
  split <;> simp [clearNoted_addrs, mapped]


/-- What a stored group entry leaves of the blocks in DARK and FLASH (R8, R164). -/
theorem storeGroup_values (g : Group) (x : Option GroupEntry) (p : Part) (hm : stagesRun p.rt.mode.mode = false) :
    let q := storeGroup g x p
    q.env = groupStored p.env g x ∧
      (∀ k : Group, q.rt.groups.get k = if p.rt.mode.mode = .flash ∧ g = k
        then (p.rt.groups.get g).ordered (flashState q.env.tab g) else p.rt.groups.get k) ∧
      q.rt.lamp.modules.map ModuleRec.addr = q.env.tab.mappedModules ∧ q.rt.mode = p.rt.mode ∧ q.rt.stage = p.rt.stage ∧
      q.rt.demand = p.rt.demand ∧ q.rt.loops = p.rt.loops ∧ q.rt.trams = p.rt.trams ∧ q.rt.priority = p.rt.priority := by
  simp only [storeGroup_eq]
  obtain ⟨groups, addrs, mode, stage, demand, loops, trams, priority⟩ := foldl_frameModule_keeps (groupStored p.env g x)
    (changedModules p.env (groupStored p.env g x) p.rt (groupRemapped p.env g x p.rt)) (groupRemapped p.env g x p.rt)
  have kept : (groupRemapped p.env g x p.rt).mode = p.rt.mode ∧ (groupRemapped p.env g x p.rt).stage = p.rt.stage ∧
      (groupRemapped p.env g x p.rt).demand = p.rt.demand ∧ (groupRemapped p.env g x p.rt).loops = p.rt.loops ∧
      (groupRemapped p.env g x p.rt).trams = p.rt.trams ∧ (groupRemapped p.env g x p.rt).priority = p.rt.priority ∧
      (groupRemapped p.env g x p.rt).groups = (groupWritten (groupStored p.env g x) g p.rt).groups := by
    unfold groupRemapped
    split <;> simp
  obtain ⟨mode', stage', demand', loops', trams', priority', groups'⟩ := kept
  rw [takeFaults_quiet _ _ (by rw [mode, mode', hm])]
  refine ⟨trivial, fun k => ?_, addrs.trans (groupRemapped_addrs _ _ _ _), mode.trans mode', stage.trans stage',
    demand.trans demand', loops.trans loops', trams.trans trams', priority.trans priority'⟩
  rw [← groupWritten_get, ← groups', ← groups]

/-- The part as the owner of a head port command finds it, the frame having arrived. -/
def Part.received (p : Part) : Part := { p with rt := p.arrived .head }

@[simp] theorem Part.received_env (p : Part) : p.received.env = p.env := rfl

@[simp] theorem Part.received_rt (p : Part) : p.received.rt = p.arrived .head := rfl

/-- The owner of a TABLE_WRITE of a group. -/
def groupWriteOwner (own : Byte) (w : WriteOperand) : Owner :=
  tableOwner true (index1Of w.index2 (groupOf w.index1)) (fun _ => markedEntry w (parseGroup own)) noCheck storeGroup

theorem exec_tableWriteGroup_delivered (s : State) (h : Header) (i1 i2 m : Byte) (entry : List Byte)
    (hd : Delivered s.part (h.frame kindTableWrite (0#8 :: i1 :: i2 :: m :: entry))) (hl : entry.length = 9) :
    exec (.tableWriteGroup h (i1 :: i2 :: m :: entry)) s =
      let w := groupWriteOwner s.part.env.own ⟨i1, i2, m, entry⟩ s.part.received
      .next { s with
        part := { w.1 with rt := answer w.1.env (h.frame kindTableWrite (0#8 :: i1 :: i2 :: m :: entry)) w.2 w.1.rt } } :=
  writeFrame_delivered s h 0 9 i1 i2 m entry _ hd hl

/-- In DARK and FLASH the safety tables are not fenced (R23). -/
theorem unfenced_of_dark_or_flash {p : Part} (h : p.rt.mode.mode = .dark ∨ p.rt.mode.mode = .flash) :
    stagesRun p.received.rt.mode.mode = false := by
  rcases h with h | h <;> simp [h, stagesRun]

/-- Settles O36: the refusals are those of a table's owner, and the effect that of `storeGroup`. -/
theorem groupWriteStores : Obligations.GroupWriteStores := by
  refine ⟨fun s h i1 i2 m entry => ?_, fun s h i1 m entry g x tab' => ?_⟩
  · intro e rest f hm hd hl
    have exec_eq := exec_tableWriteGroup_delivered s h i1 i2 m entry hd hl
    refine ⟨fun hi => ?_, fun hg hi he => ?_⟩
    · have index : index1Of i2 (groupOf i1) = none := by rcases hi with hi | hi <;> simp [index1Of, hi]
      have refused : groupWriteOwner e.own ⟨i1, i2, m, entry⟩ s.part.received = (s.part.received, ⟨.badIndex, []⟩) := by
        rw [groupWriteOwner, index, tableOwner_badIndex (unfenced_of_dark_or_flash hm)]
      rw [exec_eq, refused]
      rfl
    · obtain ⟨g, hg⟩ := Option.ne_none_iff_exists'.mp hg
      have index : index1Of i2 (groupOf i1) = some g := by simp [index1Of, hi, hg]
      have refused : groupWriteOwner e.own ⟨i1, i2, m, entry⟩ s.part.received = (s.part.received, ⟨.badEntry, []⟩) := by
        rw [groupWriteOwner, index]
        exact tableOwner_badEntry (unfenced_of_dark_or_flash hm) he
      rw [exec_eq, refused]
      rfl
  · intro e f hm hd hl hg he htab hget
    have index : index1Of 0#8 (groupOf i1) = some g := by simp [index1Of, hg]
    have taken : groupWriteOwner e.own ⟨i1, 0#8, m, entry⟩ s.part.received = (storeGroup g x s.part.received, .accepted) := by
      rw [groupWriteOwner, index]
      exact tableOwner_stores (unfenced_of_dark_or_flash hm) he rfl
    have groups : tab'.groups = upd e.tab.groups g fun _ => x := Vector.ext fun k hk => by
      refine (hget ⟨k, hk⟩).trans (.trans ?_ (upd_get e.tab.groups g ⟨k, hk⟩ fun _ => x).symm)
      simp only [eq_comm]
    have stored : groupStored e g x = { e with tab := tab' } := by rw [htab, groups]; rfl
    obtain ⟨env, states, addrs, mode, stage, demand, loops, trams, priority⟩ :=
      storeGroup_values g x s.part.received (unfenced_of_dark_or_flash hm)
    have env := env.trans stored
    refine ⟨(storeGroup g x s.part.received).rt, ?_, fun k => ?_, by rw [addrs, env], by simp [mode], by simp [stage],
      by simp [demand], by simp [loops], by simp [trams], by simp [priority]⟩
    · rw [exec_tableWriteGroup_delivered s h i1 0#8 m entry hd hl, taken, ← env]
    · rw [states, env]
      by_cases hk : g = k
      · subst hk
        by_cases hf : s.part.rt.mode.mode = .flash <;> simp [hf]
      · simp [hk, Ne.symm hk]

end Sys2Proof.Machine

/-! SUPPORT. Laws for the proofs of the family 01_signal_groups_and_their_aspects: the events that an operation posts, the silent
modules' notices, and the taking of several notices. -/

namespace Sys2Proof.Machine

/-! ### Posted events (R193) -/

/-- From `r` to `r'` events other than MODE_CHANGE have been posted, or none: the summary keeps what it held, and the queue
has grown at its end. -/
def postsOther (r r' : Rt) : Prop :=
  (∀ i, r.report.summary.getLsbD i = true → r'.report.summary.getLsbD i = true) ∧
    ∃ l : List Event, r'.report.queue = r.report.queue ++ l ∧ ∀ v ∈ l, v.kind ≠ .modeChange

theorem postsOther_of_eq {r r' : Rt} (h : r'.report = r.report) : postsOther r r' := by
  simp [postsOther, h]

theorem postsOther.trans {r r' r'' : Rt} (h : postsOther r r') (h' : postsOther r' r'') : postsOther r r'' := by
  obtain ⟨kept, l, queue, other⟩ := h
  obtain ⟨kept', l', queue', other'⟩ := h'
  refine ⟨fun i hi => kept' i (kept i hi), l ++ l', by rw [queue', queue, List.append_assoc], fun v hv => ?_⟩
  exact (List.mem_append.mp hv).elim (other v) (other' v)

theorem postsOther_foldl {α : Type} (f : Rt → α → Rt) (hf : ∀ r a, postsOther r (f r a)) (l : List α) (r : Rt) :
    postsOther r (l.foldl f r) :=
  foldl_inv (postsOther r) f (fun r' a h => h.trans (hf r' a)) l r (postsOther_of_eq rfl)

/-- What an event does to the queue (R193). -/
theorem post_queue (e : Env) (kind : EventKind) (subject : Byte) (detail : List Byte) (r : Rt) :
    (post e kind subject detail r).report.queue =
      if e.tab.settings.mask.getLsbD kind.code = true ∧ r.report.queue.length < 64
        then r.report.queue ++ [⟨kind, e.now, subject, detail⟩] else r.report.queue := by
  simp only [post, ReportUnit.take, Rt.withReport_fields, Config.eventCap]
  by_cases h : e.tab.settings.mask.getLsbD kind.code = true <;> by_cases h' : r.report.queue.length < 64 <;> simp [h, h']

theorem post_postsOther (e : Env) (kind : EventKind) (subject : Byte) (detail : List Byte) (r : Rt) (h : kind ≠ .modeChange) :
    postsOther r (post e kind subject detail r) := by
  refine ⟨fun i hi => by simp [post_summary, hi], ?_⟩
  rw [post_queue]
  split
  · exact ⟨_, rfl, by simpa using h⟩
  · exact ⟨[], by simp, by simp⟩

theorem fillRecord_postsOther (e : Env) (kind : RecordKind) (g1 g2 : Option Group) (l : Option Loop) (a : Option Byte) (r : Rt) :
    postsOther r (fillRecord e kind g1 g2 l a r) := by
  exact ⟨by simp, [], by simp, by simp⟩

theorem postFault_postsOther (e : Env) (n : FaultNotice) (r : Rt) : postsOther r (postFault e n r) :=
  (post_postsOther e .fault _ _ r (by simp)).trans (fillRecord_postsOther ..)

theorem postClassOverflow_postsOther (e : Env) (cls cap : Nat) (q : List Frame) (r : Rt) :
    postsOther r (postClassOverflow e cls cap q r) := by
  unfold postClassOverflow
  split
  · exact postsOther_of_eq rfl
  · split
    · exact post_postsOther e .forwardOverflow _ _ r (by simp)
    · exact postsOther_of_eq rfl

theorem pushAspect_postsOther (e : Env) (f : Frame) (r : Rt) : postsOther r (pushAspect e f r) :=
  (postClassOverflow_postsOther e 2 _ _ r).trans (postsOther_of_eq rfl)

theorem buttonLamp_postsOther (e : Env) (x : ButtonEntry) (lit : Bool) (r : Rt) : postsOther r (buttonLamp e x lit r) :=
  (postClassOverflow_postsOther e 3 _ _ r).trans (postsOther_of_eq rfl)

theorem groupButtons_postsOther (e : Env) (g : Group) (lit : Bool) (r : Rt) : postsOther r (groupButtons e g lit r) := by
  refine postsOther_foldl _ (fun u n => ?_) _ _
  split
  · split
    · exact buttonLamp_postsOther e _ lit u
    · exact postsOther_of_eq rfl
  · exact postsOther_of_eq rfl

theorem handFrame_postsOther (e : Env) (f : AspectFrame) (r : Rt) : postsOther r (handFrame e f r) := by
  unfold handFrame
  split
  · exact postsOther_of_eq (by simp)
  · exact (postsOther_of_eq (r' := monitorPass e f r) (by simp)).trans
      ((pushAspect_postsOther e (f.frame e) (monitorPass e f r)).trans (postsOther_of_eq (by simp)))

theorem frameAll_postsOther (e : Env) (r : Rt) : postsOther r (frameAll e r) :=
  postsOther_foldl _ (fun u _ => handFrame_postsOther e _ u) _ _

theorem flashOrder_postsOther (e : Env) (r : Rt) : postsOther r (flashOrder e r) :=
  (postsOther_of_eq (by simp)).trans (frameAll_postsOther e (flashGroups e r))

theorem restOrder_postsOther (e : Env) (r : Rt) : postsOther r (restOrder e r) := by
  have groups : ∀ (l : List Group) (u : Rt), (l.foldl (fun r g => restGroup e g r) u).report = u.report :=
    fun l u => foldl_inv (fun u' => u'.report = u.report) _ (fun _ _ h => by simpa using h) l u rfl
  exact (postsOther_of_eq (groups allGroups r)).trans (frameAll_postsOther e _)

theorem giveSource_postsOther (e : Env) (src : Source) (r : Rt) : postsOther r (giveSource e src r) :=
  (post_postsOther e .sourceChange noSubject (enc1 src.code) (r.withMode fun m => { m with source := src }) (by simp)).trans
    (postsOther_of_eq (by simp [giveSource]))

theorem setSource_postsOther (e : Env) (src : Source) (r : Rt) : postsOther r (setSource e src r) := by
  unfold setSource
  split
  · exact postsOther_of_eq rfl
  · exact giveSource_postsOther e src r

theorem demandDeactivate_postsOther (e : Env) (r : Rt) : postsOther r (demandDeactivate e r) := by
  unfold demandDeactivate
  split
  · unfold demandClear
    refine .trans (postsOther_of_eq ?_) (postsOther_foldl _ (fun u g => groupButtons_postsOther e g false u) _ _)
    rfl
  · exact postsOther_of_eq rfl

/-- Between modes other than DARK, a change of mode posts MODE_CHANGE first. -/
theorem setMode_postsOther (e : Env) (mode : Mode) (sub : SubPhase) (r : Rt) (ho : r.mode.mode ≠ .dark) (hm : mode ≠ .dark) :
    postsOther (modeNoticed e mode sub r) (setMode e mode sub r) := by
  have demand : ∀ u : Rt, postsOther u (demandNotice e u) := fun u => by
    unfold demandNotice
    split
    · exact demandDeactivate_postsOther e u
    · exact demandDeactivate_postsOther e u
    · split <;> exact postsOther_of_eq (by simp)
    · exact postsOther_of_eq rfl
    · exact postsOther_of_eq rfl
  have trams : ∀ u : Rt, u.mode.mode = mode → tramNotice e u = u := fun u hu => by simp [tramNotice, hu, hm]
  have lamp : ∀ u : Rt, u.mode.mode = mode → postsOther u (lampNotice e r.mode.mode u) := fun u hu => by
    refine postsOther_of_eq ?_
    cases h : r.mode.mode <;> simp [h] at ho <;> cases mode <;> simp at hm <;> cases h' : u.mode.sub <;>
      simp [lampNotice, hu, h']
  rw [setMode_eq, loopNotice_lit ho (by simpa using hm), trams _ (by simp)]
  refine .trans (postsOther_of_eq ?_) (.trans (demand (stageNotice (modeNoticed e mode sub r)))
    (.trans (postsOther_of_eq ?_) (lamp _ (by simp))))
  · simp
  · simp

theorem linkUp_postsOther (e : Env) (p : Port) (r : Rt) : postsOther r (linkUp e p r) := by
  simp only [linkUp]
  split
  · exact postsOther_of_eq (by simp)
  · exact (postsOther_of_eq rfl).trans (post_postsOther e .linkChange _ _ _ (by simp))

end Sys2Proof.Machine

/-! SUPPORT. Proofs of the statements of the family 01_signal_groups_and_their_aspects: START. -/

namespace Sys2Proof.Machine

/-! ### The notices of silent modules (R174) -/

/-- The addresses of the silent modules, in the records' order. -/
def Rt.silentAddrs (r : Rt) : List Byte := (r.lamp.modules.filter ModuleRec.silent).map ModuleRec.addr

/-- The notice that a silent module gives (R174). -/
def silentNotice (e : Env) (a : Byte) : FaultNotice := ⟨.moduleSilent, none, none, some a, e.now⟩

theorem silentAddrs_of_pairs {r r' : Rt} (h : r'.lamp.modules.map (fun m => (m.addr, m.silent)) =
    r.lamp.modules.map fun m => (m.addr, m.silent)) : r'.silentAddrs = r.silentAddrs := by
  have pairs : ∀ u : Rt, u.silentAddrs = ((u.lamp.modules.map fun m => (m.addr, m.silent)).filter Prod.snd).map Prod.fst := fun u => by
    simp [Rt.silentAddrs, List.filter_map, Function.comp_def]
  rw [pairs, pairs, h]

/-- Frames make no module silent and end no silence. -/
theorem frameModule_silence (e : Env) (a : Byte) (r : Rt) : (frameModule e a r).lamp.modules.map (fun m => (m.addr, m.silent)) =
    r.lamp.modules.map fun m => (m.addr, m.silent) := by
  unfold frameModule handFrame
  split
  · simp
  · simp [updModule_modules, Function.comp_def, apply_ite ModuleRec.addr, apply_ite ModuleRec.silent, ModuleRec.sent]

theorem flashOrder_silentAddrs (e : Env) (r : Rt) : (flashOrder e r).silentAddrs = r.silentAddrs := by
  have frames : ∀ (l : List Byte) (u : Rt), (l.foldl (fun r a => frameModule e a r) u).lamp.modules.map (fun m => (m.addr, m.silent)) =
      u.lamp.modules.map fun m => (m.addr, m.silent) := fun l => by
    induction l with
    | nil => exact fun u => rfl
    | cons a l ih => exact fun u => (ih _).trans (frameModule_silence e a u)
  refine silentAddrs_of_pairs ?_
  rw [flashOrder, frameAll, frames]
  simp

theorem silentAddrs_of_find {r : Rt} {m : ModuleRec} (h : r.lamp.modules.find? ModuleRec.silent = some m) :
    ∃ l, r.silentAddrs = m.addr :: l := by
  rw [← List.head?_filter] at h
  obtain ⟨l, hl⟩ := List.head?_eq_some_iff.mp h
  exact ⟨l.map ModuleRec.addr, by simp [Rt.silentAddrs, hl]⟩

theorem lampStartup_notices (e : Env) (r : Rt) : (lampStartup e r).notices = r.notices ++ r.silentAddrs.map (silentNotice e) := by
  have inv : ∀ (l : List ModuleRec) (u : Rt), (l.foldl (fun r m =>
      if m.silent then handNotice ⟨.moduleSilent, none, none, some m.addr, e.now⟩ r else r) u).notices =
      u.notices ++ ((l.filter ModuleRec.silent).map ModuleRec.addr).map (silentNotice e) := by
    intro l
    induction l with
    | nil => simp
    | cons m l ih =>
      intro u
      rw [List.foldl_cons, ih]
      cases hm : m.silent <;> simp [hm, handNotice, silentNotice]
  exact inv _ r

/-- The mode notice of START_FLASH hands the notices of the silent modules, after those that wait. -/
theorem setMode_startFlash_notices (e : Env) (r : Rt) (ho : r.mode.mode ≠ .dark) :
    (setMode e .startup .startFlash r).notices = r.notices ++ r.silentAddrs.map (silentNotice e) := by
  have lamp : ∀ u : Rt, u.mode.mode = .startup → u.mode.sub = .startFlash → lampNotice e r.mode.mode u = lampStartup e u :=
    fun u hu hs => by cases h : r.mode.mode <;> simp [h] at ho <;> simp [lampNotice, hu, hs]
  rw [setMode_eq, lamp _ (by simp) (by simp), lampStartup_notices]
  simp [Rt.silentAddrs]

/-! ### Several notices -/

/-- The notices that wait are taken one after the other (R47, R48). -/
theorem takeFaults_cons {e : Env} {r : Rt} {n : FaultNotice} {l : List FaultNotice} (h : r.notices = n :: l) :
    takeFaults e r = takeFaults e ((takeNotice e n (r.withNotices fun _ => [])).withNotices fun _ => l) := by
  have taken : (takeNotice e n (r.withNotices fun _ => [])).notices = [] := by simp [takeNotice_notices]
  have none_waits : (takeNotice e n (r.withNotices fun _ => [])).withNotices (fun _ => []) =
      takeNotice e n (r.withNotices fun _ => []) := by
    generalize takeNotice e n (r.withNotices fun _ => []) = u at *
    cases u
    simp_all [Rt.withNotices]
  have fields : ∀ u : Rt, (u.withNotices fun _ => l).withNotices (fun _ => []) = u.withNotices fun _ => [] := fun _ => rfl
  rw [takeFaults, h, List.foldl_cons, takeFaults, fields, none_waits]
  rfl

/-- The notices taken in DARK and FLASH post events other than MODE_CHANGE, and a fault record that is filled stays. -/
theorem takeFaults_quiet_report (e : Env) (r : Rt) (h : stagesRun r.mode.mode = false) :
    postsOther r (takeFaults e r) ∧ ∀ x, r.report.record = some x → (takeFaults e r).report.record = some x := by
  have inv := foldl_inv (fun u => stagesRun u.mode.mode = false ∧ postsOther r u ∧ ∀ x, r.report.record = some x →
    u.report.record = some x) (fun r n => takeNotice e n r) (fun u n hu => ?_) r.notices (r.withNotices fun _ => [])
    ⟨h, postsOther_of_eq rfl, fun _ hx => hx⟩
  · exact inv.2
  · obtain ⟨hm, posts, record⟩ := hu
    rw [takeNotice_quiet e n u hm]
    exact ⟨by simpa using hm, posts.trans (postFault_postsOther e n u), fun x hx => by simp [postFault, fillRecord, record x hx]⟩


/-! ### MODE_CHANGE in the event queue (R38) -/

/-- The MODE_CHANGE events that wait. -/
def Rt.modeEvents (r : Rt) : List Event := r.report.queue.filter fun v => v.kind == .modeChange

theorem postsOther.modeEvents {r r' : Rt} (h : postsOther r r') : r'.modeEvents = r.modeEvents := by
  obtain ⟨-, l, queue, other⟩ := h
  have none_added : l.filter (fun v => v.kind == .modeChange) = [] := by simpa using other
  simp [Rt.modeEvents, queue, none_added]

theorem postsOther.queue_le {r r' : Rt} (h : postsOther r r') : r.report.queue.length ≤ r'.report.queue.length := by
  obtain ⟨-, l, queue, -⟩ := h
  simp [queue]

/-- A change of mode between modes other than DARK, its event enabled and the queue not full after it, adds its MODE_CHANGE. -/
theorem setMode_modeEvents {e : Env} {mode : Mode} {sub : SubPhase} {r : Rt} (ho : r.mode.mode ≠ .dark) (hm : mode ≠ .dark)
    (hmask : e.tab.settings.mask.getLsbD 0 = true) (hq : (setMode e mode sub r).report.queue.length < 64) :
    (setMode e mode sub r).modeEvents =
        r.modeEvents ++ [⟨.modeChange, e.now, noSubject, [b8 mode.code, b8 sub.code]⟩] ∧
      r.report.queue.length < 64 := by
  have posts := setMode_postsOther e mode sub r ho hm
  have length := posts.queue_le
  have queue : (modeNoticed e mode sub r).report.queue = if r.report.queue.length < 64
      then r.report.queue ++ [⟨.modeChange, e.now, noSubject, [b8 mode.code, b8 sub.code]⟩] else r.report.queue := by
    have enabled : e.tab.settings.mask.getLsbD EventKind.modeChange.code = true := hmask
    rw [modeNoticed, post_queue]
    simp [enabled]
  have room : r.report.queue.length < 64 := by
    by_contra full
    rw [if_neg full] at queue
    rw [queue] at length
    omega
  rw [if_pos room] at queue
  exact ⟨by rw [posts.modeEvents]; simp [Rt.modeEvents, queue], room⟩

/-! ### The mode notice of STARTUP (R121, R127) -/

theorem demandActivate_active (e : Env) (r : Rt) : (demandActivate e r).demand.active = true := by
  simp only [demandActivate]
  refine foldl_inv (fun u => u.demand.active = true) _ (fun u a h => by simpa using h) _ _ ?_
  simp

/-- On the notice of STARTUP the Demand Unit is active (R127). -/
theorem setMode_startup_demand (e : Env) (sub : SubPhase) (r : Rt) (ho : r.mode.mode ≠ .dark) :
    (setMode e .startup sub r).demand.active = true := by
  have notice : ∀ u : Rt, u.mode.mode = .startup → (demandNotice e u).demand.active = true := fun u hu => by
    simp only [demandNotice, hu]
    split
    · assumption
    · exact demandActivate_active e u
  have demand : (setMode e .startup sub r).demand = (demandNotice e (stageNotice (modeNoticed e .startup sub r))).demand := by
    rw [setMode_eq, loopNotice_lit ho (by simp)]
    simp
  rw [demand]
  exact notice _ (by simp)

/-- On the notice of START_FLASH the sequence position is 0 (R66). -/
theorem setMode_startFlash_stage (e : Env) (r : Rt) : (setMode e .startup .startFlash r).stage = { r.stage with position := 0 } := by
  rw [setMode_stage]
  simp [stageNotice]

/-! ### START (R41, R42) -/

/-- The blocks with the start values copied and every group in the state of the flash order (R41, R5). -/
def startFlashed (e : Env) (p : PlanEntry) (r : Rt) : Rt :=
  flashOrder e (r.withMode fun m => { m with startValues := some ⟨p.startStage, p.startFlash, p.allRed⟩ })

/-- The blocks at the beginning of START_FLASH (R42), before the notices of silent modules are taken. -/
def startFlashBegun (e : Env) (p : PlanEntry) (r : Rt) : Rt :=
  (setSource e .autonomous (setMode e .startup .startFlash (startFlashed e p r))).withMode fun m =>
    { m with phaseDue := some (after e.now p.startFlash) }

theorem startUp_eq (e : Env) (p : PlanEntry) (r : Rt) : startUp e p r =
    if (takeFaults e (startFlashBegun e p r)).mode.mode = .startup ∧ p.startFlash = 0
      then startupAllRed e (takeFaults e (startFlashBegun e p r)) else takeFaults e (startFlashBegun e p r) := by
  unfold startUp startFlashBegun startFlashed
  with_reducible rfl

theorem startFlashBegun_values (e : Env) (p : PlanEntry) (r : Rt) (hm : r.mode.mode ≠ .dark) :
    let u := startFlashBegun e p r
    u.mode = { r.mode with
        mode := .startup, sub := .startFlash, source := .autonomous
        startValues := some ⟨p.startStage, p.startFlash, p.allRed⟩
        phaseDue := some (e.now + BitVec.ofNat 32 p.startFlash) } ∧
      (∀ g : Group, (u.groups.get g).state = flashState e.tab g) ∧ u.demand.active = true ∧
      u.stage = { r.stage with position := 0 } ∧ u.trams = r.trams ∧
      u.notices = r.notices ++ r.silentAddrs.map (silentNotice e) ∧ u.report.record = r.report.record := by
  have ordered := (flashOrder_follows e (r.withMode fun m =>
    { m with startValues := some ⟨p.startStage, p.startFlash, p.allRed⟩ })).2
  have lit : (startFlashed e p r).mode.mode ≠ .dark := by simpa [startFlashed] using hm
  have notices := setMode_startFlash_notices e (startFlashed e p r) lit
  have record := setMode_record (e := e) (mode := .startup) (sub := .startFlash) lit (by simp)
  have silent : (startFlashed e p r).silentAddrs = r.silentAddrs := (flashOrder_silentAddrs e _).trans rfl
  have handed : (startFlashed e p r).notices = r.notices := ordered
  refine ⟨by simp [startFlashBegun, startFlashed, setSource_mode, setMode_mode, after],
    by simp [startFlashBegun, startFlashed, flashOrder_get], by simp [startFlashBegun, setMode_startup_demand e _ _ lit],
    by simp [startFlashBegun, startFlashed, setMode_startFlash_stage], by simp [startFlashBegun, startFlashed, setMode_trams],
    by simp [startFlashBegun, notices, silent, handed], ?_⟩
  have kept : (startFlashBegun e p r).report.record = (startFlashed e p r).report.record := by simp [startFlashBegun, record]
  simpa [startFlashed] using kept


theorem startOwner_wrongMode (e : Env) (r : Rt) (h : r.mode.mode ≠ .flash) : startOwner e r = (r, ⟨.wrongMode, []⟩) := by
  cases hm : r.mode.mode <;> simp [hm] at h <;> simp [startOwner, hm, refuse]

theorem startOwner_latched (e : Env) (r : Rt) (hm : r.mode.mode = .flash) (hl : r.mode.latch = true) :
    startOwner e r = (r, ⟨.faultLatched, []⟩) := by
  simp [startOwner, hm, hl, refuse]

theorem startOwner_inconsistent (e : Env) (r : Rt) (x : Inconsistency) (hm : r.mode.mode = .flash) (hl : r.mode.latch = false)
    (hx : consistency e.tab r.stage.activePlan = some x) : startOwner e r = (r, ⟨.checkFailed, x.bytes⟩) := by
  simp [startOwner, hm, hl, hx]

theorem startOwner_accepts (e : Env) (r : Rt) (p : PlanEntry) (hm : r.mode.mode = .flash) (hl : r.mode.latch = false)
    (hx : consistency e.tab r.stage.activePlan = none) (hp : e.tab.plans.get r.stage.activePlan = some p) :
    startOwner e r = (finish e (startUp e p r), .accepted) := by
  simp [startOwner, hm, hl, hx, hp, accept]

/-- With no module silent and a start flash time to run, START_FLASH is all that START brings (R42). -/
theorem finish_startUp_flash {e : Env} {p : PlanEntry} {r : Rt} (hm : r.mode.mode ≠ .dark) (hn : r.notices = [])
    (hi : r.stage.phase = .idle) (hs : r.silentAddrs = []) (hp : 0 < p.startFlash) :
    finish e (startUp e p r) = startFlashBegun e p r := by
  obtain ⟨mode, -, -, stage, -, notices, -⟩ := startFlashBegun_values e p r hm
  have none_waits : (startFlashBegun e p r).notices = [] := by simp [notices, hn, hs]
  rw [startUp_eq, takeFaults_nil e _ none_waits, if_neg (by omega)]
  exact finish_idle e _ none_waits (by simp [stage, hi]) (by simp [mode])

/-- With no module silent, a start flash time of 0 brings ALL_RED at once (R42). -/
theorem finish_startUp_allRed {e : Env} {p : PlanEntry} {r : Rt} (hm : r.mode.mode ≠ .dark) (hn : r.notices = [])
    (hi : r.stage.phase = .idle) (hs : r.silentAddrs = []) (hp : p.startFlash = 0) :
    finish e (startUp e p r) = startupAllRed e (startFlashBegun e p r) := by
  obtain ⟨mode, groups, -, stage, -, notices, -⟩ := startFlashBegun_values e p r hm
  obtain ⟨mode', -, stage', -, notices'⟩ := startupAllRed_values e (startFlashBegun e p r) _ (by rw [mode]) groups
  have none_waits : (startFlashBegun e p r).notices = [] := by simp [notices, hn, hs]
  rw [startUp_eq, takeFaults_nil e _ none_waits, if_pos ⟨by simp [mode], hp⟩]
  exact finish_idle e _ (notices'.trans none_waits) (by simp [stage', stage, hi]) (by simp [mode'])

/-- The MODE_CHANGE events of START_FLASH and of ALL_RED, in this order (R42). -/
theorem startupAllRed_modeEvents {e : Env} {p : PlanEntry} {r : Rt} (hm : r.mode.mode ≠ .dark)
    (hmask : e.tab.settings.mask.getLsbD 0 = true)
    (hq : (startupAllRed e (startFlashBegun e p r)).report.queue.length < 64) :
    (startupAllRed e (startFlashBegun e p r)).modeEvents = r.modeEvents ++
      [⟨.modeChange, e.now, noSubject, [2#8, 1#8]⟩, ⟨.modeChange, e.now, noSubject, [2#8, 2#8]⟩] := by
  have flashed : postsOther r (startFlashed e p r) := by
    unfold startFlashed
    refine .trans (postsOther_of_eq ?_) (flashOrder_postsOther e _)
    rfl
  have begun : postsOther (setMode e .startup .startFlash (startFlashed e p r)) (startFlashBegun e p r) := by
    unfold startFlashBegun
    exact (setSource_postsOther e .autonomous _).trans (postsOther_of_eq (by simp))
  have rested := restOrder_postsOther e (startFlashBegun e p r)
  have lit : (startFlashed e p r).mode.mode ≠ .dark := by simpa [startFlashed] using hm
  have lit' : (restOrder e (startFlashBegun e p r)).mode.mode ≠ .dark := by simp [startFlashBegun, setMode_mode]
  have final : (startupAllRed e (startFlashBegun e p r)).report =
      (setMode e .startup .allRed (restOrder e (startFlashBegun e p r))).report := by simp [startupAllRed]
  rw [final] at hq
  obtain ⟨second, room⟩ := setMode_modeEvents lit' (by simp) hmask hq
  obtain ⟨first, -⟩ := setMode_modeEvents (e := e) (mode := .startup) (sub := .startFlash) lit (by simp) hmask
    (lt_of_le_of_lt (begun.queue_le.trans rested.queue_le) room)
  have same : (startupAllRed e (startFlashBegun e p r)).modeEvents =
      (setMode e .startup .allRed (restOrder e (startFlashBegun e p r))).modeEvents := by rw [Rt.modeEvents, final]; rfl
  rw [same, second, rested.modeEvents, begun.modeEvents, first, flashed.modeEvents]
  simp [Mode.code, SubPhase.code]


/-! ### A fault that brings FLASH (R47) -/

/-- The blocks once a fault is posted and its latch set, before the flash order (R47). -/
def faultPosted (e : Env) (n : FaultNotice) (r : Rt) : Rt := postFault e n (r.withMode fun m => { m with latch := true })

theorem takeNotice_serving {e : Env} {n : FaultNotice} {r : Rt} (h : stagesRun r.mode.mode = true) : takeNotice e n r =
    dropStep (giveSource e .none (setMode e .flash .none (flashOrder e (faultPosted e n r)))) := by
  simp [takeNotice, h, faultPosted]

theorem postFault_summary (e : Env) (n : FaultNotice) (r : Rt) : (postFault e n r).report.summary.getLsbD 14 = true := by
  simp [postFault, post_summary, EventKind.code]

theorem postFault_record {e : Env} {n : FaultNotice} {r : Rt} (h : r.report.record = none) : (postFault e n r).report.record =
    some ⟨.fault n.kind, n.group1, n.group2, none, r.currentStage, e.now, n.addr⟩ := by
  simp [postFault, fillRecord, h, Rt.currentStage]

/-- What a fault notice that is taken in STARTUP, RUNNING or SHUTDOWN leaves of the blocks (R47). -/
theorem takeNotice_values {e : Env} {n : FaultNotice} {r : Rt} (h : stagesRun r.mode.mode = true) :
    let t := takeNotice e n r
    t.mode = { r.mode with
        mode := .flash, sub := .none, phaseDue := none, source := .none, latch := true, pendingStep := false } ∧
      (∀ g : Group, (t.groups.get g).state = flashState e.tab g) ∧ t.demand.active = false ∧ t.stage = r.stage.idled ∧
      t.trams = r.trams ∧ t.report.summary.getLsbD 14 = true ∧
      (r.report.record = none → t.report.record =
        some ⟨.fault n.kind, n.group1, n.group2, none, r.currentStage, e.now, n.addr⟩) := by
  have lit : (flashOrder e (faultPosted e n r)).mode.mode ≠ .dark := fun hd => by
    have dark : r.mode.mode = .dark := by simpa [faultPosted] using hd
    simp [dark, stagesRun] at h
  have summary : (takeNotice e n r).report.summary.getLsbD 14 = true := by
    have ordered := (flashOrder_postsOther e (faultPosted e n r)).1 14 (postFault_summary e n _)
    have mode := (setMode_postsOther e .flash .none _ lit (by simp)).1 14 (by simp [modeNoticed_summary, ordered])
    have source := (giveSource_postsOther e .none _).1 14 mode
    rw [takeNotice_serving h]
    simpa [dropStep] using source
  refine ⟨?_, fun g => ?_, ?_, ?_, ?_, summary, fun hr => ?_⟩
  all_goals rw [takeNotice_serving h]
  · simp [dropStep, giveSource_mode, setMode_mode, faultPosted]
  · simp [flashOrder_get]
  · simp [setMode_demand_inactive e .flash .none _ rfl]
  · simp [setMode_flash_stage, faultPosted]
  · simp [setMode_trams, faultPosted]
  · have record := setMode_record (e := e) (mode := .flash) (sub := .none) lit (by simp)
    have posted : (faultPosted e n r).report.record = some ⟨.fault n.kind, n.group1, n.group2, none, r.currentStage, e.now, n.addr⟩ :=
      postFault_record hr
    simpa [record] using posted

/-- With a silent module START ends in FLASH: the notice of the lowest address is taken in STARTUP, the others in FLASH
(R47, R174). -/
theorem finish_startUp_silent {e : Env} {p : PlanEntry} {r : Rt} {a : Byte} {l : List Byte} (hm : r.mode.mode ≠ .dark)
    (hn : r.notices = []) (hs : r.silentAddrs = a :: l) :
    let t := finish e (startUp e p r)
    t.mode = { r.mode with
        mode := .flash, sub := .none, phaseDue := none, source := .none, latch := true, pendingStep := false
        startValues := some ⟨p.startStage, p.startFlash, p.allRed⟩ } ∧
      (∀ g : Group, (t.groups.get g).state = flashState e.tab g) ∧ t.demand.active = false ∧ t.stage.phase = .idle ∧
      t.trams = r.trams ∧ t.report.summary.getLsbD 14 = true ∧
      (r.report.record = none → t.report.record =
        some ⟨.fault .moduleSilent, none, none, none, r.currentStage, e.now, some a⟩) := by
  obtain ⟨mode, -, -, stage, trams, notices, record⟩ := startFlashBegun_values e p r hm
  have notices : (startFlashBegun e p r).notices = silentNotice e a :: l.map (silentNotice e) := by simp [notices, hn, hs]
  obtain ⟨mode', groups', active', stage', trams', summary', record'⟩ := takeNotice_values (e := e) (n := silentNotice e a)
    (r := (startFlashBegun e p r).withNotices fun _ => []) (by simp [mode, stagesRun])
  generalize hw : (takeNotice e (silentNotice e a) ((startFlashBegun e p r).withNotices fun _ => [])) = w at *
  have quiet : stagesRun (w.withNotices fun _ => l.map (silentNotice e)).mode.mode = false := by simp [mode', stagesRun]
  have left := takeFaults_quiet e _ quiet
  obtain ⟨posts, kept⟩ := takeFaults_quiet_report e _ quiet
  have taken : startUp e p r = takeFaults e (w.withNotices fun _ => l.map (silentNotice e)) := by
    rw [startUp_eq, takeFaults_cons notices, hw, if_neg]
    rw [left]
    simp [mode']
  have ended : finish e (startUp e p r) = takeFaults e (w.withNotices fun _ => l.map (silentNotice e)) := by
    rw [taken]
    exact finish_idle e _ (takeFaults_notices e _) (by rw [left]; simp [stage', StageUnit.idled]) (by rw [left]; simp [mode'])
  rw [ended]
  have summary := posts.1 14 (by simpa using summary')
  refine ⟨by rw [left]; simp [mode', mode], by rw [left]; simpa using groups', by rw [left]; simpa using active',
    by rw [left]; simp [stage', StageUnit.idled], by rw [left]; simp [trams', trams], summary, fun hr => ?_⟩
  have filled := record' (by simpa [record] using hr)
  exact kept _ (by simpa [silentNotice, Rt.currentStage, stage] using filled)


theorem silentAddrs_nil {r : Rt} (h : ∀ m ∈ r.lamp.modules, m.silent = false) : r.silentAddrs = [] := by
  simpa [Rt.silentAddrs, List.filter_eq_nil_iff] using h

/-- Settles O20: the refusals are `startOwner`'s cases, and START's effect is that of `startUp`, in its three cases. -/
theorem startTestsAndEntersStartup : Obligations.StartTestsAndEntersStartup := by
  intro s h e f r0 hd
  have exec_eq := exec_start_delivered s h hd
  refine ⟨fun hm => ?_, fun hm hl => ?_, fun hm hl x hx => ?_, fun hm hl hstill hidle hx p hp => ?_⟩
  · rw [exec_eq, startOwner_wrongMode _ _ (by simpa using hm)]
  · rw [exec_eq, startOwner_latched _ _ (by simpa using hm) (by simpa using hl)]
  · rw [exec_eq, startOwner_inconsistent _ _ x (by simpa using hm) (by simpa using hl) (by simpa using hx)]
  · rw [startOwner_accepts _ _ p (by simpa using hm) (by simpa using hl) (by simpa using hx) (by simpa using hp)] at exec_eq
    have lit : r0.mode.mode ≠ .dark := by simp [r0, hm]
    have none_waits : r0.notices = [] := by simpa [r0] using Rt.still_notices _ _ hstill
    have idle : r0.stage.phase = .idle := by simpa [r0] using hidle
    refine ⟨fun m hsilent => ?_, fun hsilent hp0 => ?_, fun hsilent hp0 => ?_⟩
    · obtain ⟨l, addrs⟩ := silentAddrs_of_find (r := r0) (m := m) (by simpa [r0] using hsilent)
      obtain ⟨mode, groups, active, phase, trams, summary, record⟩ := finish_startUp_silent (e := e) (p := p) lit none_waits addrs
      generalize finish s.part.env (startUp s.part.env p (s.part.arrived .head)) = t at *
      exact ⟨_, t, exec_eq, rfl, by simpa [r0] using mode, groups, active, phase, by simpa [r0] using trams, summary,
        fun hr => by simpa [r0, Rt.currentStage] using record (by simpa [r0] using hr)⟩
    · have addrs := silentAddrs_nil (r := r0) (by simpa [r0] using hsilent)
      have ended := finish_startUp_allRed (e := e) lit none_waits idle addrs hp0
      obtain ⟨mode, groups, active, stage, trams, -, -⟩ := startFlashBegun_values e p r0 lit
      obtain ⟨mode', groups', stage', trams', -⟩ := startupAllRed_values e (startFlashBegun e p r0) _ (by rw [mode]) groups
      have demand : (startupAllRed e (startFlashBegun e p r0)).demand.active = true := by
        simp [startupAllRed, setMode_startup_demand, mode]
      refine ⟨_, exec_eq, ?_⟩
      rw [ended]
      refine ⟨by simp [mode', mode, r0], groups', demand, by simp [stage', stage, r0], by simp [trams', trams, r0],
        fun hmask hq => ?_⟩
      exact (startupAllRed_modeEvents lit hmask hq).trans (by rw [(linkUp_postsOther e .head s.part.rt).modeEvents]; rfl)
    · have addrs := silentAddrs_nil (r := r0) (by simpa [r0] using hsilent)
      have ended := finish_startUp_flash (e := e) lit none_waits idle addrs hp0
      obtain ⟨mode, groups, active, stage, trams, -, -⟩ := startFlashBegun_values e p r0 lit
      refine ⟨_, exec_eq, ?_⟩
      rw [ended]
      exact ⟨by simp [mode, r0], groups, active, by simp [stage, r0], by simp [trams, r0]⟩

end Sys2Proof.Machine

/-! SUPPORT. Laws for the proofs of the family 01_signal_groups_and_their_aspects: green-end orders, the aspects that they leave
shown, and the end of a stage. -/

namespace Sys2Proof.Machine

/-! ### A green-end order (R12) -/

theorem endGreen_eq_clears (e : Env) (g : Group) (x : GroupRec) : x.endGreen e.now (e.tab.clearing g) = x.clears e g := by
  unfold GroupRec.endGreen GroupRec.clears
  by_cases h : e.tab.clearing g = 0 <;> simp [h, Nat.pos_iff_ne_zero, after]

/-- The blocks with a group's green-end order noted, before the frame (R12, R80, R166). -/
def greenEnded (e : Env) (g : Group) (r : Rt) : Rt :=
  createConfirm e g (updGroup g (GroupRec.endGreen e.now (e.tab.clearing g))
    (r.withStage fun s => { s with greenEnds := upd s.greenEnds g fun _ => .awaiting }))

theorem takesGreenEnd_congr {e : Env} {r r' : Rt} {g : Group} (h : r'.groups.get g = r.groups.get g) :
    takesGreenEnd e r' g = takesGreenEnd e r g := by
  simp [takesGreenEnd, h]

theorem orderGreenEnd_eq {e : Env} {g : Group} {r : Rt} (h : takesGreenEnd e r g = true) : orderGreenEnd e g r =
    if 0 < e.tab.clearing g then demandDepart e g (groupFrame e g (greenEnded e g r))
    else markRest g (demandDepart e g (groupFrame e g (greenEnded e g r))) := by
  have taken : takesGreenEnd e (r.withStage fun s => { s with greenEnds := upd s.greenEnds g fun _ => .awaiting }) g = true := h
  simp only [orderGreenEnd, takeGreenEnd, taken, if_true]
  rfl

/-- A change of the interstage's note of a losing group at REST, for a clearing time of 0 (R12, R82). -/
def restNoted (e : Env) (g : Group) (i : Option Interstage) : Option Interstage :=
  if 0 < e.tab.clearing g then i else i.map (Interstage.noteRest g)

/-- A green-end order leaves this (R12): the group's record, its confirmation and green-end records, and all else but what the
Conflict Monitor, the frame and the group's own demand entries change. -/
theorem orderGreenEnd_values {e : Env} {g : Group} {r : Rt} (h : takesGreenEnd e r g = true) :
    let u := orderGreenEnd e g r
    (∀ k, u.groups.get k = if g = k then (r.groups.get k).clears e g else r.groups.get k) ∧
      (∀ k, u.lamp.confirms.get k = if g = k then some ⟨e.now, e.now + 10#32⟩ else r.lamp.confirms.get k) ∧
      (∀ k, u.stage.greenEnds.get k = if g = k then .awaiting else r.stage.greenEnds.get k) ∧
      u.stage = { r.stage with greenEnds := u.stage.greenEnds, inter := restNoted e g r.stage.inter } := by
  rw [orderGreenEnd_eq h]
  unfold restNoted
  by_cases hc : 0 < e.tab.clearing g <;> simp only [hc, if_true, if_false] <;>
    refine ⟨fun k => ?_, fun k => ?_, fun k => ?_, ?_⟩ <;>
    simp [greenEnded, updGroup_get, endGreen_eq_clears, createConfirm, upd_get, after, Config.second, markRest_stage]


theorem greenEnded_get (e : Env) (g k : Group) (r : Rt) : (greenEnded e g r).groups.get k =
    if g = k then (r.groups.get k).clears e g else r.groups.get k := by
  simp [greenEnded, updGroup_get, endGreen_eq_clears]

theorem aspectOf_clearing_dull (t : GroupType) : (aspectOf t .clearing).cls ≠ .starting ∧ (aspectOf t .clearing).cls ≠ .green := by
  cases t <;> decide

/-- A group that clears or rests shows nothing that the Monitor must have passed. -/
theorem greenEnded_follows {e : Env} {g : Group} {r : Rt} (h : r.follows e) : (greenEnded e g r).follows e := by
  intro k hk hc
  by_cases hg : g = k
  · have dull : (groupAspect e (greenEnded e g r) k).cls ≠ .starting ∧ (groupAspect e (greenEnded e g r) k).cls ≠ .green := by
      simp only [groupAspect, greenEnded_get, hg, if_true]
      split
      · exact aspectOf_rest_dull _
      · exact aspectOf_clearing_dull _
    exact absurd hc (not_or.mpr dull)
  · have same : groupAspect e (greenEnded e g r) k = groupAspect e r k := by simp [groupAspect, greenEnded_get, hg]
    rw [same] at hc ⊢
    simpa [greenEnded] using h k hk hc

/-- After the frame of a green-end order nothing changes that the Monitor, the Lamp Interface or the aspect class read. -/
theorem orderGreenEnd_same {e : Env} {g : Group} {r : Rt} (h : takesGreenEnd e r g = true) :
    let u := orderGreenEnd e g r
    let w := groupFrame e g (greenEnded e g r)
    u.groups = w.groups ∧ u.monitor = w.monitor ∧ u.lamp = w.lamp ∧ u.ring = w.ring ∧ u.notices = w.notices := by
  rw [orderGreenEnd_eq h]
  split <;> simp

/-- The frame of a green-end order passes. -/
theorem orderGreenEnd_follows {e : Env} {g : Group} {r : Rt} (h : takesGreenEnd e r g = true) (hf : r.follows e) :
    (orderGreenEnd e g r).follows e ∧ (orderGreenEnd e g r).notices = r.notices := by
  obtain ⟨groups, monitor, -, -, notices⟩ := orderGreenEnd_same h
  obtain ⟨follows, handed⟩ := groupFrame_follows (g := g) (greenEnded_follows (g := g) hf)
  exact ⟨follows_congr groups monitor follows, notices.trans (handed.trans (by simp [greenEnded]))⟩

/-! ### Modules that show their slots as they stand (R165, R166) -/

/-- The module at `a` has been sent its slots' aspects as they stand, and the frame that carries them waits with at most `n`
frames behind it, none of which is the module's. -/
def shown (e : Env) (n : Nat) (a : Byte) (r : Rt) : Prop :=
  (∀ x, r.moduleRec a = some x → x.sentBrightness = some r.lamp.brightness ∧ x.sentAspects = some (slotAspects e r a)) ∧
    ∃ before after, r.ring.aspects = before ++ aspectSet e a (slotAspects e r a) r.lamp.brightness :: after ∧
      (∀ f ∈ after, f.dst ≠ a) ∧ after.length ≤ n

theorem shown_congr {e : Env} {n : Nat} {a : Byte} {r r' : Rt} (hs : slotAspects e r' a = slotAspects e r a)
    (hm : r'.moduleRec a = r.moduleRec a) (hb : r'.lamp.brightness = r.lamp.brightness)
    (hq : r'.ring.aspects = r.ring.aspects) (h : shown e n a r) : shown e n a r' := by
  simpa [shown, hs, hm, hb, hq] using h

theorem shown_of_le {e : Env} {n m : Nat} {a : Byte} {r : Rt} (hnm : n ≤ m) (h : shown e n a r) : shown e m a r := by
  obtain ⟨sent, before, after, queue, others, length⟩ := h
  exact ⟨sent, before, after, queue, others, length.trans hnm⟩

theorem classTake_keeps {cap : Nat} {before after : List Frame} {f f' : Frame} (h : after.length + 1 < cap) :
    ∃ before', classTake cap (before ++ f :: after) f' = before' ++ f :: (after ++ [f']) := by
  unfold classTake
  split
  · exact ⟨before, by simp⟩
  · next full =>
    cases before with
    | nil => simp at full; omega
    | cons x before => exact ⟨before, by simp⟩

/-- The frame that a module has just been sent is the last that waits for it. -/
theorem shown_frameModule_self {e : Env} {a : Byte} {r : Rt} (h : r.follows e) : shown e 0 a (frameModule e a r) := by
  have same : slotAspects e (frameModule e a r) a = slotAspects e r a := slotAspects_congr a (by simp)
  refine ⟨fun x hx => ?_, ?_⟩
  · rw [same]
    rw [frameModule_passed h, moduleRec_updModule _ _ _ (ModuleRec.sent_addr _ _)] at hx
    obtain ⟨y, hy, rfl⟩ := Option.map_eq_some_iff.mp hx
    have addr : y.addr = a := by simpa using List.find?_some hy
    simp [addr, ModuleRec.sent]
  · rw [same, frameModule_passed h]
    exact ⟨_, [], by simp [pushAspect_aspects, classTake]; rfl, by simp, by simp⟩

/-- A frame to another module leaves what a module shows. -/
theorem shown_frameModule_other {e : Env} {a b : Byte} {n : Nat} {r : Rt} (h : r.follows e) (hab : b ≠ a) (hn : n + 1 < 48)
    (hs : shown e n a r) : shown e (n + 1) a (frameModule e b r) := by
  obtain ⟨sent, before, after, queue, others, length⟩ := hs
  have same : slotAspects e (frameModule e b r) a = slotAspects e r a := slotAspects_congr a (by simp)
  have modules : (frameModule e b r).moduleRec a = r.moduleRec a := by
    rw [frameModule_passed h, moduleRec_updModule _ _ _ (ModuleRec.sent_addr _ _)]
    have kept : ∀ x, (r.moduleRec a = some x) → x.addr ≠ b := fun x hx => by
      have addr : x.addr = a := by simpa using List.find?_some hx
      rw [addr]; exact hab.symm
    have rec_eq : ∀ u : Rt, u.lamp = r.lamp → u.moduleRec a = r.moduleRec a := fun u hu => by simp [Rt.moduleRec, hu]
    rw [rec_eq _ (by simp)]
    cases hx : r.moduleRec a with
    | none => rfl
    | some x => simp [kept x hx]
  obtain ⟨before', taken⟩ := classTake_keeps (cap := 48) (before := before)
    (f := aspectSet e a (slotAspects e r a) r.lamp.brightness) (f' := aspectSet e b (slotAspects e r b) r.lamp.brightness)
    (lt_of_le_of_lt (Nat.succ_le_succ length) hn)
  refine ⟨fun x hx => ?_, before', after ++ [aspectSet e b (slotAspects e r b) r.lamp.brightness], ?_, fun f hf => ?_, ?_⟩
  · rw [same]
    simpa using sent x (modules ▸ hx)
  · rw [same, frameModule_passed h]
    simpa [pushAspect_aspects, queue] using taken
  · rcases List.mem_append.mp hf with hf | hf
    · exact others f hf
    · rw [List.mem_singleton.mp hf]; exact hab
  · simpa using length


/-- The aspects of a module are those of the groups that hold its slots. -/
theorem slotAspects_of_holders {e : Env} {r r' : Rt} {a : Byte}
    (h : ∀ k g, e.tab.holder a k = some g → groupAspect e r' g = groupAspect e r g) : slotAspects e r' a = slotAspects e r a := by
  refine Vector.ext fun i hi => ?_
  have at_i : (slotAspects e r' a).get ⟨i, hi⟩ = (slotAspects e r a).get ⟨i, hi⟩ := by
    rw [slotAspects_get, slotAspects_get]
    cases hk : e.tab.holder a ⟨i, hi⟩ with
    | none => rfl
    | some g => exact h _ g hk
  exact at_i

/-- A group's green end changes the aspects of its own module alone. -/
theorem greenEnded_slotAspects {e : Env} {g : Group} {r : Rt} {a : Byte} (h : ∀ m, e.tab.slotOf g = some m → m.addr ≠ a) :
    slotAspects e (greenEnded e g r) a = slotAspects e r a :=
  slotAspects_of_holders fun k i hk => by
    have ne : g ≠ i := fun hg => h ⟨a, k⟩ (hg ▸ slotOf_of_holder hk) rfl
    simp [groupAspect, greenEnded_get, ne]

theorem shown_greenEnded {e : Env} {n : Nat} {g : Group} {r : Rt} {a : Byte} (h : ∀ m, e.tab.slotOf g = some m → m.addr ≠ a)
    (hs : shown e n a r) : shown e n a (greenEnded e g r) :=
  shown_congr (greenEnded_slotAspects h) (by simp [Rt.moduleRec, greenEnded]) (by simp [greenEnded]) (by simp [greenEnded]) hs

theorem orderGreenEnd_shown {e : Env} {n : Nat} {g : Group} {r : Rt} {a : Byte} (h : takesGreenEnd e r g = true) :
    shown e n a (orderGreenEnd e g r) ↔ shown e n a (groupFrame e g (greenEnded e g r)) := by
  obtain ⟨groups, -, lamp, ring, -⟩ := orderGreenEnd_same h
  simp [shown, slotAspects_congr a groups, Rt.moduleRec, lamp, ring]

/-- The module of a group that takes a green-end order is sent its aspects (R166). -/
theorem orderGreenEnd_shown_self {e : Env} {g : Group} {r : Rt} {m : Mapping} (h : takesGreenEnd e r g = true)
    (hf : r.follows e) (hm : e.tab.slotOf g = some m) : shown e 0 m.addr (orderGreenEnd e g r) := by
  rw [orderGreenEnd_shown h, groupFrame, hm]
  exact shown_frameModule_self (greenEnded_follows hf)

/-- A green-end order leaves what a module shows, or sends it anew. -/
theorem orderGreenEnd_shown_kept {e : Env} {g : Group} {r : Rt} {a : Byte} {n : Nat} (h : takesGreenEnd e r g = true)
    (hf : r.follows e) (hn : n + 1 < 48) (hs : shown e n a r) : shown e (n + 1) a (orderGreenEnd e g r) := by
  by_cases own : ∃ m, e.tab.slotOf g = some m ∧ m.addr = a
  · obtain ⟨m, hm, rfl⟩ := own
    exact shown_of_le (by omega) (orderGreenEnd_shown_self h hf hm)
  · have others : ∀ m, e.tab.slotOf g = some m → m.addr ≠ a := fun m hm ha => own ⟨m, hm, ha⟩
    have ended := shown_greenEnded (g := g) others hs
    rw [orderGreenEnd_shown h, groupFrame]
    split
    · next m hm => exact shown_frameModule_other (greenEnded_follows hf) (others m hm) hn ended
    · exact shown_of_le (by omega) ended

/-! ### The green-end orders of one moment -/

/-- Groups in the order given take their green-end orders (R79, R45). -/
def orderGreenEnds (e : Env) (l : List Group) (r : Rt) : Rt := l.foldl (fun r g => orderGreenEnd e g r) r

theorem orderGreenEnds_cons (e : Env) (g : Group) (l : List Group) (r : Rt) :
    orderGreenEnds e (g :: l) r = orderGreenEnds e l (orderGreenEnd e g r) := rfl

/-- A group that has not yet taken its order can still take it after another has. -/
theorem takesGreenEnd_orderGreenEnd {e : Env} {g k : Group} {r : Rt} (h : takesGreenEnd e r g = true) (hk : g ≠ k)
    (ht : takesGreenEnd e r k = true) : takesGreenEnd e (orderGreenEnd e g r) k = true := by
  obtain ⟨groups, -⟩ := orderGreenEnd_values h
  exact (takesGreenEnd_congr (r := r) (by rw [groups, if_neg hk])).trans ht

/-- The green-end orders of different groups leave each group's own record, and what `orderGreenEnd` keeps. -/
theorem orderGreenEnds_values {e : Env} : ∀ {l : List Group} {r : Rt}, l.Nodup → (∀ g ∈ l, takesGreenEnd e r g = true) →
    r.follows e →
    let u := orderGreenEnds e l r
    (∀ k, u.groups.get k = if k ∈ l then (r.groups.get k).clears e k else r.groups.get k) ∧
      (∀ k, u.lamp.confirms.get k = if k ∈ l then some ⟨e.now, e.now + 10#32⟩ else r.lamp.confirms.get k) ∧
      (∀ k, u.stage.greenEnds.get k = if k ∈ l then .awaiting else r.stage.greenEnds.get k) ∧
      u.stage = { r.stage with
        greenEnds := u.stage.greenEnds, inter := l.foldl (fun i g => restNoted e g i) r.stage.inter } ∧
      u.follows e ∧ u.notices = r.notices
  | [], r, _, _, hf => ⟨by simp [orderGreenEnds], by simp [orderGreenEnds], by simp [orderGreenEnds], rfl, hf, rfl⟩
  | g :: l, r, hn, ht, hf => by
    obtain ⟨hg, hn⟩ := List.nodup_cons.mp hn
    obtain ⟨htg, ht⟩ := List.forall_mem_cons.mp ht
    obtain ⟨groups, confirms, greenEnds, stage⟩ := orderGreenEnd_values htg
    obtain ⟨follows, notices⟩ := orderGreenEnd_follows htg hf
    obtain ⟨groups', confirms', greenEnds', stage', follows', notices'⟩ := orderGreenEnds_values (e := e) hn
      (fun k hk => takesGreenEnd_orderGreenEnd htg (fun h => hg (h ▸ hk)) (ht k hk)) follows
    have split : ∀ {α : Type} (k : Group) (x y : α), (if k ∈ l then x else if g = k then x else y) =
        if k ∈ g :: l then x else y := fun k x y => by
      by_cases hk : k ∈ l <;> by_cases hgk : g = k <;> simp [hk, hgk, eq_comm]
    refine ⟨fun k => ?_, fun k => ?_, fun k => ?_, ?_, follows', notices'.trans notices⟩
    · rw [orderGreenEnds_cons, groups', groups, ← split]
      by_cases hgk : g = k
      · subst hgk; simp [hg]
      · simp [hgk]
    · rw [orderGreenEnds_cons, confirms', confirms, split]
    · rw [orderGreenEnds_cons, greenEnds', greenEnds, split]
    · rw [orderGreenEnds_cons, stage', stage]
      rfl

/-- After the orders every module of an ordered group shows its slots as they stand. -/
theorem orderGreenEnds_shown {e : Env} : ∀ {l : List Group} {r : Rt} {n : Nat}, l.Nodup →
    (∀ g ∈ l, takesGreenEnd e r g = true) → r.follows e → n + l.length < 48 →
    (∀ a, shown e n a r → shown e (n + l.length) a (orderGreenEnds e l r)) ∧
      ∀ g ∈ l, ∀ m, e.tab.slotOf g = some m → shown e (n + l.length) m.addr (orderGreenEnds e l r)
  | [], r, n, _, _, _, _ => by simp [orderGreenEnds]
  | g :: l, r, n, hn, ht, hf, hlen => by
    obtain ⟨hg, hn⟩ := List.nodup_cons.mp hn
    obtain ⟨htg, ht⟩ := List.forall_mem_cons.mp ht
    have length : n + (g :: l).length = n + 1 + l.length := by simp; omega
    rw [length] at hlen ⊢
    obtain ⟨kept, own⟩ := orderGreenEnds_shown (e := e) (n := n + 1) hn
      (fun k hk => takesGreenEnd_orderGreenEnd htg (fun h => hg (h ▸ hk)) (ht k hk)) (orderGreenEnd_follows htg hf).1 hlen
    refine ⟨fun a ha => kept a (orderGreenEnd_shown_kept htg hf (by omega) ha), fun k hk m hm => ?_⟩
    rcases List.mem_cons.mp hk with rfl | hk
    · exact kept _ (shown_of_le (by omega) (orderGreenEnd_shown_self htg hf hm))
    · exact own k hk m hm

theorem shown.asStands {e : Env} {n : Nat} {g : Group} {r : Rt} (h : ∀ m, e.tab.slotOf g = some m → shown e n m.addr r) :
    shownAsStands e r g := by
  intro m hm
  obtain ⟨sent, before, after, queue, others, -⟩ := h m hm
  refine ⟨fun x hx => ?_, slotAspects e r m.addr, slotAspects_asStand e r m.addr, ?_⟩
  · have addr : x.addr = m.addr := by simpa using List.find?_some hx
    obtain ⟨bright, aspects⟩ := sent x hx
    exact ⟨bright, _, aspects, addr ▸ slotAspects_asStand e r m.addr⟩
  · have none_after : after.filter (fun f => f.dst == m.addr) = [] := by simpa [List.filter_eq_nil_iff] using others
    simp [queue, none_after]

theorem nodup_length_le {l : List Group} (h : l.Nodup) : l.length ≤ 24 := by
  simpa using h.length_le_card

end Sys2Proof.Machine

/-! SUPPORT. Laws for the proofs of the family 01_signal_groups_and_their_aspects: a stage that ends with nothing more happening
at the same moment, and readings of the conditions in STAGE_RUN. -/

namespace Sys2Proof.Machine

/-! ### The end of a stage (R79) -/

/-- The blocks once a stage has ended and its interstage is composed, before the green-end orders (R79). -/
def interstageBegun (e : Env) (x : Stage) (cause : EndCause) (truncated outOfOrder : Bool) (c : StageRec) (r : Rt) : Rt :=
  (stageEndNotice e truncated outOfOrder r).withStage fun s => { s with
    phase := .interstage, inter := some (interstageRecord e r c.stage x cause)
    current := some { c with maxOut := none, gap := none } }

theorem interstageRecord_losing (e : Env) (r : Rt) (c x : Stage) (cause : EndCause) :
    (interstageRecord e r c x cause).losing.map Losing.group = losingGroups e c x := by
  simp [interstageRecord, losingGroups, Function.comp_def]

theorem interstageRecord_gaining (e : Env) (r : Rt) (c x : Stage) (cause : EndCause) :
    (interstageRecord e r c x cause).gaining.map Gaining.group = gainingGroups e r x := by
  simp [interstageRecord, gainingGroups, Function.comp_def]

theorem endStage_eq {e : Env} {x : Stage} {cause : EndCause} {truncated outOfOrder : Bool} {r : Rt} {c : StageRec}
    (hc : r.stage.current = some c) : endStage e x cause truncated outOfOrder r =
      (interstageRecord e r c.stage x cause).gaining.foldl (fun r y => fixAtStart e y r)
        (orderGreenEnds e (losingGroups e c.stage x) (interstageBegun e x cause truncated outOfOrder c r)) := by
  simp only [endStage, hc, ← interstageRecord_losing e r c.stage x cause]
  rfl

/-- A gaining group that waits for a green end to be confirmed is given no green start (R79). -/
theorem allConfirmed_of_awaiting {e : Env} {r : Rt} {x : Gaining} {i : Group} (hi : i ∈ x.constraining)
    (ha : r.stage.greenEnds.get i = .awaiting) : allConfirmed e r x = false := by
  have fewer : (confirmedMoments e r x.group x.constraining).length ≠ x.constraining.length := fun h => by
    have all := List.filterMap_length_eq_length.mp h i hi
    simp [ha] at all
  simpa [allConfirmed] using fewer

theorem foldl_fixAtStart_waiting {e : Env} {r : Rt} (l : List Gaining) (h : ∀ x ∈ l, allConfirmed e r x = false) :
    l.foldl (fun r x => fixAtStart e x r) r = r := by
  induction l with
  | nil => rfl
  | cons x l ih =>
    obtain ⟨hx, hl⟩ := List.forall_mem_cons.mp h
    rw [List.foldl_cons, fixAtStart, hx]
    exact ih hl

/-- The interstage record once those of some groups that have a clearing time of 0 are noted at REST (R12, R82). -/
def Interstage.noteRests (e : Env) (l : List Group) (k : Interstage) : Interstage :=
  { k with losing := k.losing.map fun x => if x.group ∈ l ∧ e.tab.clearing x.group = 0 then { x with rest := true } else x }

theorem noteRests_groups (e : Env) (l : List Group) (k : Interstage) :
    (k.noteRests e l).losing.map Losing.group = k.losing.map Losing.group := by
  rw [Interstage.noteRests, List.map_map]
  exact List.map_congr_left fun y _ => by rw [Function.comp_apply]; split <;> rfl

theorem foldl_restNoted (e : Env) : ∀ (l : List Group) (k : Interstage),
    l.foldl (fun i g => restNoted e g i) (some k) = some (k.noteRests e l)
  | [], k => by simp [Interstage.noteRests]
  | g :: l, k => by
    rw [List.foldl_cons]
    by_cases hc : 0 < e.tab.clearing g
    · rw [restNoted, if_pos hc, foldl_restNoted e l k]
      have same : ∀ x : Losing, (x.group ∈ g :: l ∧ e.tab.clearing x.group = 0) ↔ (x.group ∈ l ∧ e.tab.clearing x.group = 0) :=
        fun x => by
          by_cases hx : x.group = g
          · simp [hx, Nat.pos_iff_ne_zero.mp hc]
          · simp [hx]
      simp only [Interstage.noteRests, same]
    · rw [restNoted, if_neg hc, Option.map_some, foldl_restNoted e l]
      have none_left : e.tab.clearing g = 0 := by omega
      simp only [Interstage.noteRests, Interstage.noteRest, List.map_map, Option.some.injEq, Interstage.mk.injEq, true_and, and_true]
      refine List.map_congr_left fun x _ => ?_
      by_cases hx : x.group = g
      · simp [hx, none_left]
      · simp [hx]

theorem endsCleanly_congr {e : Env} {r r' : Rt} {c x : Stage} (hn : r'.notices = r.notices) (hg : r'.groups = r.groups)
    (hm : r'.monitor = r.monitor) (h : (⟨e, r⟩ : Part).endsCleanly c x) : (⟨e, r'⟩ : Part).endsCleanly c x := by
  obtain ⟨notices, moves, takes, waits, follows⟩ := h
  have gaining : gainingGroups e r' x = gainingGroups e r x := by simp [gainingGroups, Rt.isGreen, hg]
  have taken : ∀ g, takesGreenEnd e r' g = takesGreenEnd e r g := fun g => takesGreenEnd_congr (by rw [hg])
  refine ⟨hn.trans notices, by rw [gaining]; exact moves, fun g hl => (taken g).trans (takes g hl), ?_,
    follows_congr hg hm follows⟩
  rw [gaining]
  exact waits

theorem losingGroups_nodup (e : Env) (c x : Stage) : (losingGroups e c x).Nodup := (greenSet_nodup _ _).filter _

/-- Where a stage can end cleanly its green-end orders are all that its end gives: every gaining group waits. -/
theorem endStage_clean {e : Env} {x : Stage} {cause : EndCause} {truncated outOfOrder : Bool} {r : Rt} {c : StageRec}
    (hc : r.stage.current = some c) (h : (⟨e, r⟩ : Part).endsCleanly c.stage x) :
    endStage e x cause truncated outOfOrder r =
      orderGreenEnds e (losingGroups e c.stage x) (interstageBegun e x cause truncated outOfOrder c r) := by
  obtain ⟨-, -, takes, waits, follows⟩ := h
  have begun : (interstageBegun e x cause truncated outOfOrder c r).follows e :=
    follows_congr (by simp [interstageBegun]) (by simp [interstageBegun]) follows
  have ready : ∀ g ∈ losingGroups e c.stage x, takesGreenEnd e (interstageBegun e x cause truncated outOfOrder c r) g = true :=
    fun g hg => (takesGreenEnd_congr (r := r) (by simp [interstageBegun])).trans (takes g hg)
  obtain ⟨-, -, greenEnds, -⟩ := orderGreenEnds_values (losingGroups_nodup e c.stage x) ready begun
  rw [endStage_eq hc]
  refine foldl_fixAtStart_waiting _ fun y hy => ?_
  obtain ⟨j, hj, rfl⟩ := List.mem_map.mp hy
  obtain ⟨i, hi, conflict⟩ := waits j hj
  refine allConfirmed_of_awaiting (i := i) ?_ (by rw [greenEnds, if_pos hi])
  have losing : i ∈ (e.tab.greenSet c.stage).filter fun g => !e.tab.inStage x g := hi
  simp only [constrainingGroups, List.mem_filter, mem_allGroups, conflict, true_and, Bool.true_and, Bool.or_eq_true]
  exact .inl (by simpa using losing)

@[simp] theorem orderGreenEnds_frame (e : Env) (l : List Group) (r : Rt) :
    (orderGreenEnds e l r).mode = r.mode ∧ (orderGreenEnds e l r).trams = r.trams ∧
    (orderGreenEnds e l r).priority = r.priority := by
  simp [orderGreenEnds]

/-- An interstage is not complete while a group that gains has not reached GREEN, or one that loses has time to clear (R82). -/
theorem restNoted_incomplete {e : Env} {r : Rt} {c x : Stage} {cause : EndCause} {l : List Group}
    (h : gainingGroups e r x ≠ [] ∨ ∃ g ∈ losingGroups e c x, 0 < e.tab.clearing g) :
    ((interstageRecord e r c x cause).noteRests e l).complete = false := by
  rw [Bool.eq_false_iff, ne_eq, complete_iff]
  rintro ⟨green, rest⟩
  rcases h with h | ⟨g, hg, hc⟩
  · obtain ⟨j, hj⟩ := List.exists_mem_of_ne_nil _ h
    have mem : (⟨j, constrainingGroups e r (losingGroups e c x) j, none, false⟩ : Gaining) ∈
        (interstageRecord e r c x cause).gaining := List.mem_map.mpr ⟨j, hj, rfl⟩
    simpa using green _ mem
  · have mem : (⟨g, after e.now (e.tab.clearing g), none, false⟩ : Losing) ∈ (interstageRecord e r c x cause).losing :=
      List.mem_map.mpr ⟨g, hg, rfl⟩
    have at_rest := rest _ (List.mem_map.mpr ⟨_, mem, rfl⟩)
    simp [Nat.pos_iff_ne_zero.mp hc] at at_rest

/-- The stage end of `endStage` is the one that R79 states, and its interstage is not complete at once (R82). -/
theorem endStage_stageEnded {e : Env} {x : Stage} {cause : EndCause} {truncated outOfOrder : Bool} {r : Rt} {c : StageRec}
    (hc : r.stage.current = some c) (h : (⟨e, r⟩ : Part).endsCleanly c.stage x) :
    let u := endStage e x cause truncated outOfOrder r
    stageEnded e r u c.stage x cause ∧ u.notices = [] ∧ ∃ k, u.stage.inter = some k ∧ k.complete = false := by
  have clean := endStage_clean (cause := cause) (truncated := truncated) (outOfOrder := outOfOrder) hc h
  obtain ⟨notices, moves, takes, waits, follows⟩ := h
  generalize hb : interstageBegun e x cause truncated outOfOrder c r = b at clean
  have kept : b.groups = r.groups ∧ b.monitor = r.monitor ∧ b.notices = r.notices ∧ b.mode = r.mode ∧ b.trams = r.trams ∧
      b.lamp = r.lamp := by simp [← hb, interstageBegun]
  have offers : b.priority.holdOffer = none ∧ b.priority.truncOffer = none := by simp [← hb, interstageBegun, stageEndNotice]
  have bstage : b.stage = { r.stage with
      phase := .interstage, inter := some (interstageRecord e r c.stage x cause)
      current := some { c with maxOut := none, gap := none } } := by simp [← hb, interstageBegun]
  obtain ⟨bgroups, bmonitor, bnotices, bmode, btrams, blamp⟩ := kept
  have nodup := losingGroups_nodup e c.stage x
  have ready : ∀ g ∈ losingGroups e c.stage x, takesGreenEnd e b g = true :=
    fun g hg => (takesGreenEnd_congr (r := r) (by rw [bgroups])).trans (takes g hg)
  have begun : b.follows e := follows_congr bgroups bmonitor follows
  obtain ⟨groups, confirms, greenEnds, stage, -, handed⟩ := orderGreenEnds_values nodup ready begun
  have length := nodup_length_le nodup
  obtain ⟨-, asStands⟩ := orderGreenEnds_shown (n := 0) nodup ready begun (by omega)
  rw [bstage, foldl_restNoted] at stage
  rw [clean]
  refine ⟨⟨by simp [bmode], by simp [bmode], by rw [stage], by rw [sameStage, stage, hc]; rfl, ⟨_, by rw [stage], rfl, rfl, rfl, rfl, ?_, ?_,
      fun j hj => ?_, fun i hi => ?_⟩, fun g hg => ⟨?_, ?_, ?_, ?_⟩, fun g hg => ?_, by simp [offers.1], by simp [offers.2],
      by simp [btrams]⟩, handed.trans (bnotices.trans notices), _, by rw [stage], restNoted_incomplete moves⟩
  · exact (noteRests_groups e _ _).trans (interstageRecord_losing e r c.stage x cause)
  · exact interstageRecord_gaining e r c.stage x cause
  · obtain ⟨g, -, rfl⟩ := List.mem_map.mp hj
    exact ⟨rfl, rfl⟩
  · obtain ⟨y, hy, rfl⟩ := List.mem_map.mp hi
    obtain ⟨g, hg, rfl⟩ := List.mem_map.mp hy
    have losing : g ∈ losingGroups e c.stage x := hg
    by_cases hz : e.tab.clearing g = 0 <;> simp [losing, hz]
  · rw [groups, if_pos hg, bgroups]
  · rw [confirms, if_pos hg]
  · rw [greenEnds, if_pos hg]
  · exact shown.asStands (asStands g hg)
  · rw [groups, if_neg hg, bgroups]


/-! ### Readings of the conditions -/

/-- The max-green check changes the max-out moment of the stage record, and the offers with it (R69, R150). -/
theorem maxGreenCheck_only (e : Env) (r : Rt) : maxGreenCheck e r = { r with
    stage := { r.stage with current := (maxGreenCheck e r).stage.current }
    priority := { r.priority with
      holdOffer := (maxGreenCheck e r).priority.holdOffer, truncOffer := (maxGreenCheck e r).priority.truncOffer } } := by
  unfold maxGreenCheck
  split
  · rfl
  · split
    · rw [recomputeOffers_only_offers]; rfl
    · rfl

theorem noteGap_only (e : Env) (r : Rt) : noteGap e r = { r with
    stage := { r.stage with current := (noteGap e r).stage.current } } := by
  unfold noteGap
  split <;> rfl

theorem maxGreenCheck_sameStage (e : Env) (r : Rt) : sameStage r (maxGreenCheck e r) := by
  unfold maxGreenCheck
  split
  · rfl
  · next c hc =>
    split
    · simp [sameStage, hc]
    · rfl

theorem noteGap_sameStage (e : Env) (r : Rt) : sameStage r (noteGap e r) := by
  unfold noteGap
  split
  · simp [sameStage, Function.comp_def]
  · rfl

/-- A command's end while the Stage Engine has nothing to act on: the stage record's max-out moment and reading of gap-out, and
the offers. -/
theorem finish_still_only {e : Env} {r : Rt} (h : r.still e = true) :
    let t := finish e r
    t = { r with
      stage := { r.stage with current := t.stage.current }
      priority := { r.priority with holdOffer := t.priority.holdOffer, truncOffer := t.priority.truncOffer } } ∧ sameStage r t := by
  rw [finish_still e r h]
  have check := maxGreenCheck_only e r
  have note := noteGap_only e (maxGreenCheck e r)
  refine ⟨?_, (noteGap_sameStage e _).trans (maxGreenCheck_sameStage e r)⟩
  have priority : (noteGap e (maxGreenCheck e r)).priority = (maxGreenCheck e r).priority := by simp
  rw [priority]
  calc noteGap e (maxGreenCheck e r) = _ := note
    _ = _ := by
      generalize (noteGap e (maxGreenCheck e r)).stage.current = c
      generalize maxGreenCheck e r = w at check
      rw [check]

/-- What a command's end keeps while the Stage Engine has nothing to act on. -/
theorem finish_still_keeps {e : Env} {r : Rt} (h : r.still e = true) :
    let t := finish e r
    t.mode = r.mode ∧ t.stage = { r.stage with current := t.stage.current } ∧ sameStage r t ∧ t.groups = r.groups ∧
      t.trams = r.trams ∧ t.demand = r.demand ∧ t.report = r.report := by
  obtain ⟨only, same⟩ := finish_still_only h
  refine ⟨?_, congrArg Rt.stage only, same, ?_, ?_, ?_, ?_⟩ <;> rw [finish_still e r h] <;> simp

/-- In a running stage whose max-green timer runs, or outside which no group has demand, the max-green check does nothing. -/
theorem maxGreenCheck_run {e : Env} {r : Rt} {c : StageRec} (hc : r.stage.current = some c)
    (hm : c.maxOut.isSome = true ∨ demandOutside e r = false) : maxGreenCheck e r = r := by
  unfold maxGreenCheck
  rw [hc]
  rcases hm with hm | hm
  · obtain ⟨t, ht⟩ := Option.isSome_iff_exists.mp hm
    simp [ht]
  · simp [hm]

/-- A command's end in a stage whose conditions call for nothing further. -/
theorem finish_stays {e : Env} {r r' : Rt} (hn : r.notices = []) (hm : maxGreenCheck e r = r)
    (heval : stageEval e r = (r', false)) (hn' : r'.notices = []) : finish e r = noteGap e r' := by
  simp only [finish, takeFaults_nil e r hn, Config.stageFuel, settleFor, hm, heval]
  exact takeFaults_nil e _ (by simpa using hn')

/-- A command's end in a stage whose conditions end it cleanly. -/
theorem finish_ends {e : Env} {r r' : Rt} {c : StageRec} {x : Stage} {cause : EndCause} {truncated outOfOrder : Bool}
    (hn : r.notices = []) (hm : maxGreenCheck e r = r)
    (heval : stageEval e r = (endStage e x cause truncated outOfOrder r', true)) (hc : r'.stage.current = some c)
    (h : (⟨e, r'⟩ : Part).endsCleanly c.stage x) :
    finish e r = endStage e x cause truncated outOfOrder r' ∧ stageEnded e r' (finish e r) c.stage x cause := by
  obtain ⟨ended, none_waits, k, inter, incomplete⟩ := endStage_stageEnded (cause := cause) (truncated := truncated)
    (outOfOrder := outOfOrder) hc h
  have phase : (endStage e x cause truncated outOfOrder r').stage.phase = .interstage := ended.2.2.1
  have outside : (endStage e x cause truncated outOfOrder r').inStagePhase = false := by simp [Rt.inStagePhase, phase]
  have settledThere : stageEval e (endStage e x cause truncated outOfOrder r') = (endStage e x cause truncated outOfOrder r', false) := by
    simp [stageEval, phase, inter, incomplete]
  have settled : finish e r = endStage e x cause truncated outOfOrder r' := by
    simp only [finish, takeFaults_nil e r hn, Config.stageFuel, settleFor, hm, heval,
      maxGreenCheck_outside_stage e _ outside, settledThere, noteGap_quiet e _ outside]
    exact takeFaults_nil e _ none_waits
  exact ⟨settled, settled ▸ ended⟩

theorem stageEnded_congr {e : Env} {r0 r0' r : Rt} {c x : Stage} {cause : EndCause} (hm : r0'.mode.mode = r0.mode.mode)
    (hs : r0'.mode.source = r0.mode.source) (hc : r0'.stage.current = r0.stage.current) (hg : r0'.groups = r0.groups)
    (ht : r0'.trams = r0.trams) (h : stageEnded e r0' r c x cause) : stageEnded e r0 r c x cause := by
  have gaining : gainingGroups e r0' x = gainingGroups e r0 x := by simp [gainingGroups, Rt.isGreen, hg]
  unfold stageEnded sameStage at *
  rw [hm, hs, hc, hg, ht, gaining] at h
  exact h


/-- STAGE_RUN under a source reads the mode, the phase, the stage record and, where its max-green timer stands, the demand. -/
theorem inRun_congr {e : Env} {r r' : Rt} {source : Source} {c : StageRec} (hm : r'.mode.mode = r.mode.mode)
    (hs : r'.mode.source = r.mode.source) (hp : r'.stage.phase = r.stage.phase) (hc : r'.stage.current = r.stage.current)
    (hd : r'.demand = r.demand) (h : r.inRun e source c) : r'.inRun e source c := by
  have outside : demandOutside e r' = demandOutside e r := demandOutside_congr hd (by simp [Rt.currentStage, hc])
  simpa [Rt.inRun, hm, hs, hp, hc, outside] using h

theorem maxGreenCheck_inRun {e : Env} {r : Rt} {source : Source} {c : StageRec} (h : r.inRun e source c) :
    maxGreenCheck e r = r := by
  obtain ⟨-, -, -, hc, hm⟩ := h
  exact maxGreenCheck_run hc hm

/-- A running stage that goes on: its record but for the reading of gap-out, and nothing else. -/
theorem noteGap_goesOn {e : Env} {r : Rt} {c : StageRec} (hp : r.stage.phase = .stageRun) (hc : r.stage.current = some c) :
    goesOn r (noteGap e r) c := by
  rw [goesOn, noteGap_run e r c (by simp [Rt.inStagePhase, hp]) hc]
  rfl

end Sys2Proof.Machine

/-! SUPPORT. Proofs of the statements of the family 01_signal_groups_and_their_aspects: GO_STAGE and HOLD. -/

namespace Sys2Proof.Machine

/-! ### The tests (R54, R75, R77) -/

theorem directedOwner_wrongMode (tests : Env → Rt → Rt × Result) (e : Env) (r : Rt) (h : r.mode.mode ≠ .running) :
    directedOwner tests e r = (r, ⟨.wrongMode, []⟩) := by
  simp [directedOwner, h, refuse]

theorem directedOwner_wrongSource (tests : Env → Rt → Rt × Result) (e : Env) (r : Rt) (hm : r.mode.mode = .running)
    (hs : r.mode.source ≠ .directed) :
    directedOwner tests e r = ({ r with mode := { r.mode with ownerViolation := true } }, ⟨.wrongSource, []⟩) := by
  simp [directedOwner, hm, hs, refuse, setOwnerViolation, Rt.withMode]

theorem directedOwner_tests (tests : Env → Rt → Rt × Result) (e : Env) (r : Rt) (hm : r.mode.mode = .running)
    (hs : r.mode.source = .directed) : directedOwner tests e r = tests e r := by
  simp [directedOwner, hm, hs]

/-- The blocks with a GO_STAGE request in its slot (R75). -/
def goRequested (x : Stage) (r : Rt) : Rt := r.withStage fun u => { u with pendingGo := some x }

/-- The blocks with the HOLD flag as HOLD sets it (R77). -/
def holdSet (on : Bool) (r : Rt) : Rt := r.withStage fun u => { u with hold := on }

@[simp] theorem goRequested_frame (x : Stage) (r : Rt) :
    (goRequested x r).mode = r.mode ∧ (goRequested x r).groups = r.groups ∧ (goRequested x r).monitor = r.monitor ∧
    (goRequested x r).demand = r.demand ∧ (goRequested x r).trams = r.trams ∧ (goRequested x r).priority = r.priority ∧
    (goRequested x r).notices = r.notices ∧ (goRequested x r).stage = { r.stage with pendingGo := some x } := by
  simp [goRequested]

@[simp] theorem holdSet_frame (on : Bool) (r : Rt) :
    (holdSet on r).mode = r.mode ∧ (holdSet on r).groups = r.groups ∧ (holdSet on r).monitor = r.monitor ∧
    (holdSet on r).demand = r.demand ∧ (holdSet on r).trams = r.trams ∧ (holdSet on r).priority = r.priority ∧
    (holdSet on r).notices = r.notices ∧ (holdSet on r).stage = { r.stage with hold := on } := by
  simp [holdSet]

section
variable {e : Env} {r : Rt} {b : Byte}

theorem goStageTests_badIndex (h : stageOf b = none) : goStageTests b e r = (r, ⟨.badIndex, []⟩) := by
  simp [goStageTests, h, refuse]

theorem goStageTests_notLoaded {x : Stage} (h : stageOf b = some x) (hx : e.tab.stages.get x = none) :
    goStageTests b e r = (r, ⟨.notLoaded, []⟩) := by
  simp [goStageTests, h, hx, refuse]

theorem goStageTests_notPermitted {x : Stage} (h : stageOf b = some x) (hx : e.tab.stages.get x ≠ none)
    (hp : goPermitted e r x = false) : goStageTests b e r = (r, ⟨.notPermitted, []⟩) := by
  simp [goStageTests, h, hx, hp, refuse]

theorem goStageTests_accepts {x : Stage} (h : stageOf b = some x) (hx : e.tab.stages.get x ≠ none)
    (hp : goPermitted e r x = true) : goStageTests b e r = (finish e (goRequested x r), .accepted) := by
  simp [goStageTests, h, hx, hp, accept, goRequested]

theorem holdTests_accepts {on : Bool} (h : holdValue b = some on) : holdTests b e r = (finish e (holdSet on r), .accepted) := by
  simp [holdTests, h, accept, holdSet]

theorem holdTests_badEntry (h : holdValue b = none) : holdTests b e r = (r, ⟨.badEntry, []⟩) := by
  simp [holdTests, h, refuse]

end

theorem holdValue_on_off {b : Byte} (h : b = 0#8 ∨ b = 1#8) : holdValue b = some (decide (b = 0#8)) := by
  rcases h with rfl | rfl <;> rfl

theorem holdValue_other {b : Byte} (h0 : b ≠ 0#8) (h1 : b ≠ 1#8) : holdValue b = Config.holdOtherValue b := by
  simp [holdValue, firstOf, h0, h1]

theorem goPermitted_congr {e : Env} {r r' : Rt} (x : Stage) (h : r'.stage = r.stage) : goPermitted e r' x = goPermitted e r x := by
  simp [goPermitted, referenceStage, Rt.currentStage, h]

/-! ### In STAGE_RUN under DIRECTED (R76, R77) -/

theorem stageEval_directed {e : Env} {r : Rt} (hm : r.mode.mode = .running) (hs : r.mode.source = .directed)
    (hp : r.stage.phase = .stageRun) : stageEval e r = directedStep e r := by
  simp [stageEval, hm, hs, hp]

theorem directedStep_held {e : Env} {r : Rt} {x : Stage} (hg : r.stage.pendingGo = some x) (hh : r.stage.hold = true) :
    directedStep e r = (r, false) := by
  simp [directedStep, hg, hh]

/-- The blocks once a pending GO_STAGE has been used (R76). -/
def goUsed (r : Rt) : Rt := r.withStage fun u => { u with pendingGo := none }

@[simp] theorem goUsed_frame (r : Rt) :
    (goUsed r).mode = r.mode ∧ (goUsed r).groups = r.groups ∧ (goUsed r).monitor = r.monitor ∧
    (goUsed r).demand = r.demand ∧ (goUsed r).trams = r.trams ∧ (goUsed r).priority = r.priority ∧
    (goUsed r).notices = r.notices ∧ (goUsed r).stage = { r.stage with pendingGo := none } := by
  simp [goUsed]

theorem directedStep_used {e : Env} {r : Rt} {x : Stage} (hg : r.stage.pendingGo = some x) (hh : r.stage.hold = false)
    (hx : holdInEffect e r = false) (hc : r.currentStage = some x) : directedStep e r = (goUsed r, false) := by
  simp [directedStep, hg, hh, hx, hc, goUsed]

theorem directedStep_ends {e : Env} {r : Rt} {x : Stage} (hg : r.stage.pendingGo = some x) (hh : r.stage.hold = false)
    (hx : holdInEffect e r = false) (hc : r.currentStage ≠ some x) :
    directedStep e r = (endStage e x .goStage false false (goUsed r), true) := by
  simp [directedStep, hg, hh, hx, hc, goUsed]


section
variable {e : Env} {r : Rt} {c : StageRec} {x : Stage}

/-- A request that HOLD keeps pending (R77). -/
theorem finish_goHeld (h : r.inRun e .directed c) (hn : r.notices = []) (hg : r.stage.pendingGo = some x)
    (hh : r.stage.hold = true) : goesOn r (finish e r) c := by
  obtain ⟨hm, hs, hp, hc, -⟩ := id h
  rw [finish_stays hn (maxGreenCheck_inRun h) ((stageEval_directed hm hs hp).trans (directedStep_held hg hh)) hn]
  exact noteGap_goesOn hp hc

/-- A request that names the current stage is used up (R76). -/
theorem finish_goUsed (h : r.inRun e .directed c) (hn : r.notices = []) (hg : r.stage.pendingGo = some c.stage)
    (hh : r.stage.hold = false) (hx : holdInEffect e r = false) : goesOn (goUsed r) (finish e r) c := by
  obtain ⟨hm, hs, hp, hc, -⟩ := id h
  rw [finish_stays hn (maxGreenCheck_inRun h)
    ((stageEval_directed hm hs hp).trans (directedStep_used hg hh hx (by simp [Rt.currentStage, hc]))) (by simpa using hn)]
  exact noteGap_goesOn (by simpa using hp) (by simpa using hc)

/-- A request that acts ends the stage toward the one it names (R76). -/
theorem finish_goEnds (h : r.inRun e .directed c) (hn : r.notices = []) (hg : r.stage.pendingGo = some x)
    (hh : r.stage.hold = false) (hx : holdInEffect e r = false) (hne : x ≠ c.stage)
    (hclean : (⟨e, r⟩ : Part).endsCleanly c.stage x) :
    stageEnded e r (finish e r) c.stage x .goStage ∧ (finish e r).stage.pendingGo = none ∧
      (finish e r).stage.hold = r.stage.hold := by
  obtain ⟨hm, hs, hp, hc, -⟩ := id h
  have current : r.currentStage ≠ some x := by simpa [Rt.currentStage, hc] using hne.symm
  obtain ⟨ended, record⟩ := finish_ends (r' := goUsed r) hn (maxGreenCheck_inRun h)
    ((stageEval_directed hm hs hp).trans (directedStep_ends hg hh hx current)) (by simpa using hc)
    (endsCleanly_congr rfl rfl rfl hclean)
  refine ⟨stageEnded_congr rfl rfl rfl rfl rfl record, ?_, ?_⟩ <;> rw [ended] <;> simp [goUsed]

end

/-- GO_STAGE and HOLD are delivered alike. -/
theorem delivered_hold {p : Part} {h : Header} {b : Byte} (hd : Delivered p (controlFrame h 2 [b])) :
    Delivered p (controlFrame h 3 [b]) :=
  delivered_congr p _ _ rfl rfl (by simp [controlFrame, Header.frame]) hd

/-- Settles O26: the tests in their order; a request or a HOLD that finds the Stage Engine still changes its slot or flag, and
in STAGE_RUN the request is held, used up, or ends the stage. -/
theorem goStageAndHold : Obligations.GoStageAndHold := by
  intro s h b e r0 f k hd
  have go := exec_goStage_delivered s h b hd
  have hold := exec_hold_delivered s h b (delivered_hold hd)
  have tests : ∀ t, s.part.rt.mode.mode = .running → s.part.rt.mode.source = .directed →
      directedOwner t s.part.env (s.part.arrived .head) = t s.part.env (s.part.arrived .head) := fun t hm hs =>
    directedOwner_tests t _ _ (by simpa using hm) (by simpa using hs)
  refine ⟨fun hm => ?_, fun hm hs => ?_, fun hm hs => ⟨fun hx => ?_, fun x hx ht => ?_, fun x hx ht hp => ?_,
    fun x hx ht hp hstill => ?_, fun hb hstill => ?_, fun h0 h1 hb => ?_, fun c x hrun hn hx ht hp => ?_,
    fun c x hrun hg hne hb hh hclean => ?_⟩⟩
  · rw [go, hold, directedOwner_wrongMode _ _ _ (by simpa using hm), directedOwner_wrongMode _ _ _ (by simpa using hm)]
    exact ⟨rfl, rfl⟩
  · rw [go, hold, directedOwner_wrongSource _ _ _ (by simpa using hm) (by simpa using hs),
      directedOwner_wrongSource _ _ _ (by simpa using hm) (by simpa using hs)]
    exact ⟨rfl, rfl⟩
  · rw [go, tests _ hm hs, goStageTests_badIndex hx]
  · rw [go, tests _ hm hs, goStageTests_notLoaded hx ht]
  · rw [go, tests _ hm hs, goStageTests_notPermitted hx ht ((goPermitted_congr x (by simp)).trans hp)]
  · have still : (goRequested x (s.part.arrived .head)).still s.part.env = true :=
      (still_congr _ s.part.rt _ (by simp) (by simp) (by simp) (by simp)
        (by simp) (by simp)).trans hstill
    obtain ⟨mode, stage, same, groups, trams, -⟩ := finish_still_keeps still
    rw [tests _ hm hs, goStageTests_accepts hx ht ((goPermitted_congr x (by simp)).trans hp)] at go
    exact ⟨_, go, mode.trans (by simp), stage.trans (by simp [e]), by simpa [sameStage] using same,
      groups.trans (by simp), trams.trans (by simp)⟩
  · have still : (holdSet (decide (b = 0#8)) (s.part.arrived .head)).still s.part.env = true :=
      (still_congr _ s.part.rt _ (by simp) (by simp) (by simp) (by simp)
        (by simp) (by simp)).trans hstill
    obtain ⟨mode, stage, same, groups, trams, -⟩ := finish_still_keeps still
    rw [tests _ hm hs, holdTests_accepts (holdValue_on_off hb)] at hold
    exact ⟨_, hold, mode.trans (by simp), stage.trans (by simp), by simpa [sameStage] using same,
      groups.trans (by simp), trams.trans (by simp)⟩
  · rw [hold, tests _ hm hs, holdTests_badEntry ((holdValue_other h0 h1).trans hb)]
  · have run : (goRequested x (s.part.arrived .head)).inRun s.part.env .directed c :=
      inRun_congr (by simp) (by simp) (by simp) (by simp)
        (by simp) hrun
    have quiet : (goRequested x (s.part.arrived .head)).notices = [] := by simpa using hn
    have slot : (goRequested x (s.part.arrived .head)).stage.pendingGo = some x := by simp
    rw [tests _ hm hs, goStageTests_accepts hx ht ((goPermitted_congr x (by simp)).trans hp)] at go
    refine ⟨fun hh => ⟨_, go, ?_⟩, fun hh hold => ⟨fun hxc => ⟨_, go, ?_⟩, fun hne hclean => ⟨_, go, ?_⟩⟩⟩
    · have stays := finish_goHeld run quiet slot (by simpa using hh)
      exact ⟨(congrArg Rt.stage stays).trans (by simp [e]), (congrArg Rt.groups stays).trans (by simp),
        (congrArg Rt.mode stays).trans (by simp)⟩
    · subst hxc
      have stays := finish_goUsed run quiet slot (by simpa using hh) (by simpa [holdInEffect] using hold)
      exact ⟨(congrArg Rt.stage stays).trans (by simp [e]), (congrArg Rt.groups stays).trans (by simp),
        (congrArg Rt.mode stays).trans (by simp)⟩
    · obtain ⟨ended, used, -⟩ := finish_goEnds run quiet slot (by simpa using hh)
        (by simpa [holdInEffect] using hold) hne (endsCleanly_congr (r := s.part.rt) (by simp) (by simp) (by simp) hclean)
      exact ⟨stageEnded_congr (by simp) (by simp) (by simp) (by simp)
        (by simp) ended, used⟩
  · subst hb
    have run : (holdSet false (s.part.arrived .head)).inRun s.part.env .directed c :=
      inRun_congr (by simp) (by simp) (by simp) (by simp) (by simp) hrun
    obtain ⟨ended, used, off⟩ := finish_goEnds (x := x) run (by simpa using hclean.1) (by simpa using hg)
      (by simp) (by simpa [holdInEffect] using hh) hne
      (endsCleanly_congr (r := s.part.rt) (by simp) (by simp) (by simp) hclean)
    rw [tests _ hm hs, holdTests_accepts (holdValue_on_off (.inr rfl))] at hold
    exact ⟨_, hold, stageEnded_congr (by simp) (by simp) (by simp) (by simp)
      (by simp) ended, used, by simpa using off⟩

end Sys2Proof.Machine

/-! SUPPORT. Proofs of the statements of the family 01_signal_groups_and_their_aspects: the panel keys MANUAL_ON, MANUAL_OFF and
STEP. -/

namespace Sys2Proof.Machine

/-! ### Commands that act on the control alone -/

/-- At most the mode record with the mode itself as it was, the pending GO_STAGE, HOLD, the offers and the report differ. -/
def controlOnly (r0 r : Rt) : Prop :=
  r.mode.mode = r0.mode.mode ∧ r.mode.sub = r0.mode.sub ∧ r = { r0 with
    mode := r.mode
    stage := { r0.stage with pendingGo := r.stage.pendingGo, hold := r.stage.hold }
    priority := { r0.priority with holdOffer := r.priority.holdOffer, truncOffer := r.priority.truncOffer }
    report := r.report }

theorem controlOnly_refl (r : Rt) : controlOnly r r := ⟨rfl, rfl, rfl⟩

theorem controlOnly.trans {r0 r r' : Rt} (h : controlOnly r0 r) (h' : controlOnly r r') : controlOnly r0 r' := by
  obtain ⟨mode, sub, eq⟩ := h
  obtain ⟨mode', sub', eq'⟩ := h'
  refine ⟨mode'.trans mode, sub'.trans sub, eq'.trans ?_⟩
  generalize r'.mode = m, r'.stage = st, r'.priority = pr, r'.report = rep at *
  rw [eq]

theorem giveSource_controlOnly (e : Env) (src : Source) (r : Rt) : controlOnly r (giveSource e src r) := by
  refine ⟨by simp, by simp, ?_⟩
  unfold giveSource
  rw [recomputeOffers_only_offers]
  simp [post]

theorem giveSource_report (e : Env) (src : Source) (r : Rt) :
    (giveSource e src r).report = (post e .sourceChange 255#8 (enc1 src.code) r).report := by
  simp [giveSource, post, noSubject]

theorem setSource_controlOnly (e : Env) (src : Source) (r : Rt) : controlOnly r (setSource e src r) := by
  unfold setSource
  split
  · exact controlOnly_refl r
  · exact giveSource_controlOnly e src r

theorem setSource_report {e : Env} {src : Source} {r : Rt} (h : r.mode.source ≠ src) :
    (setSource e src r).report = (post e .sourceChange 255#8 (enc1 src.code) r).report := by
  rw [setSource, if_neg h, giveSource_report]

theorem post_report_congr {e : Env} {kind : EventKind} {subject : Byte} {detail : List Byte} {r r' : Rt} (h : r'.report = r.report) :
    (post e kind subject detail r').report = (post e kind subject detail r).report := by
  simp [post, h]

theorem dropDirected_controlOnly (r : Rt) : controlOnly r (dropDirected r) := ⟨rfl, rfl, rfl⟩

theorem dropStep_controlOnly (r : Rt) : controlOnly r (dropStep r) := ⟨rfl, rfl, rfl⟩

/-- A change of the control alone keeps the Stage Engine still, and its reading of the conditions keeps the change. -/
theorem finish_controlOnly {e : Env} {r0 r : Rt} (h : controlOnly r0 r) (hs : r0.still e = true) :
    let t := finish e r
    controlAlone r0 t ∧ t.mode = r.mode ∧ t.report = r.report ∧ t.stage.pendingGo = r.stage.pendingGo ∧
      t.stage.hold = r.stage.hold ∧ t.groups = r0.groups ∧ t.trams = r0.trams := by
  obtain ⟨mode, sub, eq⟩ := h
  have still : r.still e = true := (still_congr e r0 r (by rw [eq]) (by rw [eq]) (by rw [eq]) mode sub (by rw [eq])).trans hs
  obtain ⟨only, -⟩ := finish_still_only still
  obtain ⟨kmode, kstage, same, groups, trams, -, report⟩ := finish_still_keeps still
  have current : r.stage.current = r0.stage.current := by rw [eq]
  refine ⟨⟨by simpa [sameStage, current] using same, ?_⟩, kmode, report, by rw [kstage], by rw [kstage],
    groups.trans (by rw [eq]), trams.trans (by rw [eq])⟩
  generalize finish e r = t at *
  rw [only, eq]

/-! ### The keys (R59, R60) -/

theorem manualOnRun_controlOnly (e : Env) (r : Rt) : controlOnly r (manualOnRun e r) := by
  unfold manualOnRun
  split
  · refine .trans ?_ (setSource_controlOnly e .manual _)
    split
    · exact dropDirected_controlOnly r
    · exact controlOnly_refl r
  · exact controlOnly_refl r

theorem manualOffRun_controlOnly (e : Env) (r : Rt) : controlOnly r (manualOffRun e r) := by
  unfold manualOffRun
  split
  · exact (dropStep_controlOnly r).trans (setSource_controlOnly e .autonomous _)
  · exact controlOnly_refl r

theorem stepRun_controlOnly (e : Env) (r : Rt) : controlOnly r (stepRun e r) := by
  unfold stepRun
  split
  · exact ⟨rfl, rfl, rfl⟩
  · exact controlOnly_refl r

theorem frameOk_keyFrame {h : Header} (k : Nat) (hd : dstOk h.dst = true) : frameOk (keyFrame h k []) = true := by
  simp [frameOk, keyFrame, Header.frame, hd]

/-- What MANUAL_ON leaves of the control (R59). -/
theorem manualOnRun_values (e : Env) (r : Rt) :
    let u := manualOnRun e r
    (r.mode.mode ≠ .running → u = r) ∧
      (r.mode.mode = .running → u.mode = { r.mode with source := .manual } ∧
        u.stage.pendingGo = (if r.mode.source = .directed then none else r.stage.pendingGo) ∧
        u.stage.hold = (if r.mode.source = .directed then false else r.stage.hold)) ∧
      (r.mode.source = .manual → u.report = r.report) ∧
      (r.mode.mode = .running → r.mode.source ≠ .manual → u.report = (post e .sourceChange 255#8 [3#8] r).report) := by
  refine ⟨fun h => by simp [manualOnRun, h], fun h => ?_, fun h => ?_, fun h hs => ?_⟩
  · by_cases hd : r.mode.source = .directed <;> simp [manualOnRun, h, hd, setSource_mode, dropDirected]
  · by_cases hm : r.mode.mode = .running <;> simp [manualOnRun, setSource, hm, h]
  · by_cases hd : r.mode.source = .directed
    · simp only [manualOnRun, h, hd, if_true]
      rw [setSource_report (by simp [hd]), post_report_congr (r := r) (by simp)]
      rfl
    · simp only [manualOnRun, h, hd, if_true, if_false]
      exact setSource_report hs

/-- What MANUAL_OFF leaves of the control (R59). -/
theorem manualOffRun_values (e : Env) (r : Rt) :
    let u := manualOffRun e r
    (r.mode.mode ≠ .running ∨ r.mode.source ≠ .manual → u = r) ∧ u.stage = r.stage ∧
      (r.mode.mode = .running → r.mode.source = .manual →
        u.mode = { r.mode with source := .autonomous, pendingStep := false } ∧
        u.report = (post e .sourceChange 255#8 [1#8] r).report) := by
  refine ⟨fun h => ?_, ?_, fun hm hs => ⟨?_, ?_⟩⟩
  · have other : ¬ (r.mode.mode = .running ∧ r.mode.source = .manual) := fun ⟨hm, hs⟩ => h.elim (fun n => n hm) fun n => n hs
    simp [manualOffRun, other]
  · unfold manualOffRun
    split <;> simp [dropStep]
  · simp [manualOffRun, hm, hs, setSource_mode, dropStep]
  · simp only [manualOffRun, hm, hs, and_self, if_true]
    rw [setSource_report (by simp [hs, dropStep]), post_report_congr (r := r) (by simp [dropStep])]
    rfl

/-- What STEP leaves of the control (R60). -/
theorem stepRun_values (e : Env) (r : Rt) :
    let u := stepRun e r
    (r.mode.mode ≠ .running ∨ r.mode.source ≠ .manual → u = r) ∧ u.stage = r.stage ∧ u.report = r.report ∧
      (r.mode.mode = .running → r.mode.source = .manual → u.mode = { r.mode with pendingStep := true }) := by
  refine ⟨fun h => ?_, ?_, ?_, fun hm hs => ?_⟩
  · have other : ¬ (r.mode.mode = .running ∧ r.mode.source = .manual) := fun ⟨hm, hs⟩ => h.elim (fun n => n hm) fun n => n hs
    simp [stepRun, other]
  · unfold stepRun; split <;> simp
  · unfold stepRun; split <;> simp
  · simp [stepRun, hm, hs]

/-! ### STEP in STAGE_RUN (R60, R74) -/

theorem stageEval_manual {e : Env} {r : Rt} (hm : r.mode.mode = .running) (hs : r.mode.source = .manual)
    (hp : r.stage.phase = .stageRun) : stageEval e r = manualStep e r := by
  simp [stageEval, hm, hs, hp]

theorem nextManual_congr {e : Env} {r r' : Rt} (h : r'.stage = r.stage) : nextManual e r' = nextManual e r := by
  have order : searchOrder r' = searchOrder r := by simp [searchOrder, Rt.sequence, Rt.currentStage, h]
  have test : manualTest e r' = manualTest e r := by
    funext s
    simp [manualTest, permittedFromCurrent, Rt.currentStage, h]
  rw [nextManual, nextManual, order, test]

/-- A STEP that finds no stage is used up (R60). -/
theorem finish_stepUsed {e : Env} {r : Rt} {c : StageRec} (h : r.inRun e .manual c) (hn : r.notices = [])
    (hs : r.mode.pendingStep = true) (hx : nextManual e r = none) : goesOn (dropStep r) (finish e r) c := by
  obtain ⟨hm, hsrc, hp, hc, -⟩ := id h
  have step : manualStep e r = (dropStep r, false) := by simp [manualStep, hs, hx]
  rw [finish_stays hn (maxGreenCheck_inRun h) ((stageEval_manual hm hsrc hp).trans step) (by simpa [dropStep] using hn)]
  exact noteGap_goesOn (by simpa [dropStep] using hp) (by simpa [dropStep] using hc)

/-- A STEP that finds a stage ends the current one toward it (R60, R74). -/
theorem finish_stepEnds {e : Env} {r : Rt} {c : StageRec} {x : Stage} (h : r.inRun e .manual c) (hn : r.notices = [])
    (hs : r.mode.pendingStep = true) (hx : nextManual e r = some x) (hclean : (⟨e, r⟩ : Part).endsCleanly c.stage x) :
    stageEnded e r (finish e r) c.stage x .step ∧ (finish e r).mode = { r.mode with pendingStep := false } := by
  obtain ⟨hm, hsrc, hp, hc, -⟩ := id h
  have step : manualStep e r = (endStage e x .step false false (dropStep r), true) := by simp [manualStep, hs, hx]
  obtain ⟨ended, record⟩ := finish_ends (r' := dropStep r) hn (maxGreenCheck_inRun h)
    ((stageEval_manual hm hsrc hp).trans step) (by simpa [dropStep] using hc) (endsCleanly_congr rfl rfl rfl hclean)
  exact ⟨stageEnded_congr rfl rfl rfl rfl rfl record, by rw [ended]; simp [dropStep]⟩

/-- Settles O48: the keys change the control alone while the Stage Engine is still, and STEP in STAGE_RUN is used up or ends the
stage. -/
theorem panelKeysSetSource : Obligations.PanelKeysSetSource := by
  constructor
  · intro s h e u a hd hstill
    have still : a.still e = true := (still_congr e u a (by simp [a, u]) (by simp [a, u]) (by simp [a, u]) (by simp [a, u])
      (by simp [a, u]) (by simp [a, u])).trans hstill
    obtain ⟨onAlone, onMode, onReport, onGo, onHold, onGroups, onTrams⟩ := finish_controlOnly (manualOnRun_controlOnly e a) still
    obtain ⟨offAlone, offMode, offReport, offGo, offHold, offGroups, offTrams⟩ :=
      finish_controlOnly (manualOffRun_controlOnly e a) still
    obtain ⟨stepAlone, stepMode, stepReport, stepGo, stepHold, stepGroups, stepTrams⟩ :=
      finish_controlOnly (stepRun_controlOnly e a) still
    obtain ⟨onOther, onRunning, onSame, onPosted⟩ := manualOnRun_values e a
    obtain ⟨offOther, offStage, offRunning⟩ := manualOffRun_values e a
    obtain ⟨stepOther, stepStage, stepSame, stepRunning⟩ := stepRun_values e a
    have amode : a.mode = u.mode := by simp [a, u]
    have astage : a.stage = u.stage := by simp [a, u]
    have agroups : a.groups = u.groups := by simp [a, u]
    have atrams : a.trams = u.trams := by simp [a, u]
    rw [amode] at onOther onRunning onSame onPosted offOther offRunning stepOther stepRunning
    rw [astage] at onRunning offStage stepStage
    rw [agroups] at onGroups offGroups stepGroups
    rw [atrams] at onTrams offTrams stepTrams
    refine ⟨finish e (manualOnRun e a), finish e (manualOffRun e a), finish e (stepRun e a),
      exec_manualOn s h (frameOk_keyFrame 1 hd), exec_manualOff s h (frameOk_keyFrame 2 hd),
      exec_stepKey s h (frameOk_keyFrame 3 hd), ⟨onGroups, onTrams, offGroups, offTrams, stepGroups, stepTrams⟩,
      ⟨onAlone, offAlone, stepAlone, stepReport.trans stepSame, by rw [stepGo, stepStage], by rw [stepHold, stepStage],
        by rw [offGo, offStage], by rw [offHold, offStage], fun hor => ?_, fun hm hs => ⟨?_, ?_⟩, fun hm hs => ?_, fun hm => ⟨?_, ?_⟩⟩,
      fun hm => ⟨?_, ?_, ?_⟩, fun hm => ⟨?_, ?_⟩, fun hm hs => ⟨?_, ?_⟩, fun hor => ⟨?_, ?_⟩⟩
    · rcases hor with hm | hs
      · rw [onReport, onOther hm]
      · rw [onReport, onSame hs]
    · exact onReport.trans (onPosted hm hs)
    · rw [offReport, offOther (.inr hs)]
    · exact offReport.trans (offRunning hm hs).2
    · rw [onHold, onOther hm, astage]
    · rw [offReport, offOther (.inl hm)]
    · exact onMode.trans (onRunning hm).1
    · exact onGo.trans (onRunning hm).2.1
    · exact onHold.trans (onRunning hm).2.2
    · rw [onMode, onOther hm, amode]
    · rw [onGo, onOther hm, astage]
    · exact offMode.trans (offRunning hm hs).1
    · exact stepMode.trans (stepRunning hm hs)
    · rw [offMode, offOther hor, amode]
    · rw [stepMode, stepOther hor, amode]
  · intro s h c e u hd hrun hn
    obtain ⟨hm, hs, -, hc, -⟩ := id hrun
    have pressed : stepRun e (s.part.arrived .field) = (s.part.arrived .field).withMode fun m => { m with pendingStep := true } := by
      simp [stepRun, hm, hs, u]
    have run : (stepRun e (s.part.arrived .field)).inRun e .manual c :=
      inRun_congr (r := u) (by simp [pressed, u]) (by simp [pressed, u]) (by simp [pressed, u]) (by simp [pressed, u])
        (by simp [pressed, u]) hrun
    have quiet : (stepRun e (s.part.arrived .field)).notices = [] := by simpa [pressed] using hn
    have pending : (stepRun e (s.part.arrived .field)).mode.pendingStep = true := by simp [pressed]
    have next := nextManual_congr (e := e) (r := u) (r' := stepRun e (s.part.arrived .field)) (by simp [pressed, u])
    refine ⟨finish e (stepRun e (s.part.arrived .field)), exec_stepKey s h (frameOk_keyFrame 3 hd), fun hx => ?_, fun x hx hclean => ?_⟩
    · have stays := finish_stepUsed run quiet pending (next.trans hx)
      exact ⟨(congrArg Rt.mode stays).trans (by simp [dropStep, pressed, u]),
        (congrArg Rt.groups stays).trans (by simp [dropStep, pressed, u]),
        (congrArg Rt.stage stays).trans (by simp [dropStep, pressed, u])⟩
    · obtain ⟨ended, used⟩ := finish_stepEnds run quiet pending (next.trans hx)
        (endsCleanly_congr (r := u) (by simp [pressed, u]) (by simp [pressed, u]) (by simp [pressed, u]) hclean)
      exact ⟨stageEnded_congr (by simp [pressed, u]) (by simp [pressed, u]) (by simp [pressed, u]) (by simp [pressed, u])
        (by simp [pressed, u]) ended, used.trans (by simp [pressed, u])⟩

end Sys2Proof.Machine

/-! SUPPORT. Proofs of the statements of the family 01_signal_groups_and_their_aspects: STOP and FLASH_KEY. -/

namespace Sys2Proof.Machine

/-! ### SHUTDOWN is entered (R44) -/

theorem stopOwner_shutdown (e : Env) (r : Rt) (h : r.mode.mode = .shutdown) : stopOwner e r = (r, ⟨.ok, []⟩) := by
  simp [stopOwner, h]
  rfl

theorem stopOwner_wrongMode (e : Env) (r : Rt) (h : r.mode.mode = .dark ∨ r.mode.mode = .flash ∨ r.mode.mode = .startup) :
    stopOwner e r = (r, ⟨.wrongMode, []⟩) := by
  rcases h with h | h | h <;> simp [stopOwner, h, refuse]

theorem stopOwner_running (e : Env) (r : Rt) (h : r.mode.mode = .running) :
    stopOwner e r = (finish e (enterShutdown e r), .accepted) := by
  simp [stopOwner, h, accept]

theorem flashKeyRun_running (e : Env) (r : Rt) (h : r.mode.mode = .running) : flashKeyRun e r = enterShutdown e r := by
  simp [flashKeyRun, h]

theorem flashKeyRun_other (e : Env) (r : Rt) (h : r.mode.mode ≠ .running) : flashKeyRun e r = r := by
  simp [flashKeyRun, h]

/-- Outside RUNNING an absent offer stays absent when the source is set. -/
theorem setSource_offers {e : Env} {src : Source} {r : Rt} (hm : r.mode.mode ≠ .running)
    (ho : r.priority.holdOffer = none ∧ r.priority.truncOffer = none) :
    (setSource e src r).priority.holdOffer = none ∧ (setSource e src r).priority.truncOffer = none := by
  unfold setSource
  split
  · exact ho
  · exact recomputeOffers_absent e _ (mayOffer_eq_false _ (.inl (by simpa using hm)))

theorem maxGreenCheck_offers {e : Env} {r : Rt} (hm : r.mode.mode ≠ .running)
    (ho : r.priority.holdOffer = none ∧ r.priority.truncOffer = none) :
    (maxGreenCheck e r).priority.holdOffer = none ∧ (maxGreenCheck e r).priority.truncOffer = none := by
  unfold maxGreenCheck
  split
  · exact ho
  · split
    · exact recomputeOffers_absent e _ (mayOffer_eq_false _ (.inl (by simpa using hm)))
    · exact ho

/-- What SHUTDOWN in FINISHING changes of the blocks (R44), and what goes on. -/
theorem enterShutdown_values {e : Env} {r : Rt} (h : r.mode.mode = .running) :
    let u := enterShutdown e r
    u.mode = { r.mode with mode := .shutdown, sub := .finishing, phaseDue := none, source := .none, pendingStep := false } ∧
      u.stage = { r.stage with pendingGo := none, hold := false } ∧ u.groups = r.groups ∧ u.monitor = r.monitor ∧
      u.trams = r.trams ∧ u.lamp = r.lamp ∧ u.notices = r.notices ∧ u.ring = r.ring ∧
      u.priority.holdOffer = none ∧ u.priority.truncOffer = none := by
  have service := setMode_service e .shutdown .finishing r (by simp [h]) (.inr rfl)
  have offers := setSource_offers (e := e) (src := .none) (r := setMode e .shutdown .finishing r) (by simp [setMode_mode])
    (setMode_offers_none e .shutdown .finishing r (by simp))
  refine ⟨by simp [enterShutdown, dropStep, setSource_mode, setMode_mode], ?_, by simp [enterShutdown, dropStep],
    ?_, ?_, ?_, ?_, ?_, by simpa [enterShutdown, dropStep] using offers.1, by simpa [enterShutdown, dropStep] using offers.2⟩
  all_goals simp [enterShutdown, dropStep, service, stageNotice, dropDirected]

/-- The Stage Engine in a stage or an interstage stays still across a change of mode. -/
theorem still_of_phase {e : Env} {r r' : Rt} (hn : r'.notices = r.notices) (hp : r'.stage.phase = r.stage.phase)
    (hi : r'.stage.inter = r.stage.inter) (h : r.still e = true) (hidle : r.stage.phase ≠ .idle) : r'.still e = true := by
  cases hq : r.stage.phase <;> simp [Rt.still, hn, hp, hi, hq] at h hidle ⊢ <;> exact h

/-- STOP in an unfinished stage or interstage (R44). -/
theorem finish_enterShutdown {e : Env} {r : Rt} (hm : r.mode.mode = .running) (hs : r.still e = true)
    (hp : r.stage.phase ≠ .idle) : shutdownEntered r (finish e (enterShutdown e r)) := by
  obtain ⟨mode, stage, groups, -, trams, -, notices, -, hold, trunc⟩ := enterShutdown_values (e := e) hm
  have still : (enterShutdown e r).still e = true := still_of_phase notices (by simp [stage]) (by simp [stage]) hs hp
  obtain ⟨kmode, kstage, same, kgroups, ktrams, -⟩ := finish_still_keeps still
  obtain ⟨khold, ktrunc⟩ := maxGreenCheck_offers (e := e) (r := enterShutdown e r) (by simp [mode]) ⟨hold, trunc⟩
  have same' : sameStage r (finish e (enterShutdown e r)) := same.trans (by simp [stage])
  have current : (finish e (enterShutdown e r)).currentStage = r.currentStage := by
    have stages := congrArg (Option.map Prod.fst) same'
    simpa [Rt.currentStage, Function.comp_def] using stages
  refine ⟨kmode.trans mode, kstage.trans (by simp [stage]), same', current, kgroups.trans groups, ktrams.trans trams, ?_, ?_⟩ <;>
    rw [finish_still e _ still] <;> simp [khold, ktrunc]


/-! ### CLEARING_ALL is entered (R45, R46) -/

/-- The blocks at the mode notice of CLEARING_ALL, before the green-end orders. -/
def clearingNoticed (e : Env) (r : Rt) : Rt := setMode e .shutdown .clearingAll r

theorem clearingAll_eq (e : Env) (r : Rt) : clearingAll e r =
    (orderGreenEnds e (allGroups.filter (clearingNoticed e r).isGreen) (clearingNoticed e r)).withStage fun s =>
      { s with phase := .idle, current := none } := rfl

theorem clearingNoticed_values {e : Env} {r : Rt} (h : r.mode.mode = .shutdown) :
    let u := clearingNoticed e r
    u.mode = { r.mode with mode := .shutdown, sub := .clearingAll, phaseDue := none } ∧ u.stage = r.stage ∧
      u.groups = r.groups ∧ u.monitor = r.monitor ∧ u.notices = r.notices ∧ u.trams = r.trams ∧
      u.priority.holdOffer = none ∧ u.priority.truncOffer = none := by
  have service := setMode_service e .shutdown .clearingAll r (by simp [h]) (.inr rfl)
  have offers := setMode_offers_none e .shutdown .clearingAll r (by simp)
  refine ⟨setMode_mode e _ _ r, ?_, by simp [clearingNoticed], ?_, ?_, ?_, offers.1, offers.2⟩
  all_goals simp [clearingNoticed, service, stageNotice]

/-- CLEARING_ALL gives every group in GREEN its green-end order (R45, R46), and one that takes time to clear keeps it from
ending at once. -/
theorem clearingAll_values {e : Env} {r : Rt} (hm : r.mode.mode = .shutdown) (hf : r.follows e)
    (ht : ∀ g, r.isGreen g = true → takesGreenEnd e r g = true) :
    let u := clearingAll e r
    u.mode = { r.mode with mode := .shutdown, sub := .clearingAll, phaseDue := none } ∧
      u.stage.phase = .idle ∧ u.stage.current = none ∧ u.stage.pendingGo = r.stage.pendingGo ∧ u.stage.hold = r.stage.hold ∧
      (∀ g : Group, r.isGreen g = true → u.groups.get g = (r.groups.get g).clears e g ∧
        u.lamp.confirms.get g = some ⟨e.now, e.now + 10#32⟩ ∧ u.stage.greenEnds.get g = .awaiting ∧ shownAsStands e u g) ∧
      (∀ g : Group, r.isGreen g = false → u.groups.get g = r.groups.get g) ∧ u.notices = r.notices ∧
      u.trams = r.trams ∧ u.priority.holdOffer = none ∧ u.priority.truncOffer = none := by
  obtain ⟨mode, stage, groups, monitor, notices, trams, hold, trunc⟩ := clearingNoticed_values (e := e) hm
  rw [clearingAll_eq]
  generalize clearingNoticed e r = w at *
  have green : w.isGreen = r.isGreen := by funext g; simp [Rt.isGreen, groups]
  have nodup : (allGroups.filter w.isGreen).Nodup := allGroups_nodup.filter _
  have mem : ∀ g, g ∈ allGroups.filter w.isGreen ↔ r.isGreen g = true := fun g => by simp [green]
  have ready : ∀ g ∈ allGroups.filter w.isGreen, takesGreenEnd e w g = true := fun g hg =>
    (takesGreenEnd_congr (r := r) (by rw [groups])).trans (ht g ((mem g).mp hg))
  have begun : w.follows e := follows_congr groups monitor hf
  obtain ⟨groups', confirms', greenEnds', stage', -, notices'⟩ := orderGreenEnds_values nodup ready begun
  have length := nodup_length_le nodup
  obtain ⟨-, asStands⟩ := orderGreenEnds_shown (n := 0) nodup ready begun (by omega)
  refine ⟨by simp [mode], rfl, rfl, ?_, ?_, fun g hg => ⟨?_, ?_, ?_, ?_⟩, fun g hg => ?_, notices'.trans notices,
    by simp [trams], by simp [hold], by simp [trunc]⟩
  · exact (congrArg StageUnit.pendingGo stage').trans (by rw [← stage])
  · exact (congrArg StageUnit.hold stage').trans (by rw [← stage])
  · exact (groups' g).trans (by rw [if_pos ((mem g).mpr hg), groups])
  · exact (confirms' g).trans (by rw [if_pos ((mem g).mpr hg)])
  · exact (greenEnds' g).trans (by rw [if_pos ((mem g).mpr hg)])
  · exact shown.asStands (asStands g ((mem g).mpr hg))
  · exact (groups' g).trans (by rw [if_neg (fun h => by simp [(mem g).mp h] at hg), groups])

/-- STOP in a stage past its min-end (R45, R46). -/
theorem finish_clearingAll {e : Env} {r : Rt} (hm : r.mode.mode = .running) (hn : r.notices = []) (hp : r.stage.phase = .stageRun)
    (hf : r.follows e) (hc : ∃ g, e.tab.isDefined g = true ∧ r.isGreen g = true ∧ 0 < e.tab.clearing g)
    (ht : ∀ g, r.isGreen g = true → takesGreenEnd e r g = true) :
    clearingAllEntered e r (finish e (enterShutdown e r)) := by
  obtain ⟨mode, stage, groups, monitor, trams, -, notices, -⟩ := enterShutdown_values (e := e) hm
  have kept : (maxGreenCheck e (enterShutdown e r)).mode = (enterShutdown e r).mode ∧
      (maxGreenCheck e (enterShutdown e r)).stage.phase = .stageRun ∧
      (maxGreenCheck e (enterShutdown e r)).stage.pendingGo = none ∧ (maxGreenCheck e (enterShutdown e r)).stage.hold = false ∧
      (maxGreenCheck e (enterShutdown e r)).groups = r.groups ∧ (maxGreenCheck e (enterShutdown e r)).monitor = r.monitor ∧
      (maxGreenCheck e (enterShutdown e r)).notices = [] ∧ (maxGreenCheck e (enterShutdown e r)).trams = r.trams := by
    simp [stage, hp, monitor, notices, hn, trams]
  have settle : ∀ w : Rt, w = maxGreenCheck e (enterShutdown e r) → stageEval e w = (clearingAll e w, true) →
      maxGreenCheck e (clearingAll e w) = clearingAll e w → stageEval e (clearingAll e w) = (clearingAll e w, false) →
      noteGap e (clearingAll e w) = clearingAll e w → (clearingAll e w).notices = [] →
      finish e (enterShutdown e r) = clearingAll e w := fun w hw h1 h2 h3 h4 h5 => by
    simp only [finish, takeFaults_nil e _ (notices.trans hn), Config.stageFuel, settleFor, ← hw, h1, h2, h3, h4]
    exact takeFaults_nil e _ h5
  generalize hw : maxGreenCheck e (enterShutdown e r) = w at *
  obtain ⟨wmode, wphase, wgo, whold, wgroups, wmonitor, wnotices, wtrams⟩ := kept
  have wgreen : w.isGreen = r.isGreen := by funext g; simp [Rt.isGreen, wgroups]
  obtain ⟨mode', phase, current, go, hold, cleared, others, none_waits, trams', holdOffer, truncOffer⟩ := clearingAll_values
    (e := e) (r := w) (by rw [wmode, mode]) (follows_congr wgroups wmonitor hf) fun g hg =>
      (takesGreenEnd_congr (r := r) (by rw [wgroups])).trans (ht g (by rwa [wgreen] at hg))
  have outside : (clearingAll e w).inStagePhase = false := by simp [Rt.inStagePhase, phase]
  have clears : allRest e (clearingAll e w) = false := by
    obtain ⟨g, defined, green, time⟩ := hc
    refine Bool.eq_false_iff.mpr fun all => ?_
    have rest := allRest_iff.mp all g defined
    rw [(cleared g (by rwa [wgreen])).1] at rest
    simp [Nat.pos_iff_ne_zero.mp time] at rest
  have eval : stageEval e w = (clearingAll e w, true) := by simp [stageEval, wphase, wmode, mode]
  have settled : stageEval e (clearingAll e w) = (clearingAll e w, false) := by simp [stageEval, phase, clears]
  rw [settle w rfl eval (maxGreenCheck_outside_stage e _ outside) settled (noteGap_quiet e _ outside) (none_waits.trans wnotices)]
  refine ⟨by rw [mode', wmode, mode], phase, current, go.trans wgo, hold.trans whold, fun g hg => ?_, fun g hg => ?_,
    trams'.trans wtrams, holdOffer, truncOffer⟩
  · rw [← wgroups]; exact cleared g (by rwa [wgreen])
  · rw [← wgroups]; exact others g (by rwa [wgreen])

theorem shutdownEntered_congr {r0 r0' r : Rt} (hm : r0'.mode = r0.mode) (hs : r0'.stage = r0.stage) (hg : r0'.groups = r0.groups)
    (ht : r0'.trams = r0.trams) (h : shutdownEntered r0' r) : shutdownEntered r0 r := by
  unfold shutdownEntered sameStage Rt.currentStage at *
  rw [hm, hs, hg, ht] at h
  exact h

theorem clearingAllEntered_congr {e : Env} {r0 r0' r : Rt} (hm : r0'.mode = r0.mode) (hg : r0'.groups = r0.groups)
    (ht : r0'.trams = r0.trams) (h : clearingAllEntered e r0' r) : clearingAllEntered e r0 r := by
  unfold clearingAllEntered Rt.isGreen at *
  rw [hm, hg, ht] at h
  exact h

/-- Settles O21: STOP and the key in RUNNING are `enterShutdown`, which goes on until min-end or enters CLEARING_ALL; in the
other modes STOP answers and the key does nothing. -/
theorem stopAndFlashKeyEnterShutdown : Obligations.StopAndFlashKeyEnterShutdown := by
  intro s h e answered
  have arrivedStill : ∀ p : Port, s.part.still → (s.part.arrived p).still e = true := fun p hs =>
    (still_congr e s.part.rt _ (by simp) (by simp) (by simp) (by simp) (by simp) (by simp)).trans hs
  have entered : ∀ p : Port, s.part.rt.mode.mode = .running → s.part.still → s.part.rt.stage.phase ≠ .idle →
      shutdownEntered s.part.rt (finish e (enterShutdown e (s.part.arrived p))) := fun p hm hs hp =>
    shutdownEntered_congr (by simp) (by simp) (by simp) (by simp)
      (finish_enterShutdown (by simpa using hm) (arrivedStill p hs) (by simpa using hp))
  have cleared : ∀ p : Port, s.part.rt.mode.mode = .running → s.part.rt.notices = [] → s.part.rt.stage.phase = .stageRun →
      s.part.monitorFollows → (∃ g, e.tab.isDefined g = true ∧ s.part.rt.isGreen g = true ∧ 0 < e.tab.clearing g) →
      (∀ g, s.part.rt.isGreen g = true → takesGreenEnd e s.part.rt g = true) →
      clearingAllEntered e s.part.rt (finish e (enterShutdown e (s.part.arrived p))) := fun p hm hn hp hf hc ht =>
    clearingAllEntered_congr (by simp) (by simp) (by simp) (finish_clearingAll (by simpa using hm) (by simpa using hn)
      (by simpa using hp) (follows_congr (r := s.part.rt) (by simp) (by simp) hf) (by simpa [Rt.isGreen] using hc)
      (by simpa [Rt.isGreen, takesGreenEnd] using ht))
  have stops : s.part.rt.mode.mode = .running → Delivered s.part (junctionFrame h 3 []) → exec (.stop h []) s =
      .next (s.withRt (answer e (junctionFrame h 3 []) .accepted (finish e (enterShutdown e (s.part.arrived .head))))) := fun hm hd => by
    rw [exec_stop_delivered s h hd, stopOwner_running _ _ (by simpa using hm)]
  have keyed : s.part.rt.mode.mode = .running → frameOk (keyFrame h 0 []) = true → exec (.flashKey h []) s =
      .next (s.withRt (forwardTo e .head (keyFrame h 0 []) (finish e (enterShutdown e (s.part.arrived .field))))) := fun hm hf => by
    rw [exec_flashKey s h hf, flashKeyRun_running _ _ (by simpa using hm)]
  refine ⟨fun hd => ⟨fun hm => ?_, fun hm => ?_⟩, fun hf hm hs => ?_, fun hm hs hp => ⟨fun hd => ?_, fun hf => ?_⟩,
    fun hm hn hp hf hc ht => ⟨fun hd => ?_, fun hk => ?_⟩⟩
  · rw [exec_stop_delivered s h hd, stopOwner_shutdown _ _ (by simpa using hm)]
  · rw [exec_stop_delivered s h hd, stopOwner_wrongMode _ _ (by simpa using hm)]
  · obtain ⟨alone, mode, report, go, hold, -⟩ := finish_controlOnly (controlOnly_refl (s.part.arrived .field)) (arrivedStill .field hs)
    refine ⟨_, by rw [exec_flashKey s h hf, flashKeyRun_other _ _ (by simpa using hm)], alone, mode.trans (by simp), report,
      go.trans (by simp), hold.trans (by simp)⟩
  · exact ⟨_, stops hm hd, entered .head hm hs hp⟩
  · exact ⟨_, keyed hm hf, entered .field hm hs hp⟩
  · exact ⟨_, stops hm hd, cleared .head hm hn hp hf hc ht⟩
  · exact ⟨_, keyed hm hk, cleared .field hm hn hp hf hc ht⟩

end Sys2Proof.Machine

/-! SUPPORT. Proofs of the statements of the family 01_signal_groups_and_their_aspects: the timers of demand and lockout. -/

namespace Sys2Proof.Machine

/-! ### A gap timer that runs out (R120) -/

/-- The blocks once a group's gap timer has expired (R120). -/
def gapExpired (g : Group) (r : Rt) : Rt := updDemand g (fun d => { d with gap := .expired }) r

@[simp] theorem gapExpired_frame (g : Group) (r : Rt) :
    (gapExpired g r).mode = r.mode ∧ (gapExpired g r).groups = r.groups ∧ (gapExpired g r).monitor = r.monitor ∧
    (gapExpired g r).stage = r.stage ∧ (gapExpired g r).demand.active = r.demand.active ∧
    (gapExpired g r).demand.assigns = r.demand.assigns ∧ (gapExpired g r).trams = r.trams ∧
    (gapExpired g r).priority = r.priority ∧ (gapExpired g r).notices = r.notices := by
  simp [gapExpired]

theorem gapExpired_get (g k : Group) (r : Rt) : (gapExpired g r).demand.groups.get k =
    if g = k then { r.demand.groups.get k with gap := .expired } else r.demand.groups.get k := updDemand_get g k _ r

theorem hasDemand_gapExpired (g k : Group) (r : Rt) : hasDemand (gapExpired g r) k = hasDemand r k := by
  simp only [hasDemand, gapExpired_get]
  split <;> rfl

theorem exec_gapTimerExpiry {s : State} {g : Group} {due : Time} (hg : (s.part.rt.demand.groups.get g).gap = .running due)
    (hd : reached s.part.env.now due = true) :
    exec (.gapTimerExpiry g) s = .next (s.withRt (finish s.part.env (gapExpired g s.part.rt))) := by
  have due' : gapDue s.part.env s.part.rt g = true := by simp [gapDue, hg, hd]
  have run : gapExpiry s.part.env g s.part.rt = gapExpired g s.part.rt := by simp [gapExpiry, hg, hd, gapExpired]
  rw [← run]
  exact whenDue_onPart s (.gapTimerExpiry g) (fun p => p.act fun e r => gapExpiry e g r) due'

/-- What reads the demand alone reads it alike where every group has demand as before. -/
theorem demandOutside_of_hasDemand {e : Env} {r r' : Rt} (hd : ∀ g, hasDemand r' g = hasDemand r g) (hs : r'.stage = r.stage) :
    demandOutside e r' = demandOutside e r := by
  simp [demandOutside, Rt.currentStage, hd, hs]

theorem searchOrder_congr {r r' : Rt} (hs : r'.stage = r.stage) : searchOrder r' = searchOrder r := by
  simp [searchOrder, Rt.sequence, Rt.currentStage, hs]

theorem stageDemand_congr {e : Env} {r r' : Rt} (hd : ∀ g, hasDemand r' g = hasDemand r g) (hg : r'.groups = r.groups) :
    stageDemand e r' = stageDemand e r := by
  funext s
  simp [stageDemand, Rt.isGreen, hd, hg]

theorem demandElsewhere_congr {e : Env} {r r' : Rt} (hd : ∀ g, hasDemand r' g = hasDemand r g) (hg : r'.groups = r.groups)
    (hs : r'.stage = r.stage) : demandElsewhere e r' = demandElsewhere e r := by
  simp [demandElsewhere, searchOrder_congr hs, stageDemand_congr hd hg]

theorem nextAutonomous_congr {e : Env} {r r' : Rt} (hd : ∀ g, hasDemand r' g = hasDemand r g) (hg : r'.groups = r.groups)
    (hs : r'.stage = r.stage) : nextAutonomous e r' = nextAutonomous e r := by
  have test : autonomousTest e r' = autonomousTest e r := by
    funext s
    simp [autonomousTest, permittedFromCurrent, Rt.currentStage, stageDemand_congr hd hg, hs]
  rw [nextAutonomous, nextAutonomous, searchOrder_congr hs, test]

/-! ### The end conditions under AUTONOMOUS, with no offer (R72) -/

theorem stageEval_autonomous {e : Env} {r : Rt} (hm : r.mode.mode = .running) (hs : r.mode.source = .autonomous)
    (hp : r.stage.phase = .stageRun) : stageEval e r = autonomousStep e r := by
  simp [stageEval, hm, hs, hp]

theorem holdInEffect_none {e : Env} {r : Rt} (h : r.priority.holdOffer = none) : holdInEffect e r = false := by
  simp [holdInEffect, h]

/-- Without a truncation offer the wanted stage is the next one, with demand elsewhere (R72). -/
theorem wantedStage_none {e : Env} {r : Rt} (h : r.priority.truncOffer = none) :
    wantedStage e r = if demandElsewhere e r then nextAutonomous e r else none := by
  simp [wantedStage, h]

section
variable {e : Env} {r : Rt} {c : StageRec} {x : Stage}

/-- Gap-out that has just come counts (R72). -/
theorem gapCounts_new (hc : r.stage.current = some c) (hg : c.gap = none) : gapCounts e r = gapOut e r := by
  simp [gapCounts, hc, hg]

theorem autonomousStep_ends (hh : r.priority.holdOffer = none) (ht : r.priority.truncOffer = none)
    (hripe : gapCounts e r = true) (hx : wantedStage e r = some x) :
    autonomousStep e r = (endStage e x (if maxOutHolds e r then .max else .gap) false false r, true) := by
  simp [autonomousStep, holdInEffect_none hh, ht, hripe, hx]

theorem autonomousStep_stays (hh : r.priority.holdOffer = none) (ht : r.priority.truncOffer = none)
    (hx : wantedStage e r = none) (hm : maxOutHolds e r = false) : autonomousStep e r = (r, false) := by
  simp [autonomousStep, holdInEffect_none hh, ht, hx, hm]

/-- A gap-out that ends the stage (R72). -/
theorem finish_gapEnds (h : r.inRun e .autonomous c) (hn : r.notices = []) (hh : r.priority.holdOffer = none)
    (ht : r.priority.truncOffer = none) (hg : c.gap = none) (hgap : gapOut e r = true) (hd : demandElsewhere e r = true)
    (hx : nextAutonomous e r = some x) (hclean : (⟨e, r⟩ : Part).endsCleanly c.stage x) :
    stageEnded e r (finish e r) c.stage x (if maxOutHolds e r then .max else .gap) := by
  obtain ⟨hm, hs, hp, hc, -⟩ := id h
  have wanted : wantedStage e r = some x := by rw [wantedStage_none ht, hd, if_pos rfl, hx]
  exact (finish_ends hn (maxGreenCheck_inRun h) ((stageEval_autonomous hm hs hp).trans
    (autonomousStep_ends hh ht ((gapCounts_new hc hg).trans hgap) wanted)) hc hclean).2

/-- A gap-out that finds no stage to go to leaves the stage running, and is noted (R72). -/
theorem finish_gapStays (h : r.inRun e .autonomous c) (hn : r.notices = []) (hh : r.priority.holdOffer = none)
    (ht : r.priority.truncOffer = none) (hg : c.gap = none) (hgap : gapOut e r = true)
    (hd : demandElsewhere e r = false ∨ nextAutonomous e r = none) (hmax : maxOutHolds e r = false) :
    goesOn r (finish e r) c ∧ (finish e r).stage.current =
      some { c with gap := some ⟨e.now, some (allGroups.filter (hasDemand r))⟩ } := by
  obtain ⟨hm, hs, hp, hc, -⟩ := id h
  have wanted : wantedStage e r = none := by
    rw [wantedStage_none ht]
    rcases hd with hd | hd <;> simp [hd]
  rw [finish_stays hn (maxGreenCheck_inRun h) ((stageEval_autonomous hm hs hp).trans (autonomousStep_stays hh ht wanted hmax)) hn]
  refine ⟨noteGap_goesOn hp hc, ?_⟩
  rw [noteGap_run e r c (by simp [Rt.inStagePhase, hp]) hc]
  simp [gapReading, hgap, hg, gapActs, hp, hm, hs, holdInEffect_none hh]

end


/-! ### A demand delay that runs out (R117, R118) -/

theorem exec_demandDelayExpiry {s : State} {a : Assign} {x : AssignEntry}
    (hd : isDue s.part.env.now (s.part.rt.demand.assigns.get a).delayDue = true) (hx : s.part.env.tab.assigns.get a = some x)
    (hl : loopView s.part.env s.part.rt x.loop = .occupied) (hg : (s.part.rt.groups.get x.group).state ≠ .green) :
    exec (.demandDelayExpiry a) s = .next (s.withRt (finish s.part.env (delayRun a x s.part.rt))) := by
  have run : delayExpiry s.part.env a s.part.rt = delayRun a x s.part.rt := by
    simp [delayExpiry, hd, hx, hl, Rt.isGreen, hg]
  rw [← run]
  exact whenDue_onPart s (.demandDelayExpiry a) (fun p => p.act fun e r => delayExpiry e a r) hd

theorem updAssign_get (a b : Assign) (f : AssignRec → AssignRec) (r : Rt) :
    (updAssign a f r).demand.assigns.get b = if a = b then f (r.demand.assigns.get b) else r.demand.assigns.get b := by
  simp [updAssign, upd_get]

/-- What a demand delay that runs out leaves of its entry and group, by the entry's function, and of the others (R117, R118). -/
theorem delayRun_values (a : Assign) (x : AssignEntry) (r : Rt) :
    let u := delayRun a x r
    (u.demand.assigns.get a).delayDue = none ∧
      (x.function = .demandLocking ∨ x.function = .lockingAndExtend →
        u.demand.groups.get x.group = { r.demand.groups.get x.group with loop := true }) ∧
      (x.function = .demandNonlocking →
        u.demand.assigns.get a = { r.demand.assigns.get a with delayDue := none, giving := true } ∧
        u.demand.groups.get x.group = { r.demand.groups.get x.group with
          nonLocking := (r.demand.groups.get x.group).nonLocking + (if (r.demand.assigns.get a).giving then 0 else 1) }) ∧
      (x.function ≠ .demandNonlocking → u.demand.assigns.get a = { r.demand.assigns.get a with delayDue := none }) ∧
      (∀ k : Group, k ≠ x.group → u.demand.groups.get k = r.demand.groups.get k) ∧
      ∀ b : Assign, b ≠ a → u.demand.assigns.get b = r.demand.assigns.get b := by
  have stopped : ∀ b, (stopDelay a r).demand.assigns.get b =
      if a = b then { r.demand.assigns.get b with delayDue := none } else r.demand.assigns.get b := fun b => updAssign_get a b _ r
  cases hf : x.function
  case demandLocking | lockingAndExtend =>
    have run : delayRun a x r = latchLoop x.group (stopDelay a r) := by simp [delayRun, hf]
    rw [run]
    refine ⟨by simp [latchLoop, stopped], fun _ => by simp [latchLoop, updDemand_get], by simp,
      fun _ => by simp [latchLoop, stopped], fun k hk => by simp [latchLoop, updDemand_get, hk.symm],
      fun b hb => by simp [latchLoop, stopped, hb.symm]⟩
  case demandNonlocking =>
    have run : delayRun a x r = startGiving a x.group (stopDelay a r) := by simp [delayRun, hf]
    rw [run]
    cases hv : (r.demand.assigns.get a).giving
    · have fresh : startGiving a x.group (stopDelay a r) = updDemand x.group (fun d => { d with nonLocking := d.nonLocking + 1 })
          (updAssign a (fun x => { x with giving := true }) (stopDelay a r)) := by simp only [startGiving]; simp [stopped, hv]
      rw [fresh]
      exact ⟨by simp [updAssign_get, stopped], by simp, fun _ => ⟨by simp [updAssign_get, stopped],
        by simp [updDemand_get]⟩, by simp, fun k hk => by simp [updDemand_get, hk.symm],
        fun b hb => by simp [updAssign_get, stopped, hb.symm]⟩
    · have given : startGiving a x.group (stopDelay a r) = stopDelay a r := by simp only [startGiving]; simp [stopped, hv]
      rw [given]
      exact ⟨by simp [stopped], by simp, fun _ => ⟨by simp [stopped, hv], by simp⟩, by simp, fun k _ => by simp,
        fun b hb => by simp [stopped, hb.symm]⟩
  case extend =>
    have run : delayRun a x r = stopDelay a r := by simp [delayRun, hf]
    rw [run]
    exact ⟨by simp [stopped], by simp, by simp, fun _ => by simp [stopped], fun k _ => by simp,
      fun b hb => by simp [stopped, hb.symm]⟩

/-! ### The lockout (R158) -/

theorem exec_lockoutExpiry {s : State} (hd : isDue s.part.env.now s.part.rt.priority.lockoutDue = true) :
    exec .lockoutExpiry s = .next (s.withRt (finish s.part.env (lockoutRun s.part.env s.part.rt))) :=
  whenDue_onPart s .lockoutExpiry (fun p => p.act lockoutRun) hd

/-- Settles O56: a gap timer's expiry in STAGE_RUN ends the stage or is noted; while the Stage Engine is still, each timer's own
change is all. -/
theorem demandAndLockoutTimers : Obligations.DemandAndLockoutTimers := by
  refine ⟨?_, fun s g due hg hd hs => ?_, fun s a x hd hx hl hg hs => ?_, fun s hd hs => ?_⟩
  · intro s g due c u1 e u hg hd hrun hn hh ht hcg hu1 hgap
    have moved : u1 = gapExpired g u := by simp [hu1, gapExpired, updDemand, Rt.withDemand]
    have demand : ∀ k, hasDemand u1 k = hasDemand u k := by rw [moved]; exact fun k => hasDemand_gapExpired g k u
    have groups : u1.groups = u.groups := by simp [moved]
    have stage : u1.stage = u.stage := by simp [moved]
    have run : u1.inRun e .autonomous c := by
      obtain ⟨hm, hsrc, hp, hc, hmax⟩ := hrun
      exact ⟨by simp [moved, hm], by simp [moved, hsrc], by rw [stage, hp], by rw [stage, hc],
        by rwa [demandOutside_of_hasDemand demand stage]⟩
    have quiet : u1.notices = [] := by simp [moved, hn]
    have maxOut : maxOutHolds e u1 = maxOutHolds e u := by simp [maxOutHolds, stage]
    have elsewhere := demandElsewhere_congr (e := e) demand groups stage
    have next := nextAutonomous_congr (e := e) demand groups stage
    have exec_eq : exec (.gapTimerExpiry g) s = .next (s.withRt (finish e u1)) := by rw [moved]; exact exec_gapTimerExpiry hg hd
    refine ⟨fun x hdem hx hclean => ⟨_, exec_eq, rfl, rfl, ?_⟩, fun hor hmax => ⟨_, exec_eq, rfl, rfl, ?_⟩⟩
    · have ended := finish_gapEnds run quiet (by simp [moved, hh]) (by simp [moved, ht]) hcg hgap (elsewhere.trans hdem)
        (next.trans hx) (endsCleanly_congr (r := u) (by simp [moved]) groups (by simp [moved]) hclean)
      rw [maxOut] at ended
      exact stageEnded_congr (by simp [moved]) (by simp [moved]) (by rw [stage]) groups (by simp [moved]) ended
    · obtain ⟨stays, current⟩ := finish_gapStays run quiet (by simp [moved, hh]) (by simp [moved, ht]) hcg hgap
        (by rwa [elsewhere, next]) (maxOut.trans hmax)
      refine ⟨stays, current.trans ?_⟩
      have same : hasDemand u1 = hasDemand u := funext demand
      rw [same]
      rfl
  · have still : (gapExpired g s.part.rt).still s.part.env = true :=
      (still_congr _ s.part.rt _ (by simp) (by simp) (by simp) (by simp) (by simp) (by simp)).trans hs
    obtain ⟨-, -, -, groups, -, demand, -⟩ := finish_still_keeps still
    refine ⟨_, exec_gapTimerExpiry hg hd, rfl, rfl, ?_, fun k hk => ?_, ?_, ?_, by simp [groups]⟩ <;> rw [demand]
    · simp [gapExpired_get]
    · simp [gapExpired_get, hk.symm]
    · simp
    · simp
  · have still : (delayRun a x s.part.rt).still s.part.env = true :=
      (still_congr _ s.part.rt _ (by simp) (by simp) (by simp) (by simp) (by simp) (by simp)).trans hs
    obtain ⟨-, -, -, kgroups, -, demand, -⟩ := finish_still_keeps still
    obtain ⟨delay, locking, nonlocking, other, groupsKept, assignsKept⟩ := delayRun_values a x s.part.rt
    refine ⟨_, exec_demandDelayExpiry hd hx hl hg, rfl, rfl, ?_⟩
    rw [demand, kgroups]
    exact ⟨delay, locking, nonlocking, other, by simp, groupsKept, assignsKept, by simp⟩
  · have still : (lockoutRun s.part.env s.part.rt).still s.part.env = true :=
      (still_congr _ s.part.rt _ (by simp [lockoutRun]) (by simp [lockoutRun]) (by simp [lockoutRun]) (by simp [lockoutRun])
        (by simp [lockoutRun]) (by simp [lockoutRun])).trans hs
    refine ⟨_, exec_lockoutExpiry hd, rfl, rfl, ?_⟩
    rw [finish_still _ _ still]
    simp [lockoutRun]

end Sys2Proof.Machine

/-! SUPPORT. Proofs of the statements of the family 01_signal_groups_and_their_aspects: a LAMP_STATUS confirms a green end. -/

namespace Sys2Proof.Machine

/-! ### The outputs of a status that reports none of them failed or lit (R169, R173) -/

/-- The blocks once the outputs of a status without faults were read: of the module records, whether the go lamp's report is
noted may change alone, and no fault notice is handed. -/
def soundReport (r t : Rt) : Prop :=
  t.notices = r.notices ∧ ∀ n ∈ t.lamp.modules, ∃ m ∈ r.lamp.modules, n = { m with noted := n.noted }

theorem soundReport_refl (r : Rt) : soundReport r r := ⟨rfl, fun n hn => ⟨n, hn, rfl⟩⟩

theorem soundReport.trans {r t u : Rt} (h : soundReport r t) (h' : soundReport t u) : soundReport r u := by
  refine ⟨h'.1.trans h.1, fun n hn => ?_⟩
  obtain ⟨m, hm, eq⟩ := h'.2 n hn
  obtain ⟨l, hl, eq'⟩ := h.2 m hm
  exact ⟨l, hl, by rw [eq, eq']⟩

theorem goLampReport_sound (e : Env) (addr : Byte) (s : Slot) (g : Group) (state : GroupState) {code : Byte} (r : Rt)
    (h : code.toNat < 2) : soundReport r (goLampReport e addr s g state code r) := by
  have lit : code ≠ 3#8 := fun h3 => by simp [h3] at h
  simp only [goLampReport, if_neg lit, if_pos (Nat.lt_succ_of_lt h)]
  refine ⟨by simp, fun n hn => ?_⟩
  rw [updModule_modules] at hn
  obtain ⟨m, hm, rfl⟩ := List.mem_map.mp hn
  refine ⟨m, hm, ?_⟩
  split <;> rfl

theorem outputReport_sound (e : Env) (addr : Byte) (s : Slot) (o : Fin 3) (g : Group) {code : Byte} (r : Rt)
    (h : code.toNat < 2) : soundReport r (outputReport e addr s o g code r) := by
  have failed : code ≠ 2#8 := fun h2 => by simp [h2] at h
  simp only [outputReport, if_neg failed, if_pos h]
  exact soundReport_refl r

theorem foldl_soundReport {α : Type} (f : Rt → α → Rt) (hf : ∀ r a, soundReport r (f r a)) (l : List α) (r : Rt) :
    soundReport r (l.foldl f r) := by
  induction l generalizing r with
  | nil => exact soundReport_refl r
  | cons a l ih => exact (hf r a).trans (ih _)

theorem slotOutputs_sound (e : Env) (addr : Byte) (states : Vector GroupRec 24) {pl : List Byte} (s : Slot) (r : Rt)
    (h : ∀ o, (slotOutput pl s o).toNat < 2) : soundReport r (slotOutputs e addr states pl s r) := by
  unfold slotOutputs
  split
  · exact soundReport_refl r
  · exact (foldl_soundReport _ (fun r o => outputReport_sound e addr s o _ r (h o)) _ r).trans
      (goLampReport_sound e addr s _ _ _ (h 2))

/-! ### A status's confirmations (R170) -/

/-- A status of a module with a record: its arrival, the confirmations and the outputs. -/
theorem takeLampStatus_eq {e : Env} {addr : Byte} {pl : List Byte} {r : Rt} {m : ModuleRec} (h : r.moduleRec addr = some m) :
    takeLampStatus e addr pl r = allSlots.foldl (fun r' s => slotOutputs e addr r.groups pl s r')
      (allSlots.foldl (fun r s => slotConfirm e addr pl s r) (statusSeen e addr r)) := by
  simp [takeLampStatus, h]

/-- The slot of a status confirms a group's green end: the group holds it, waits, and its green-end aspect is echoed (R14). -/
def slotConfirms (e : Env) (addr : Byte) (pl : List Byte) (r : Rt) (s : Slot) (g : Group) : Prop :=
  e.tab.holder addr s = some g ∧ (r.lamp.confirms.get g).isSome = true ∧
    confirmsGreenEnd (e.tab.gtype g) (e.tab.clearing g) (slotEcho pl s) = true

/-- The records of a confirmed green end. -/
def confirmed (e : Env) (g : Group) (r : Rt) : Rt :=
  stageConfirm e g e.now (monitorConfirm g e.now (r.withLamp fun x => { x with confirms := upd x.confirms g fun _ => none }))

theorem slotConfirm_of_confirms {e : Env} {addr : Byte} {pl : List Byte} {r : Rt} {s : Slot} {g : Group}
    (h : slotConfirms e addr pl r s g) : slotConfirm e addr pl s r = confirmed e g r := by
  obtain ⟨holds, waits, echoes⟩ := h
  simp [slotConfirm, holds, waits, echoes, confirmed]

theorem slotConfirm_of_not_confirms {e : Env} {addr : Byte} {pl : List Byte} {r : Rt} {s : Slot}
    (h : ∀ g, ¬ slotConfirms e addr pl r s g) : slotConfirm e addr pl s r = r := by
  unfold slotConfirm
  split
  · rfl
  · next g holds =>
    split
    · next both => exact absurd ⟨holds, (Bool.and_eq_true_iff.mp both).1, (Bool.and_eq_true_iff.mp both).2⟩ (h g)
    · rfl

/-- A group holds one slot. -/
theorem holder_slot_unique {t : Tables} {addr : Byte} {k s : Slot} {g : Group} (hk : t.holder addr k = some g)
    (hs : t.holder addr s = some g) : s = k := by
  have same := (mapping_of_holder hk).symm.trans (mapping_of_holder hs)
  simpa using same.symm

@[simp] theorem confirmed_confirms (e : Env) (g : Group) (r : Rt) :
    (confirmed e g r).lamp.confirms = upd r.lamp.confirms g fun _ => none := by
  simp [confirmed]

/-- The Stage Engine's and the Monitor's records of a confirmed green end (R33, R80). -/
def GreenEnd.confirmAt (now : Time) (x : GreenEnd) : GreenEnd := if x = .awaiting then .confirmed now else x

def MonitorRec.confirmAt (now : Time) (m : MonitorRec) : MonitorRec :=
  if m.awaiting && (match m.clearingSeen with | some t => reached now t | none => true) then
    { m with confirmed := some now, awaiting := false }
  else m

/-- The interstage once a losing group's green end is confirmed (R80). -/
def Interstage.noteConfirmed (g : Group) (now : Time) (k : Interstage) : Interstage :=
  { k with losing := k.losing.map fun x => if x.group = g ∧ x.confirmed = none then { x with confirmed := some now } else x }

/-- The blocks once a confirmation is recorded, before the Stage Engine acts on it. -/
def confirmNoted (e : Env) (g : Group) (r : Rt) : Rt := { r with
  lamp := { r.lamp with confirms := upd r.lamp.confirms g fun _ => none }
  monitor := upd r.monitor g (MonitorRec.confirmAt e.now)
  stage := { r.stage with
    greenEnds := upd r.stage.greenEnds g (GreenEnd.confirmAt e.now)
    inter := r.stage.inter.map (Interstage.noteConfirmed g e.now) } }

/-- A confirmation is recorded, and in an interstage the gaining groups are then looked at (R81). -/
theorem confirmed_eq (e : Env) (g : Group) (r : Rt) : confirmed e g r = match r.stage.inter with
    | none => confirmNoted e g r
    | some k => k.gaining.foldl (fun r x => fixAtConfirm e x r) (confirmNoted e g r) := by
  cases hi : r.stage.inter with
  | none =>
    simp only [confirmed, stageConfirm, Rt.withStage, (monitorConfirm_frame _ _ _).2.2.2.2.1, Rt.withLamp, hi, Option.map_none]
    simp only [confirmNoted, hi, Option.map_none]
    rfl
  | some k =>
    simp only [confirmed, stageConfirm, Rt.withStage, (monitorConfirm_frame _ _ _).2.2.2.2.1, Rt.withLamp, hi, Option.map_some]
    simp only [confirmNoted, hi, Option.map_some]
    rfl

/-- What stands of a group's green end: the confirmation record, and the records of the Stage Engine and the Monitor. -/
def Rt.greenEndOf (r : Rt) (g : Group) : Option ConfirmRec × GreenEnd × MonitorRec :=
  (r.lamp.confirms.get g, r.stage.greenEnds.get g, r.monitor.get g)

/-- A slot's confirmation without an interstage: the group's own record of its green end changes, and no other. -/
theorem slotConfirm_without_interstage {e : Env} {addr : Byte} {pl : List Byte} {r : Rt} {s : Slot}
    (h : r.stage.inter = none) : let t := slotConfirm e addr pl s r
    t.stage.inter = none ∧ t.groups = r.groups ∧ t.notices = r.notices ∧ t.lamp.modules = r.lamp.modules ∧
      ∀ g, e.tab.holder addr s ≠ some g → t.greenEndOf g = r.greenEndOf g := by
  by_cases hc : ∃ i, slotConfirms e addr pl r s i
  · obtain ⟨i, hi⟩ := hc
    rw [slotConfirm_of_confirms hi, confirmed_eq, h]
    refine ⟨by simp [confirmNoted, h], rfl, rfl, rfl, fun g hg => ?_⟩
    have ne : i ≠ g := fun hig => hg (hig ▸ hi.1)
    simp [Rt.greenEndOf, confirmNoted, upd_get, ne]
  · rw [slotConfirm_of_not_confirms (not_exists.mp hc)]
    exact ⟨h, rfl, rfl, rfl, fun _ _ => rfl⟩

theorem foldl_slotConfirm_without_interstage {e : Env} {addr : Byte} {pl : List Byte} (l : List Slot) {r : Rt}
    (h : r.stage.inter = none) : let t := l.foldl (fun r s => slotConfirm e addr pl s r) r
    t.stage.inter = none ∧ t.groups = r.groups ∧ t.notices = r.notices ∧ t.lamp.modules = r.lamp.modules ∧
      ∀ g, (∀ s ∈ l, e.tab.holder addr s ≠ some g) → t.greenEndOf g = r.greenEndOf g := by
  induction l generalizing r with
  | nil => exact ⟨h, rfl, rfl, rfl, fun _ _ => rfl⟩
  | cons s l ih =>
    obtain ⟨inter, groups, notices, modules, ends⟩ := slotConfirm_without_interstage (e := e) (addr := addr) (pl := pl) (s := s) h
    obtain ⟨inter', groups', notices', modules', ends'⟩ := ih inter
    refine ⟨inter', groups'.trans groups, notices'.trans notices, modules'.trans modules, fun g hg => ?_⟩
    obtain ⟨hs, hl⟩ := List.forall_mem_cons.mp hg
    exact (ends' g hl).trans (ends g hs)

theorem slot_split (k : Slot) : ∃ before after, allSlots = before ++ k :: after ∧ k ∉ before ∧ k ∉ after := by
  obtain ⟨before, after, split⟩ := List.append_of_mem (List.mem_finRange k)
  have nodup := List.nodup_finRange 4
  rw [split, List.nodup_middle] at nodup
  have out := (List.nodup_cons.mp nodup).1
  exact ⟨before, after, split, fun h => out (List.mem_append_left _ h), fun h => out (List.mem_append_right _ h)⟩

/-- The slots of a status without an interstage: the first that confirms a group is its own, and settles its records. -/
theorem allSlots_confirm_without_interstage {e : Env} {addr : Byte} {pl : List Byte} {r : Rt} {k : Slot} {g : Group}
    (h : r.stage.inter = none) (hg : slotConfirms e addr pl r k g) : let t := allSlots.foldl (fun r s => slotConfirm e addr pl s r) r
    t.groups = r.groups ∧ t.notices = r.notices ∧ t.lamp.modules = r.lamp.modules ∧
      t.greenEndOf g = (none, (r.stage.greenEnds.get g).confirmAt e.now, (r.monitor.get g).confirmAt e.now) := by
  obtain ⟨before, after, split, notBefore, notAfter⟩ := slot_split k
  have others : ∀ l : List Slot, k ∉ l → ∀ s ∈ l, e.tab.holder addr s ≠ some g :=
    fun l hl s hs holds => hl (holder_slot_unique hg.1 holds ▸ hs)
  obtain ⟨inter₁, groups₁, notices₁, modules₁, ends₁⟩ :=
    foldl_slotConfirm_without_interstage (e := e) (addr := addr) (pl := pl) before h
  simp only [split, List.foldl_append, List.foldl_cons]
  generalize before.foldl (fun r s => slotConfirm e addr pl s r) r = r₁ at *
  have ends₁ := ends₁ g (others before notBefore)
  obtain ⟨confirm₁, greenEnd₁, monitor₁⟩ : r₁.lamp.confirms.get g = r.lamp.confirms.get g ∧
      r₁.stage.greenEnds.get g = r.stage.greenEnds.get g ∧ r₁.monitor.get g = r.monitor.get g := by
    simpa [Rt.greenEndOf] using ends₁
  have hg₁ : slotConfirms e addr pl r₁ k g := ⟨hg.1, confirm₁ ▸ hg.2.1, hg.2.2⟩
  have step : slotConfirm e addr pl k r₁ = confirmNoted e g r₁ := by
    rw [slotConfirm_of_confirms hg₁, confirmed_eq, inter₁]
  obtain ⟨-, groups₂, notices₂, modules₂, ends₂⟩ := foldl_slotConfirm_without_interstage (e := e) (addr := addr) (pl := pl) after
    (r := confirmNoted e g r₁) (by simp [confirmNoted, inter₁])
  rw [step]
  refine ⟨groups₂.trans groups₁, notices₂.trans notices₁, modules₂.trans modules₁, (ends₂ g (others after notAfter)).trans ?_⟩
  simp [Rt.greenEndOf, confirmNoted, greenEnd₁, monitor₁]

/-! ### The status as a whole -/

theorem frameOk_lampStatus {h : Header} {pl : List Byte} (hd : dstOk h.dst = true) (hl : pl.length = 16) :
    frameOk (h.frame kindLampStatus pl) = true := by
  simp [frameOk, Header.frame, hd, hl]

/-- A valid LAMP_STATUS acts after its arrival, the Stage Engine reads its conditions in an interstage alone, and it is
forwarded (R81, R181). -/
theorem exec_lampStatus (s : State) (h : Header) (pl : List Byte) (hd : dstOk h.dst = true) (hl : pl.length = 16) :
    exec (.lampStatus h pl) s = .next (s.withRt (forwardTo s.part.env .head (h.frame kindLampStatus pl)
      (let r := takeLampStatus s.part.env h.src pl (s.part.arrived .field)
        if s.part.rt.stage.phase = .interstage then finish s.part.env r else takeFaults s.part.env r))) := by
  have len : fieldKindLength (h.frame kindLampStatus pl).kind = some (h.frame kindLampStatus pl).payload.length := by
    simp [Header.frame, hl, fieldKindLength, kindLampStatus, kindLoopCounts, kindTramTelegram]
  have acts : exec (.lampStatus h pl) s =
      s.onPart (fieldFrame (h.frame kindLampStatus pl) (lampBlock h.src pl) true) := rfl
  have phase : (s.part.arrived .field).stage.phase = s.part.rt.stage.phase := by simp
  rw [acts, State.onPart, fieldFrame_valid _ _ _ (frameOk_lampStatus hd hl) len]
  simp only [lampBlock, phase]
  split <;> rfl

/-- The moment until which a module that reports now is not silent (R174). -/
theorem statusSeen_module (e : Env) (addr : Byte) (r : Rt) : ∀ m ∈ (statusSeen e addr r).lamp.modules, m.addr = addr →
    m.silent = false ∧ (r.mode.mode ≠ .dark → m.silenceDue = some (after e.now 10)) := by
  intro m hm ha
  rw [statusSeen, updModule_modules] at hm
  obtain ⟨x, -, rfl⟩ := List.mem_map.mp hm
  by_cases hx : x.addr = addr
  · simp only [hx, if_true]
    exact ⟨trivial, fun hd => by simp [hd, Config.second]⟩
  · simp only [hx, if_false] at ha

/-- The outputs of a status without faults hand no notice, and keep what stands of silence. -/
theorem allSlots_outputs_sound (e : Env) (addr : Byte) (states : Vector GroupRec 24) {pl : List Byte} (r : Rt)
    (h : ∀ (a : Slot) (o : Fin 3), (slotOutput pl a o).toNat < 2) :
    soundReport r (allSlots.foldl (fun r s => slotOutputs e addr states pl s r) r) :=
  foldl_soundReport _ (fun r s => slotOutputs_sound e addr states s r (h s)) _ r

/-- The outputs of a status leave the mode, the groups and what stands of their green ends. -/
theorem allSlots_outputs_keep (e : Env) (addr : Byte) (states : Vector GroupRec 24) (pl : List Byte) (r : Rt) :
    let t := allSlots.foldl (fun r s => slotOutputs e addr states pl s r) r
    t.mode = r.mode ∧ t.groups = r.groups ∧ t.monitor = r.monitor ∧ t.lamp.confirms = r.lamp.confirms ∧ t.stage = r.stage := by
  have h := foldl_slotOutputs_frame e addr states pl id allSlots r
  simp only [id] at h
  obtain ⟨-, mode, groups, monitor, confirms, -, -, -, -, -, -, stage, -⟩ := h
  exact ⟨mode, groups, monitor, confirms, stage⟩

theorem moduleRec_congr {r r' : Rt} (h : r'.lamp = r.lamp) (addr : Byte) : r'.moduleRec addr = r.moduleRec addr := by
  simp [Rt.moduleRec, h]

/-- What a status without faults does to the module records of its module. -/
theorem takeLampStatus_module {e : Env} {addr : Byte} {r c : Rt}
    (hc : c.lamp.modules = (statusSeen e addr r).lamp.modules) {t : Rt} (ht : soundReport c t) :
    ∀ n ∈ t.lamp.modules, n.addr = addr →
      n.silent = false ∧ (r.mode.mode ≠ .dark → n.silenceDue = some (after e.now 10)) := by
  intro n hn ha
  obtain ⟨m, hm, eq⟩ := ht.2 n hn
  rw [eq] at ha ⊢
  exact statusSeen_module e addr r m (hc ▸ hm) ha

/-- A status confirms a green end outside an interstage (R33, R80, R169, R174). -/
theorem takeLampStatus_without_interstage {e : Env} {addr : Byte} {pl : List Byte} {r : Rt} {m : ModuleRec} {k : Slot} {g : Group}
    (hr : r.moduleRec addr = some m) (hi : r.stage.inter = none) (ho : ∀ (a : Slot) (o : Fin 3), (slotOutput pl a o).toNat < 2)
    (hg : slotConfirms e addr pl r k g) : let t := takeLampStatus e addr pl r
    t.notices = r.notices ∧ t.groups = r.groups ∧ t.mode = r.mode ∧
      t.greenEndOf g = (none, (r.stage.greenEnds.get g).confirmAt e.now, (r.monitor.get g).confirmAt e.now) ∧
      ∀ n ∈ t.lamp.modules, n.addr = addr →
        n.silent = false ∧ (r.mode.mode ≠ .dark → n.silenceDue = some (after e.now 10)) := by
  have seen : slotConfirms e addr pl (statusSeen e addr r) k g := ⟨hg.1, by simpa using hg.2.1, hg.2.2⟩
  obtain ⟨groups, notices, modules, ends⟩ :=
    allSlots_confirm_without_interstage (r := statusSeen e addr r) (by simpa using hi) seen
  have mode : (allSlots.foldl (fun r s => slotConfirm e addr pl s r) (statusSeen e addr r)).mode = r.mode := by
    have h := foldl_slotConfirm_frame e addr pl id allSlots (statusSeen e addr r)
    simp only [id] at h
    simp [h]
  intro t
  have ht : t = _ := takeLampStatus_eq hr
  generalize allSlots.foldl (fun r s => slotConfirm e addr pl s r) (statusSeen e addr r) = c at *
  have sound := allSlots_outputs_sound e addr r.groups c ho
  obtain ⟨mode', groups', monitor', confirms', stage'⟩ := allSlots_outputs_keep e addr r.groups pl c
  rw [← ht] at sound mode' groups' monitor' confirms' stage'
  refine ⟨sound.1.trans (notices.trans (by simp)), groups'.trans (groups.trans (by simp)), mode'.trans mode, ?_,
    takeLampStatus_module modules sound⟩
  rw [Rt.greenEndOf, monitor', confirms', stage']
  simpa [Rt.greenEndOf] using ends

end Sys2Proof.Machine

/-! SUPPORT. Proofs of the statements of the family 01_signal_groups_and_their_aspects: a confirmation fixes green starts. -/

namespace Sys2Proof.Machine

/-! ### The moment that the confirmed green ends give (R81) -/

theorem mem_confirmedMoments {e : Env} {r : Rt} {j : Group} {cs : List Group} {t : Time} : t ∈ confirmedMoments e r j cs ↔
    ∃ i ∈ cs, ∃ c, r.stage.greenEnds.get i = .confirmed c ∧ t = after c (e.tab.ig i j) := by
  simp only [confirmedMoments, List.mem_filterMap]
  refine exists_congr fun i => and_congr_right fun _ => ?_
  cases r.stage.greenEnds.get i <;> simp [eq_comm]

theorem allConfirmed_iff {e : Env} {r : Rt} {x : Gaining} :
    allConfirmed e r x = true ↔ ∀ i ∈ x.constraining, ∃ c, r.stage.greenEnds.get i = .confirmed c := by
  simp only [allConfirmed, confirmedMoments, beq_iff_eq, List.filterMap_length_eq_length]
  refine forall₂_congr fun i _ => ?_
  cases r.stage.greenEnds.get i <;> simp

theorem foldl_laterOf_moments (now : Time) : ∀ (l : List Time) (m : Time),
    l.foldl (laterOf now) m ∈ m :: l ∧ ∀ t ∈ m :: l, back now (l.foldl (laterOf now) m) ≤ back now t
  | [], m => by simp
  | t :: l, m => by
    obtain ⟨mem, least⟩ := foldl_laterOf_moments now l (laterOf now m t)
    have later := least _ (List.mem_cons_self ..)
    rw [back_laterOf] at later
    rw [List.foldl_cons]
    refine ⟨?_, fun y hy => ?_⟩
    · rcases List.mem_cons.mp mem with h | h
      · rw [h]; rcases laterOf_eq_or now m t with h | h <;> simp [h]
      · exact List.mem_cons_of_mem _ (List.mem_cons_of_mem _ h)
    · rcases List.mem_cons.mp hy with rfl | hy
      · omega
      · rcases List.mem_cons.mp hy with rfl | hy
        · omega
        · exact least y (List.mem_cons_of_mem _ hy)

/-- The latest of some moments is one of them, and none is later. -/
theorem latest_spec {now t : Time} : ∀ {l : List Time}, latest now l = some t → t ∈ l ∧ ∀ y ∈ l, back now t ≤ back now y
  | _ :: _, rfl => foldl_laterOf_moments now _ _

/-- The green start that a confirmation gives a gaining group, if any (R81). -/
def Gaining.startAt (e : Env) (r : Rt) (x : Gaining) : Option Time :=
  if x.greenAt.isNone && allConfirmed e r x then latest e.now (confirmedMoments e r x.group x.constraining) else none

theorem Gaining.startAt_congr {e : Env} {r r' : Rt} {x : Gaining} (h : r'.stage.greenEnds = r.stage.greenEnds) :
    x.startAt e r' = x.startAt e r := by
  simp [Gaining.startAt, allConfirmed, confirmedMoments, h]

/-- A gaining group that has its green start, or waits for a green end still, is given none. -/
theorem Gaining.startAt_none {e : Env} {r : Rt} {x : Gaining}
    (h : x.greenAt ≠ none ∨ ∃ i ∈ x.constraining, ∀ c, r.stage.greenEnds.get i ≠ .confirmed c) : x.startAt e r = none := by
  refine if_neg fun both => ?_
  obtain ⟨none, all⟩ := Bool.and_eq_true_iff.mp both
  rcases h with h | ⟨i, hi, h⟩
  · exact h (Option.isNone_iff_eq_none.mp none)
  · obtain ⟨c, hc⟩ := allConfirmed_iff.mp all i hi
    exact h c hc

/-- A gaining group whose constraining groups are all confirmed is given the latest of their moments. -/
theorem Gaining.startAt_some {e : Env} {r : Rt} {x : Gaining} {g : Group} (hn : x.greenAt = none) (hg : g ∈ x.constraining)
    (h : ∀ i ∈ x.constraining, ∃ c, r.stage.greenEnds.get i = .confirmed c) : ∃ tj, x.startAt e r = some tj ∧
      (∃ i ∈ x.constraining, ∃ c, r.stage.greenEnds.get i = .confirmed c ∧ tj = after c (e.tab.ig i x.group)) ∧
      ∀ i ∈ x.constraining, ∀ c, r.stage.greenEnds.get i = .confirmed c →
        back e.now tj ≤ back e.now (after c (e.tab.ig i x.group)) := by
  have start : x.startAt e r = latest e.now (confirmedMoments e r x.group x.constraining) := by
    simp [Gaining.startAt, hn, allConfirmed_iff.mpr h]
  obtain ⟨c, hc⟩ := h g hg
  cases hl : latest e.now (confirmedMoments e r x.group x.constraining) with
  | none =>
    have mem := mem_confirmedMoments (e := e) (j := x.group).mpr ⟨g, hg, c, hc, rfl⟩
    cases hm : confirmedMoments e r x.group x.constraining with
    | nil => simp [hm] at mem
    | cons t l => simp [hm, latest] at hl
  | some tj =>
    obtain ⟨mem, least⟩ := latest_spec hl
    exact ⟨tj, start.trans hl, mem_confirmedMoments.mp mem, fun i hi c hc => least _ (mem_confirmedMoments.mpr ⟨i, hi, c, hc, rfl⟩)⟩

/-! ### A green start that lies ahead (R9) -/

/-- The group can take a green-start order for `t` whose moments both lie ahead. -/
structure StartsLater (e : Env) (r : Rt) (j : Group) (t : Time) : Prop where
  rest : (r.groups.get j).state = .rest
  free : (r.groups.get j).pendingGreen = none
  startingAhead : reached e.now (before t (e.tab.ra j)) = false
  greenAhead : reached e.now t = false

/-- The interstage once a gaining group's green start is fixed (R81). -/
def Interstage.fixed (j : Group) (t : Time) (k : Interstage) : Interstage :=
  { k with gaining := k.gaining.map fun x => if x.group = j then { x with greenAt := some t } else x }

/-- A green start that lies ahead is recorded and waits. -/
theorem fixGreen_later {e : Env} {j : Group} {t : Time} {r : Rt} (h : StartsLater e r j t) : fixGreen e j t r = { r with
    groups := upd r.groups j fun x => { x with pendingGreen := some t }
    stage := { r.stage with inter := r.stage.inter.map (Interstage.fixed j t) } } := by
  have order : fixGreen e j t r = enterGreen e j (enterStarting e j (updGroup j (fun x => { x with pendingGreen := some t })
      (r.withStage fun s => { s with inter := s.inter.map (Interstage.fixed j t) }))) := by
    unfold fixGreen takeGreenStart
    exact if_pos ⟨h.rest, h.free⟩
  rw [order]
  generalize hu : updGroup j (fun x => { x with pendingGreen := some t })
    (r.withStage fun s => { s with inter := s.inter.map (Interstage.fixed j t) }) = u
  have ordered : u.groups.get j = { r.groups.get j with pendingGreen := some t } := by simp [← hu, updGroup_get]
  have notStarting : startingNow e u j = false := by simp [startingNow, ordered, h.startingAhead]
  have notGreen : greenNow e u j = none := by simp [greenNow, ordered, h.greenAhead]
  rw [enterStarting_of_not_due notStarting, enterGreen_of_not_due notGreen, ← hu]
  rfl

theorem not_reached {now t : Time} (h : back now t < 36000) : reached now t = false := decide_eq_false (Nat.not_le.mpr h)

/-- The latest moment lies ahead when the green end confirmed just now holds the green start off for longer than RA. -/
theorem startsLater_of_now {e : Env} {r : Rt} {j : Group} {t : Time} {d : Nat} (hs : (r.groups.get j).state = .rest)
    (hp : (r.groups.get j).pendingGreen = none) (hr : e.tab.ra j < d) (hd : d ≤ 36000)
    (ht : back e.now t ≤ back e.now (after e.now d)) : StartsLater e r j t := by
  have dist : back e.now (after e.now d) = 36000 - d := by
    simp only [back, after, Config.maxSpan]
    bv_omega
  have shift : back e.now (before t (e.tab.ra j)) = back e.now t + e.tab.ra j := by
    rw [dist] at ht
    clear hs hp dist
    revert ht
    generalize e.tab.ra j = ra at *
    generalize e.now = now
    simp only [back, before, Config.maxSpan]
    bv_omega
  rw [dist] at ht
  exact ⟨hs, hp, not_reached (by omega), not_reached (by omega)⟩

/-! ### The gaining groups at a confirmation (R81) -/

/-- The gaining group once the confirmation gave it the green start `t`, if any. -/
def Gaining.fixedAt (t : Option Time) (x : Gaining) : Gaining :=
  match t with
  | some t => { x with greenAt := some t }
  | none => x

def GroupRec.orderedAt (t : Option Time) (x : GroupRec) : GroupRec :=
  match t with
  | some t => { x with pendingGreen := some t }
  | none => x

theorem fixAtConfirm_eq (e : Env) (x : Gaining) (r : Rt) : fixAtConfirm e x r = match x.startAt e r with
    | some t => fixGreen e x.group t r
    | none => r := by
  unfold fixAtConfirm Gaining.startAt
  split <;> rfl

theorem fixed_middle {j : Group} {t : Time} {x : Gaining} {k : Interstage} {before after : List Gaining} (hx : x.group = j)
    (hn : ((before ++ x :: after).map Gaining.group).Nodup) :
    Interstage.fixed j t { k with gaining := before ++ x :: after } =
      { k with gaining := before ++ { x with greenAt := some t } :: after } := by
  simp only [List.map_append, List.map_cons, List.nodup_middle, List.nodup_cons, List.mem_append, not_or] at hn
  have others : ∀ l : List Gaining, x.group ∉ l.map Gaining.group →
      (l.map fun y => if y.group = j then { y with greenAt := some t } else y) = l := fun l hl =>
    (List.map_congr_left fun y hy => if_neg fun h => hl (List.mem_map.mpr ⟨y, hy, h.trans hx.symm⟩)).trans (List.map_id' l)
  simp [Interstage.fixed, others _ hn.1.1, others _ hn.1.2, hx]

/-- A confirmation's round over the gaining groups, each of whose new green starts lies ahead. -/
theorem foldl_fixAtConfirm_later (e : Env) : ∀ (l before : List Gaining) (r : Rt) (k : Interstage),
    r.stage.inter = some { k with gaining := before ++ l } → ((before ++ l).map Gaining.group).Nodup →
    (∀ x ∈ l, ∀ t, x.startAt e r = some t → StartsLater e r x.group t) →
    ∃ v, l.foldl (fun r x => fixAtConfirm e x r) r = { r with
        groups := v
        stage := { r.stage with inter := some { k with gaining := before ++ l.map fun x => x.fixedAt (x.startAt e r) } } } ∧
      (∀ x ∈ l, v.get x.group = (r.groups.get x.group).orderedAt (x.startAt e r)) ∧
      ∀ i, i ∉ l.map Gaining.group → v.get i = r.groups.get i
  | [], before, r, k, hi, _, _ => ⟨r.groups, by simp at hi; simp [← hi], by simp, by simp⟩
  | x :: l, before, r, k, hi, hn, hs => by
    obtain ⟨hx, hs⟩ := List.forall_mem_cons.mp hs
    have hxl : x.group ∉ l.map Gaining.group := by
      rw [List.map_append, List.map_cons, List.nodup_middle] at hn
      exact fun h => (List.nodup_cons.mp hn).1 (List.mem_append_right _ h)
    rw [List.foldl_cons, fixAtConfirm_eq]
    cases ht : x.startAt e r with
    | none =>
      obtain ⟨v, fold, inside, outside⟩ := foldl_fixAtConfirm_later e l (before ++ [x]) r k (by simpa using hi) (by simpa using hn) hs
      refine ⟨v, fold.trans (by simp [ht, Gaining.fixedAt]), List.forall_mem_cons.mpr ⟨?_, inside⟩, fun i hn => outside i ?_⟩
      · rw [outside _ hxl, ht]; rfl
      · exact fun h => hn (List.mem_cons_of_mem _ h)
    | some t =>
      have fixed := fixGreen_later (hx t ht)
      rw [hi, Option.map_some, fixed_middle rfl hn] at fixed
      have start : ∀ y : Gaining, y.startAt e (fixGreen e x.group t r) = y.startAt e r := fun y =>
        Gaining.startAt_congr (by rw [fixed])
      have other : ∀ i, x.group ≠ i → (fixGreen e x.group t r).groups.get i = r.groups.get i := fun i hi => by
        rw [fixed]; simp [upd_get, hi]
      have ne : ∀ y ∈ l, x.group ≠ y.group := fun y hy h => hxl (h ▸ List.mem_map_of_mem hy)
      obtain ⟨v, fold, inside, outside⟩ := foldl_fixAtConfirm_later e l (before ++ [{ x with greenAt := some t }])
        (fixGreen e x.group t r) k (by rw [fixed]; simp) (by simpa using hn) fun y hy t' ht' => by
          have later := hs y hy t' (start y ▸ ht')
          exact ⟨other _ (ne y hy) ▸ later.rest, other _ (ne y hy) ▸ later.free, later.startingAhead, later.greenAhead⟩
      refine ⟨v, fold.trans ?_, List.forall_mem_cons.mpr ⟨?_, fun y hy => ?_⟩, fun i hn => ?_⟩
      · simp only [start]
        simp only [fixed, List.map_cons, ht, Gaining.fixedAt, List.append_assoc, List.singleton_append]
      · rw [outside _ hxl, fixed, ht]; simp [GroupRec.orderedAt]
      · rw [inside y hy, other _ (ne y hy), start]
      · obtain ⟨hix, hil⟩ := not_or.mp (mt List.mem_cons.mpr hn)
        rw [outside i hil, other i (Ne.symm hix)]

end Sys2Proof.Machine

/-! SUPPORT. Proofs of the statements of the family 01_signal_groups_and_their_aspects: a LAMP_STATUS in an interstage. -/

namespace Sys2Proof.Machine

theorem foldl_slotConfirm_none {e : Env} {addr : Byte} {pl : List Byte} {r : Rt} (l : List Slot)
    (h : ∀ s ∈ l, ∀ g, ¬ slotConfirms e addr pl r s g) : l.foldl (fun r s => slotConfirm e addr pl s r) r = r := by
  induction l with
  | nil => rfl
  | cons s l ih =>
    obtain ⟨hs, hl⟩ := List.forall_mem_cons.mp h
    rw [List.foldl_cons, slotConfirm_of_not_confirms hs, ih hl]

/-- A status that confirms one group alone. -/
theorem allSlots_confirm_one {e : Env} {addr : Byte} {pl : List Byte} {r : Rt} {k : Slot} {g : Group}
    (hg : slotConfirms e addr pl r k g)
    (one : ∀ (a : Slot) (i : Group), e.tab.holder addr a = some i → (r.lamp.confirms.get i).isSome = true → i = g) :
    allSlots.foldl (fun r s => slotConfirm e addr pl s r) r = confirmed e g r := by
  obtain ⟨before, after, split, notBefore, notAfter⟩ := slot_split k
  have quiet : ∀ l : List Slot, k ∉ l → ∀ r' : Rt, (∀ i, i ≠ g → r'.lamp.confirms.get i = r.lamp.confirms.get i) →
      l.foldl (fun r s => slotConfirm e addr pl s r) r' = r' := fun l hl r' same =>
    foldl_slotConfirm_none l fun s hs i hi => by
      by_cases hig : i = g
      · exact hl (holder_slot_unique hg.1 (hig ▸ hi.1) ▸ hs)
      · exact hig (one s i hi.1 (same i hig ▸ hi.2.1))
  simp only [split, List.foldl_append, List.foldl_cons]
  rw [quiet before notBefore r fun _ _ => rfl, slotConfirm_of_confirms hg]
  exact quiet after notAfter _ fun i hi => by simp [upd_get, Ne.symm hi]

/-- The interstage once the gaining groups have the green starts that a confirmation gives them (R81). -/
def Interstage.greensFixed (start : Gaining → Option Time) (k : Interstage) : Interstage :=
  { k with gaining := k.gaining.map fun x => x.fixedAt (start x) }

/-- A status confirms a green end in an interstage: the confirmation is recorded, and the green starts that it fixes wait
(R80, R81). -/
theorem takeLampStatus_interstage {e : Env} {addr : Byte} {pl : List Byte} {r : Rt} {m : ModuleRec} {k : Slot} {g : Group}
    {q : Interstage} (hr : r.moduleRec addr = some m) (hi : r.stage.inter = some q)
    (ho : ∀ (a : Slot) (o : Fin 3), (slotOutput pl a o).toNat < 2) (hg : slotConfirms e addr pl r k g)
    (one : ∀ (a : Slot) (i : Group), e.tab.holder addr a = some i → (r.lamp.confirms.get i).isSome = true → i = g)
    (nodup : (q.gaining.map Gaining.group).Nodup)
    (later : ∀ x ∈ q.gaining, ∀ t, x.startAt e (confirmNoted e g r) = some t → StartsLater e r x.group t) :
    let t := takeLampStatus e addr pl r
    let start := fun x : Gaining => x.startAt e (confirmNoted e g r)
    t.notices = r.notices ∧ t.mode = r.mode ∧
      t.stage = { (confirmNoted e g r).stage with inter := some ((q.noteConfirmed g e.now).greensFixed start) } ∧
      (∀ x ∈ q.gaining, t.groups.get x.group = (r.groups.get x.group).orderedAt (start x)) ∧
      ∀ i, i ∉ q.gaining.map Gaining.group → t.groups.get i = r.groups.get i := by
  have stage : (statusSeen e addr r).stage = r.stage := by simp
  have groups : (statusSeen e addr r).groups = r.groups := by simp
  have confirms : (statusSeen e addr r).lamp.confirms = r.lamp.confirms := by simp
  have noted : (confirmNoted e g (statusSeen e addr r)).stage = (confirmNoted e g r).stage := by simp [confirmNoted]
  have seen : slotConfirms e addr pl (statusSeen e addr r) k g := ⟨hg.1, by rw [confirms]; exact hg.2.1, hg.2.2⟩
  have startSeen : ∀ x : Gaining, x.startAt e (confirmNoted e g (statusSeen e addr r)) = x.startAt e (confirmNoted e g r) :=
    fun x => Gaining.startAt_congr (by rw [noted])
  have round := allSlots_confirm_one seen (by rw [confirms]; exact one)
  rw [confirmed_eq, stage, hi] at round
  obtain ⟨v, fold, inside, outside⟩ := foldl_fixAtConfirm_later e q.gaining [] (confirmNoted e g (statusSeen e addr r))
    (q.noteConfirmed g e.now) (by rw [noted]; simp [confirmNoted, hi, Interstage.noteConfirmed]) nodup fun x hx t ht => by
      have ahead := later x hx t (startSeen x ▸ ht)
      exact ⟨groups ▸ ahead.rest, groups ▸ ahead.free, ahead.startingAhead, ahead.greenAhead⟩
  simp only [startSeen, noted] at fold inside
  have round := round.trans fold
  intro t start
  have ht : t = _ := takeLampStatus_eq hr
  generalize allSlots.foldl (fun r s => slotConfirm e addr pl s r) (statusSeen e addr r) = c at ht round
  have sound := allSlots_outputs_sound e addr r.groups c ho
  obtain ⟨mode', groups', -, -, stage'⟩ := allSlots_outputs_keep e addr r.groups pl c
  rw [← ht] at sound mode' groups' stage'
  rw [mode', groups', stage', sound.1, round]
  exact ⟨by simp [confirmNoted], by simp [confirmNoted], rfl,
    fun x hx => groups ▸ inside x hx, fun i hi => groups ▸ outside i hi⟩

/-- A status in an interstage that goes on: the Stage Engine has nothing to act on. -/
theorem finish_interstage {e : Env} {r : Rt} {q : Interstage} (hn : r.notices = []) (hp : r.stage.phase = .interstage)
    (hi : r.stage.inter = some q) (hc : q.complete = false) : finish e r = r := by
  have still : r.still e = true := by simp [Rt.still, hn, hp, hi, hc]
  have outside : r.inStagePhase = false := by simp [Rt.inStagePhase, hp]
  rw [finish_still e r still, maxGreenCheck_outside_stage e r outside, noteGap_quiet e r outside]

/-- Fixed green starts and confirmed green ends leave an interstage as far from complete as it is (R82). -/
theorem fixed_complete (g : Group) (now : Time) (start : Gaining → Option Time) (q : Interstage) :
    ((q.noteConfirmed g now).greensFixed start).complete = q.complete := by
  have green : ∀ x : Gaining, (x.fixedAt (start x)).green = x.green := fun x => by
    unfold Gaining.fixedAt; split <;> rfl
  have rest : ∀ x : Losing, (if x.group = g ∧ x.confirmed = none then { x with confirmed := some now } else x).rest = x.rest :=
    fun x => by split <;> rfl
  simp only [Interstage.complete, Interstage.greensFixed, Interstage.noteConfirmed, List.all_map, Function.comp_def, green, rest]

theorem Gaining.fixedAt_group (t : Option Time) (x : Gaining) : (x.fixedAt t).group = x.group := by
  unfold Gaining.fixedAt; split <;> rfl

/-- What holds a group's green end for confirmed once a further group's is (R80, R81). -/
theorem confirmNoted_greenEnds {e : Env} {g : Group} {r : Rt} (ha : r.stage.greenEnds.get g = .awaiting) (i : Group) :
    (confirmNoted e g r).stage.greenEnds.get i = if i = g then .confirmed e.now else r.stage.greenEnds.get i := by
  by_cases h : i = g
  · subst h; simp [confirmNoted, GreenEnd.confirmAt, ha]
  · simp [confirmNoted, upd_get, h, Ne.symm h]

/-- The moment of a group's confirmed green end once that of `g` is confirmed at `now`. -/
def Rt.endedAt (r : Rt) (g : Group) (now : Time) (i : Group) (c : Time) : Prop :=
  (i = g ∧ c = now) ∨ (i ≠ g ∧ r.stage.greenEnds.get i = .confirmed c)

/-- The gaining group waits for the green end of a group other than `g`. -/
def Rt.waitsBeside (r : Rt) (g : Group) (x : Gaining) : Prop :=
  ∃ i ∈ x.constraining, i ≠ g ∧ ∀ c, r.stage.greenEnds.get i ≠ .confirmed c

theorem endedAt_iff {e : Env} {g : Group} {r : Rt} (ha : r.stage.greenEnds.get g = .awaiting) (i : Group) (c : Time) :
    (confirmNoted e g r).stage.greenEnds.get i = .confirmed c ↔ r.endedAt g e.now i c := by
  rw [confirmNoted_greenEnds ha, Rt.endedAt]
  by_cases h : i = g
  · simp [h, eq_comm]
  · simp [h]

theorem startAt_of_waiting {e : Env} {g : Group} {r : Rt} (ha : r.stage.greenEnds.get g = .awaiting) {x : Gaining}
    (h : x.greenAt ≠ none ∨ r.waitsBeside g x) : x.startAt e (confirmNoted e g r) = none := by
  refine Gaining.startAt_none (h.imp_right ?_)
  rintro ⟨i, hi, ne, unconfirmed⟩
  refine ⟨i, hi, fun c => ?_⟩
  rw [confirmNoted_greenEnds ha, if_neg ne]
  exact unconfirmed c

/-- The green start that a confirmation gives (R81). -/
theorem startAt_of_confirmed {e : Env} {g : Group} {r : Rt} (ha : r.stage.greenEnds.get g = .awaiting) {x : Gaining}
    (hn : x.greenAt = none) (hw : ¬ r.waitsBeside g x) (hg : g ∈ x.constraining) : ∃ tj,
    x.startAt e (confirmNoted e g r) = some tj ∧
      (∃ i ∈ x.constraining, ∃ c, r.endedAt g e.now i c ∧ tj = after c (e.tab.ig i x.group)) ∧
      ∀ i ∈ x.constraining, ∀ c, r.endedAt g e.now i c → back e.now tj ≤ back e.now (after c (e.tab.ig i x.group)) := by
  simp only [← endedAt_iff ha]
  refine Gaining.startAt_some hn hg fun i hi => ?_
  simp only [endedAt_iff ha]
  by_cases h : i = g
  · exact ⟨e.now, .inl ⟨h, rfl⟩⟩
  · by_contra hc
    exact hw ⟨i, hi, h, fun c hic => hc ⟨c, .inr ⟨h, hic⟩⟩⟩

/-- A green start that waited for the confirmation of `g`, whose intergreen outlasts RA, lies ahead. -/
theorem startsLater_of_confirmed {e : Env} {g : Group} {r : Rt} (ha : r.stage.greenEnds.get g = .awaiting) {x : Gaining} {t : Time}
    (ht : x.startAt e (confirmNoted e g r) = some t)
    (h : x.greenAt = none → ¬ r.waitsBeside g x → g ∈ x.constraining ∧ e.tab.ra x.group < e.tab.ig g x.group ∧
      e.tab.ig g x.group ≤ 36000 ∧ (r.groups.get x.group).state = .rest ∧ (r.groups.get x.group).pendingGreen = none) :
    StartsLater e r x.group t := by
  have free : x.greenAt = none := by
    by_contra hx
    simp [startAt_of_waiting (e := e) ha (.inl hx)] at ht
  have done : ¬ r.waitsBeside g x := fun hx => by simp [startAt_of_waiting (e := e) ha (.inr hx)] at ht
  obtain ⟨hg, hra, hig, rest, pending⟩ := h free done
  obtain ⟨tj, start, -, least⟩ := startAt_of_confirmed (e := e) ha free done hg
  cases start.symm.trans ht
  exact startsLater_of_now rest pending hra hig (least g hg e.now (.inl ⟨rfl, rfl⟩))

/-- Settles O47: outside an interstage a confirmation is a matter of the group's own records; in an interstage it fixes the
green starts whose constraining groups are now all confirmed, each of which lies ahead of the intergreen that starts now. -/
theorem lampStatusConfirmsGreenEnd : Obligations.LampStatusConfirmsGreenEnd := by
  constructor
  · intro s h pl m k g e hd hl hm hn hp hi ho hk hw hc
    have arrived : ((s.part.arrived .field).lamp = s.part.rt.lamp ∧ (s.part.arrived .field).stage = s.part.rt.stage ∧
        (s.part.arrived .field).monitor = s.part.rt.monitor) ∧ (s.part.arrived .field).groups = s.part.rt.groups ∧
        (s.part.arrived .field).mode = s.part.rt.mode ∧ (s.part.arrived .field).notices = s.part.rt.notices := by simp
    obtain ⟨⟨lamp, stage, monitor⟩, groups, mode, notices⟩ := arrived
    have acts := exec_lampStatus s h pl hd hl
    simp only [hp, if_false] at acts
    generalize s.part.arrived .field = r at *
    obtain ⟨notices', groups', mode', ends, modules⟩ := takeLampStatus_without_interstage (e := s.part.env) (r := r)
      ((moduleRec_congr lamp _).trans hm) (stage ▸ hi) ho ⟨hk, lamp ▸ hw, hc⟩
    rw [takeFaults_nil _ _ (notices'.trans (notices.trans hn))] at acts
    generalize takeLampStatus s.part.env h.src pl r = t at *
    have kept := forwardTo_frame s.part.env .head (h.frame kindLampStatus pl) t
    obtain ⟨-, -, -, -, modeF, groupsF, monitorF, lampF, stageF, -⟩ := kept
    generalize forwardTo s.part.env .head (h.frame kindLampStatus pl) t = u at *
    obtain ⟨confirm, greenEnd, seen⟩ : t.lamp.confirms.get g = none ∧
        t.stage.greenEnds.get g = (r.stage.greenEnds.get g).confirmAt s.part.env.now ∧
        t.monitor.get g = (r.monitor.get g).confirmAt s.part.env.now := by
      simpa [Rt.greenEndOf] using ends
    refine ⟨s.withRt u, acts, rfl, rfl, lampF ▸ confirm, ?_, fun hawait hreach => ?_, ?_, ?_, ?_⟩
    · exact (congrArg (·.greenEnds.get g) stageF).trans (greenEnd.trans (by rw [stage, GreenEnd.confirmAt]))
    · refine (congrArg (·.get g) monitorF).trans (seen.trans ?_)
      rw [monitor, MonitorRec.confirmAt, hawait, if_pos]
      cases hs : (s.part.rt.monitor.get g).clearingSeen with
      | none => rfl
      | some since => simpa using hreach since hs
    · intro n hn' ha
      rw [← mode]
      exact modules n (lampF ▸ hn') ha
    · exact groupsF.trans (groups'.trans groups)
    · exact modeF.trans (mode'.trans mode)
  · intro s h pl m k g q e u hd hl hm hn hp hi hc ho hk one hw ha hecho ended waits nodup starts
    have arrived : ((s.part.arrived .field).lamp = u.lamp ∧ (s.part.arrived .field).stage = u.stage) ∧
        (s.part.arrived .field).groups = u.groups ∧ (s.part.arrived .field).mode = u.mode ∧
        (s.part.arrived .field).notices = u.notices := by simp [u]
    obtain ⟨⟨lamp, stage⟩, groups, mode, notices⟩ := arrived
    have acts := exec_lampStatus s h pl hd hl
    simp only [show s.part.rt.stage.phase = _ from hp, if_true] at acts
    generalize s.part.arrived .field = r at *
    obtain ⟨notices', mode', stage', inside, outside⟩ := takeLampStatus_interstage (e := s.part.env) (r := r)
      ((moduleRec_congr lamp _).trans hm) (stage ▸ hi) ho ⟨hk, lamp ▸ hw, hecho⟩ (lamp ▸ one) nodup fun x hx t ht =>
        startsLater_of_confirmed (stage ▸ ha) ht (by simpa only [Rt.waitsBeside, stage, groups] using starts x hx)
    have finished := finish_interstage (e := s.part.env) (notices'.trans (notices.trans hn))
      ((congrArg StageUnit.phase stage').trans ((congrArg StageUnit.phase stage).trans hp))
      (congrArg StageUnit.inter stage') ((fixed_complete g s.part.env.now _ q).trans hc)
    rw [finished] at acts
    generalize takeLampStatus s.part.env h.src pl r = t at *
    obtain ⟨-, -, -, -, modeF, groupsF, -, -, stageF, -⟩ := forwardTo_frame s.part.env .head (h.frame kindLampStatus pl) t
    generalize forwardTo s.part.env .head (h.frame kindLampStatus pl) t = f at *
    have ends : ∀ i, f.stage.greenEnds.get i = if i = g then .confirmed e.now else u.stage.greenEnds.get i := fun i => by
      rw [stageF, stage', ← stage]
      exact confirmNoted_greenEnds (stage ▸ ha) i
    have member : ∀ x ∈ q.gaining, x.fixedAt (x.startAt s.part.env (confirmNoted s.part.env g r)) ∈
        ((q.noteConfirmed g s.part.env.now).greensFixed fun x => x.startAt s.part.env (confirmNoted s.part.env g r)).gaining :=
      fun x hx => List.mem_map_of_mem hx
    have still : ∀ x : Gaining, x.greenAt ≠ none ∨ waits x → x.startAt s.part.env (confirmNoted s.part.env g r) = none :=
      fun x hx => startAt_of_waiting (stage ▸ ha) (by simpa only [Rt.waitsBeside, stage] using hx)
    refine ⟨s.withRt f, (q.noteConfirmed g s.part.env.now).greensFixed fun x => x.startAt s.part.env (confirmNoted s.part.env g r),
      acts, rfl, rfl, modeF.trans (mode'.trans mode), ?_, ends, ?_, ?_, fun x hx hwait => ?_,
      fun x hx hfree hdone => ?_, fun i hi => ?_⟩
    · refine stageF.trans (stage'.trans ?_)
      have recorded : f.stage.greenEnds = (confirmNoted s.part.env g r).stage.greenEnds := by rw [stageF, stage']
      rw [show (s.withRt f).part.rt.stage.greenEnds = _ from recorded, ← stage]
      rfl
    · rfl
    · simp only [Interstage.greensFixed, Interstage.noteConfirmed, List.map_map, Function.comp_def, Gaining.fixedAt_group]
    · have keeps := inside x hx
      have there := member x hx
      simp only [still x hwait] at keeps there
      exact ⟨there, (congrArg (·.get x.group) groupsF).trans (keeps.trans (congrArg (·.get x.group) groups))⟩
    · obtain ⟨tj, start, moment, least⟩ := startAt_of_confirmed (e := s.part.env) (r := r) (stage ▸ ha) hfree
        (by simpa only [Rt.waitsBeside, stage] using hdone) (starts x hx hfree hdone).1
      have ordered := inside x hx
      have there := member x hx
      simp only [start] at ordered there
      simp only [Rt.endedAt, stage] at moment least
      exact ⟨tj, there, (congrArg (·.get x.group) groupsF).trans (ordered.trans (by rw [groups]; rfl)), moment, least⟩
    · exact (congrArg (·.get i) groupsF).trans ((outside i hi).trans (congrArg (·.get i) groups))

end Sys2Proof.Machine

/-! SUPPORT. Proofs of the statements of the family 01_signal_groups_and_their_aspects: the fields of table entries. -/

namespace Sys2Proof.Machine

/-! ### Numbers in bytes (R178) -/

theorem num_two (a b : Byte) : num [a, b] = a.toNat * 256 + b.toNat := by simp [num]

theorem num_three (a b c : Byte) : num [a, b, c] = a.toNat * 65536 + b.toNat * 256 + c.toNat := by
  simp only [num, List.foldl_cons, List.foldl_nil]; omega

theorem num_two_lt (a b : Byte) : num [a, b] < 65536 := by
  rw [num_two]; have := a.isLt; have := b.isLt; omega

theorem num_three_lt (a b c : Byte) : num [a, b, c] < 16777216 := by
  rw [num_three]; have := a.isLt; have := b.isLt; have := c.isLt; omega

theorem enc1_toNat (b : Byte) : enc1 b.toNat = [b] := by simp [enc1, b8]

theorem enc2_num (a b : Byte) : enc2 (num [a, b]) = [a, b] := by
  simp only [enc2, b8, num_two, List.cons.injEq, and_true]
  constructor <;> bv_omega

theorem enc3_num (a b c : Byte) : enc3 (num [a, b, c]) = [a, b, c] := by
  simp only [enc3, b8, num_three, List.cons.injEq, and_true]
  refine ⟨?_, ?_, ?_⟩ <;> bv_omega

theorem num_enc1 {n : Nat} (h : n < 256) : (b8 n).toNat = n := by simp [b8, Nat.mod_eq_of_lt h]

theorem num_enc2 {n : Nat} (h : n < 65536) : num (enc2 n) = n := by
  simp only [enc2, num_two, b8, BitVec.toNat_ofNat]; omega

theorem num_enc3 {n : Nat} (h : n < 16777216) : num (enc3 n) = n := by
  simp only [enc3, num_three, b8, BitVec.toNat_ofNat]; omega

theorem append_eq_ofNat (a b c : Byte) : a ++ b ++ c = BitVec.ofNat 24 (num [a, b, c]) := by
  apply BitVec.eq_of_toNat_eq
  rw [num_three]
  have ha := a.isLt
  have hb := b.isLt
  have hc := c.isLt
  rw [BitVec.toNat_append, BitVec.toNat_append, ← Nat.shiftLeft_add_eq_or_of_lt hc, ← Nat.shiftLeft_add_eq_or_of_lt hb,
    Nat.shiftLeft_eq, Nat.shiftLeft_eq, BitVec.toNat_ofNat]
  omega

/-! ### Fields of an entry -/

theorem inRange_eq_some {lo hi n m : Nat} : inRange lo hi n = some m ↔ (lo ≤ n ∧ n ≤ hi) ∧ m = n := by
  unfold inRange
  split <;> simp_all [eq_comm]

theorem groupOf_eq_some {b : Byte} {g : Group} : groupOf b = some g ↔ g.val + 1 = b.toNat := by
  unfold groupOf
  split
  · simp only [Option.some.injEq, Fin.ext_iff]; omega
  · have := g.isLt; simp only [reduceCtorEq, false_iff]; omega

theorem stageOf_eq_some {b : Byte} {s : Stage} : stageOf b = some s ↔ s.val + 1 = b.toNat := by
  unfold stageOf
  split
  · simp only [Option.some.injEq, Fin.ext_iff]; omega
  · have := s.isLt; simp only [reduceCtorEq, false_iff]; omega

theorem loopOf_eq_some {b : Byte} {l : Loop} : loopOf b = some l ↔ l.val + 1 = b.toNat := by
  unfold loopOf
  split
  · simp only [Option.some.injEq, Fin.ext_iff]; omega
  · have := l.isLt; simp only [reduceCtorEq, false_iff]; omega

theorem slotNumber_eq_some {b : Byte} {s : Slot} : slotNumber b = some s ↔ s.val = b.toNat := by
  unfold slotNumber
  split
  · simp only [Option.some.injEq, Fin.ext_iff]; omega
  · have := s.isLt; simp only [reduceCtorEq, false_iff]; omega

theorem buttonIndexOf_eq_some {b : Byte} {i : Fin 8} : buttonIndexOf b = some i ↔ i.val = b.toNat := by
  unfold buttonIndexOf
  split
  · simp only [Option.some.injEq, Fin.ext_iff]; omega
  · have := i.isLt; simp only [reduceCtorEq, false_iff]; omega

theorem firstOf_eq_some {b : Byte} {x : Bool} : firstOf b = some x ↔ (b = 0#8 ∨ b = 1#8) ∧ x = decide (b = 0#8) := by
  unfold firstOf
  by_cases h0 : b = 0#8
  · cases x <;> simp [h0]
  · by_cases h1 : b = 1#8
    · cases x <;> simp [h1]
    · simp [h0, h1]

theorem addrOf_eq_some {own b a : Byte} : addrOf own b = some a ↔ ((2 ≤ b.toNat ∧ b.toNat ≤ 126) ∧ b ≠ own) ∧ a = b := by
  unfold addrOf
  rw [Option.ite_none_right_eq_some, Option.some.injEq, eq_comm (a := b)]
  tauto

theorem typeOf_eq_some {b : Byte} {t : GroupType} : typeOf b = some t ↔ t.code = b.toNat := by
  unfold typeOf
  split
  case h_5 h0 h1 h2 h3 =>
    refine iff_of_false (by simp) fun h => ?_
    cases t <;> simp_all [GroupType.code]
  all_goals next h => rw [h]; cases t <;> simp [GroupType.code]

theorem functionOf_eq_some {b : Byte} {f : DetFunction} : functionOf b = some f ↔ f.code = b.toNat := by
  unfold functionOf
  split
  case h_5 h0 h1 h2 h3 =>
    refine iff_of_false (by simp) fun h => ?_
    cases f <;> simp_all [DetFunction.code]
  all_goals next h => rw [h]; cases f <;> simp [DetFunction.code]

theorem optOf_eq_some {α : Type} {p : Byte} {bs : List Byte} {f : Option α} {x : Option α} : optOf p bs f = some x ↔
    (p = 0#8 ∧ padAccepted bs = true ∧ x = none) ∨ (p = 1#8 ∧ ∃ y, f = some y ∧ x = some y) := by
  unfold optOf
  by_cases h0 : p = 0#8
  · cases x <;> simp [h0]
  · by_cases h1 : p = 1#8
    · cases x <;> simp [h1]
    · simp [h0, h1]

theorem padAccepted_of_zeros {bs : List Byte} (h : ∀ b ∈ bs, b = 0#8) : padAccepted bs = true := by
  have zeros : bs.all (· == 0#8) = true := by simpa using h
  simp [padAccepted, zeros]

/-- What a presence byte allows: an absent field, or one in its range (R178). -/
theorem optOf_fits {α : Type} {p : Byte} {bs : List Byte} {f : Option α} {x : Option α} (h : optOf p bs f = some x) :
    p = 0#8 ∨ p = 1#8 ∧ f ≠ none := by
  rcases optOf_eq_some.mp h with ⟨hp, -⟩ | ⟨hp, y, hy, -⟩
  · exact .inl hp
  · exact .inr ⟨hp, by simp [hy]⟩

/-- A field in its range is taken, and so is an absent one whose bytes are 0. -/
theorem exists_optOf {α : Type} {p : Byte} {bs : List Byte} {f : Option α} (h : p = 0#8 ∨ p = 1#8 ∧ f ≠ none)
    (hz : p = 1#8 ∨ ∀ b ∈ bs, b = 0#8) : ∃ x, optOf p bs f = some x := by
  rcases h with hp | ⟨hp, hf⟩
  · have zeros := hz.resolve_left (by rw [hp]; decide)
    exact ⟨none, optOf_eq_some.mpr (.inl ⟨hp, padAccepted_of_zeros zeros, rfl⟩)⟩
  · obtain ⟨y, hy⟩ := Option.ne_none_iff_exists'.mp hf
    exact ⟨some y, optOf_eq_some.mpr (.inr ⟨hp, y, hy, rfl⟩)⟩

end Sys2Proof.Machine

/-! SUPPORT. Proofs of the statements of the family 01_signal_groups_and_their_aspects: which bytes carry a table entry, and the
bytes that answer it. -/

namespace Sys2Proof.Machine

/-! ### Flags and intergreens (R18, R19, R21) -/

theorem parseIntergreen_iff {b : Byte} {n : Nat} : parseIntergreen [b] = some n ↔ n = b.toNat ∧ 1 ≤ n ∧ n ≤ 250 := by
  rw [parseIntergreen, inRange_eq_some]
  constructor <;> rintro ⟨h, h'⟩ <;> omega

theorem enc_parseIntergreen {bs : List Byte} {n : Nat} (h : parseIntergreen bs = some n) : enc1 n = bs := by
  unfold parseIntergreen at h
  split at h
  · rw [(inRange_eq_some.mp h).2, enc1_toNat]
  · cases h

theorem encFirst_decide {b : Byte} (h : b = 0#8 ∨ b = 1#8) : encFirst (decide (b = 0#8)) = [b] := by
  rcases h with h | h <;> simp [encFirst, h]

theorem enc_parseFlag {bs : List Byte} {x : Bool} (h : parseFlag bs = some x) : encFirst x = bs := by
  unfold parseFlag at h
  split at h
  · obtain ⟨hb, rfl⟩ := firstOf_eq_some.mp h
    exact encFirst_decide hb
  · cases h

/-! ### Stages (R20) -/

theorem parseStage_iff {g2 g1 g0 m1 m0 sk po : Byte} {x : StageEntry} : parseStage [g2, g1, g0, m1, m0, sk, po] = some x ↔
    g2 ++ g1 ++ g0 ≠ 0#24 ∧ m1.toNat * 256 + m0.toNat ≤ 600 ∧ (sk = 0#8 ∨ sk = 1#8) ∧ (po = 0#8 ∨ po = 1#8) ∧
      x = ⟨g2 ++ g1 ++ g0, m1.toNat * 256 + m0.toNat, decide (sk = 0#8), decide (po = 0#8)⟩ := by
  rw [append_eq_ofNat]
  simp only [parseStage, Option.bind_eq_bind, Option.bind_eq_some_iff, inRange_eq_some, firstOf_eq_some, num_two,
    Option.ite_none_left_eq_some, Option.some.injEq]
  constructor
  · rintro ⟨_, ⟨⟨-, time⟩, rfl⟩, _, ⟨sk, rfl⟩, _, ⟨po, rfl⟩, green, rfl⟩
    exact ⟨green, time, sk, po, rfl⟩
  · rintro ⟨green, time, sk, po, rfl⟩
    exact ⟨_, ⟨⟨Nat.zero_le _, time⟩, rfl⟩, _, ⟨sk, rfl⟩, _, ⟨po, rfl⟩, green, rfl⟩

theorem enc_parseStage {bs : List Byte} {x : StageEntry} (h : parseStage bs = some x) : encStage x = bs := by
  have carried := h
  unfold parseStage at h
  split at h
  · next g2 g1 g0 m1 m0 sk po =>
    obtain ⟨-, -, hsk, hpo, rfl⟩ := parseStage_iff.mp carried
    have green : (g2 ++ g1 ++ g0).toNat = num [g2, g1, g0] := by
      rw [append_eq_ofNat, BitVec.toNat_ofNat, Nat.mod_eq_of_lt (num_three_lt ..)]
    simp only [encStage, green, ← num_two, enc3_num, enc2_num, encFirst_decide hsk, encFirst_decide hpo, List.cons_append,
      List.nil_append]
  · cases h

/-! ### Loops (R89) -/

theorem parseLoop_iff {own ca ch n1 n0 f1 f0 dn df k p1 p0 fm rc a2 a1 a0 z2 z1 z0 fw : Byte} {x : LoopEntry} :
    parseLoop own [ca, ch, n1, n0, f1, f0, dn, df, k, p1, p0, fm, rc, a2, a1, a0, z2, z1, z0, fw] = some x ↔
      ((2 ≤ ca.toNat ∧ ca.toNat ≤ 126) ∧ ca ≠ own) ∧ (20 ≤ num [n1, n0] ∧ num [n1, n0] ≤ 20000) ∧
        (10 ≤ num [f1, f0] ∧ num [f1, f0] ≤ num [n1, n0] - 1) ∧ (1 ≤ dn.toNat ∧ dn.toNat ≤ 15) ∧
        (1 ≤ df.toNat ∧ df.toNat ≤ 15) ∧ (4 ≤ k.toNat ∧ k.toNat ≤ 12) ∧
        (num [p1, p0] = 0 ∨ 10 ≤ num [p1, p0] ∧ num [p1, p0] ≤ 3600) ∧ (fm = 0#8 ∨ fm = 1#8) ∧
        (16 ≤ rc.toNat ∧ rc.toNat ≤ 255) ∧ 1 ≤ num [a2, a1, a0] ∧ num [a2, a1, a0] < num [z2, z1, z0] ∧ (fw = 0#8 ∨ fw = 1#8) ∧
        ∃ channel : Slot, channel.val = ch.toNat ∧ x = ⟨ca, channel, num [n1, n0], num [f1, f0], dn.toNat, df.toNat, k.toNat,
          num [p1, p0], if fm = 0#8 then .demand else .ignore, rc.toNat, num [a2, a1, a0], num [z2, z1, z0], decide (fw = 0#8)⟩ := by
  simp only [parseLoop, Option.bind_eq_bind, Option.bind_eq_some_iff, inRange_eq_some, firstOf_eq_some, addrOf_eq_some,
    slotNumber_eq_some, Option.ite_none_right_eq_some, Option.some.injEq]
  constructor
  · rintro ⟨_, ⟨hca, rfl⟩, channel, hch, _, ⟨hn, rfl⟩, _, ⟨hf, rfl⟩, _, ⟨hdn, rfl⟩, _, ⟨hdf, rfl⟩, _, ⟨hk, rfl⟩, _, ⟨hfm, rfl⟩,
      _, ⟨hrc, rfl⟩, _, ⟨hfw, rfl⟩, ⟨hp, ha, hz⟩, rfl⟩
    exact ⟨hca, hn, hf, hdn, hdf, hk, hp, hfm, hrc, ha, hz, hfw, channel, hch, by simp⟩
  · rintro ⟨hca, hn, hf, hdn, hdf, hk, hp, hfm, hrc, ha, hz, hfw, channel, hch, rfl⟩
    exact ⟨_, ⟨hca, rfl⟩, channel, hch, _, ⟨hn, rfl⟩, _, ⟨hf, rfl⟩, _, ⟨hdn, rfl⟩, _, ⟨hdf, rfl⟩, _, ⟨hk, rfl⟩, _, ⟨hfm, rfl⟩,
      _, ⟨hrc, rfl⟩, _, ⟨hfw, rfl⟩, ⟨hp, ha, hz⟩, by simp⟩

theorem enc_parseLoop {own : Byte} {bs : List Byte} {x : LoopEntry} (h : parseLoop own bs = some x) : encLoop x = bs := by
  have carried := h
  unfold parseLoop at h
  split at h
  · next ca ch n1 n0 f1 f0 dn df k p1 p0 fm rc a2 a1 a0 z2 z1 z0 fw =>
    clear h
    obtain ⟨-, -, -, -, -, -, -, hfm, -, -, -, hfw, channel, hch, rfl⟩ := parseLoop_iff.mp carried
    clear carried
    have mode : encFirst ((if fm = 0#8 then FaultMode.demand else .ignore) == .demand) = [fm] := by
      rcases hfm with rfl | rfl <;> rfl
    have slot : b8 channel.val = ch := by rw [hch]; simp [b8]
    simp only [encLoop, mode, slot, enc3_num, enc2_num, enc1_toNat, encFirst_decide hfw, List.cons_append, List.nil_append]
  · cases h

/-! ### Assignments and buttons (R113, R123) -/

theorem parseAssign_iff {l g f d : Byte} {x : AssignEntry} : parseAssign [l, g, f, d] = some x ↔
    x.loop.val + 1 = l.toNat ∧ x.group.val + 1 = g.toNat ∧ x.function.code = f.toNat ∧ x.delay = d.toNat := by
  simp only [parseAssign, Option.bind_eq_bind, Option.bind_eq_some_iff, loopOf_eq_some, groupOf_eq_some, functionOf_eq_some,
    Option.some.injEq]
  constructor
  · rintro ⟨loop, hl, group, hg, function, hf, rfl⟩
    exact ⟨hl, hg, hf, rfl⟩
  · obtain ⟨loop, group, function, delay⟩ := x
    rintro ⟨hl, hg, hf, rfl⟩
    exact ⟨loop, hl, group, hg, function, hf, rfl⟩

theorem b8_toNat {b : Byte} {n : Nat} (h : n = b.toNat) : b8 n = b := by simp [h, b8]

theorem enc_parseAssign {bs : List Byte} {x : AssignEntry} (h : parseAssign bs = some x) : encAssign x = bs := by
  have carried := h
  unfold parseAssign at h
  split at h
  · obtain ⟨hl, hg, hf, hd⟩ := parseAssign_iff.mp carried
    rw [encAssign, loopByte, groupByte, b8_toNat hl, b8_toNat hg, b8_toNat hf, b8_toNat hd]
  · cases h

theorem parseButton_iff {own a i g : Byte} {x : ButtonEntry} : parseButton own [a, i, g] = some x ↔
    ((2 ≤ a.toNat ∧ a.toNat ≤ 126) ∧ a ≠ own) ∧ x.addr = a ∧ x.index.val = i.toNat ∧ x.group.val + 1 = g.toNat := by
  simp only [parseButton, Option.bind_eq_bind, Option.bind_eq_some_iff, addrOf_eq_some, buttonIndexOf_eq_some, groupOf_eq_some,
    Option.some.injEq]
  constructor
  · rintro ⟨_, ⟨ha, rfl⟩, index, hi, group, hg, rfl⟩
    exact ⟨ha, rfl, hi, hg⟩
  · obtain ⟨addr, index, group⟩ := x
    rintro ⟨ha, rfl, hi, hg⟩
    exact ⟨_, ⟨ha, rfl⟩, index, hi, group, hg, rfl⟩

theorem enc_parseButton {own : Byte} {bs : List Byte} {x : ButtonEntry} (h : parseButton own bs = some x) : encButton x = bs := by
  have carried := h
  unfold parseButton at h
  split at h
  · obtain ⟨-, ha, hi, hg⟩ := parseButton_iff.mp carried
    rw [encButton, groupByte, b8_toNat hi, b8_toNat hg, ha]
  · cases h

/-! ### Groups (R2) -/

theorem parseGroup_iff {own t m1 m0 ra c1 c0 pr ad sl : Byte} {x : GroupEntry} :
    parseGroup own [t, m1, m0, ra, c1, c0, pr, ad, sl] = some x ↔
      x.type.code = t.toNat ∧ optOf pr [ad, sl] (do some (⟨← addrOf own ad, ← slotNumber sl⟩ : Mapping)) = some x.mapping ∧
        x.minGreen = num [m1, m0] ∧ x.ra = ra.toNat ∧ x.clearing = num [c1, c0] ∧
        groupTimesOk x.type x.minGreen x.ra x.clearing = true ∧ (x.type = .unused → x.mapping = none) := by
  simp only [parseGroup, Option.bind_eq_bind, Option.bind_eq_some_iff, typeOf_eq_some, Option.ite_none_right_eq_some,
    Option.some.injEq, Bool.and_eq_true, Bool.or_eq_true, Option.isNone_iff_eq_none, bne_iff_ne, ne_eq, ← imp_iff_not_or]
  constructor
  · rintro ⟨type, ht, mapping, hm, ⟨times, unused⟩, rfl⟩
    exact ⟨ht, hm, rfl, rfl, rfl, times, unused⟩
  · obtain ⟨type, minGreen, ra, clearing, mapping⟩ := x
    rintro ⟨ht, hm, rfl, rfl, rfl, times, unused⟩
    exact ⟨type, ht, mapping, hm, ⟨times, unused⟩, rfl⟩

end Sys2Proof.Machine

/-! SUPPORT. Proofs of the statements of the family 01_signal_groups_and_their_aspects: the entries with absent fields. -/

namespace Sys2Proof.Machine

/-! ### Groups (R2) -/

theorem mapping_eq_some {own ad sl : Byte} {m : Mapping} :
    (do some (⟨← addrOf own ad, ← slotNumber sl⟩ : Mapping)) = some m ↔
      ((2 ≤ ad.toNat ∧ ad.toNat ≤ 126) ∧ ad ≠ own) ∧ m.addr = ad ∧ m.slot.val = sl.toNat := by
  obtain ⟨addr, slot⟩ := m
  simp only [Option.bind_eq_bind, Option.bind_eq_some_iff, addrOf_eq_some, slotNumber_eq_some, Option.some.injEq, Mapping.mk.injEq]
  constructor
  · rintro ⟨_, ⟨ha, rfl⟩, slot, hs, rfl, rfl⟩
    exact ⟨ha, rfl, hs⟩
  · rintro ⟨ha, rfl, hs⟩
    exact ⟨_, ⟨ha, rfl⟩, slot, hs, rfl, rfl⟩

theorem mapping_ne_none {own ad sl : Byte} : (do some (⟨← addrOf own ad, ← slotNumber sl⟩ : Mapping)) ≠ none ↔
    ((2 ≤ ad.toNat ∧ ad.toNat ≤ 126) ∧ ad ≠ own) ∧ sl.toNat < 4 := by
  rw [Option.ne_none_iff_exists']
  simp only [mapping_eq_some]
  constructor
  · rintro ⟨m, ha, -, hs⟩
    exact ⟨ha, hs ▸ m.slot.isLt⟩
  · rintro ⟨ha, hs⟩
    exact ⟨⟨ad, ⟨sl.toNat, hs⟩⟩, ha, rfl, rfl⟩

theorem byte_eq_iff (b : Byte) (n : Nat) (h : n < 256) : b = BitVec.ofNat 8 n ↔ n = b.toNat := by
  rw [← BitVec.toNat_inj, BitVec.toNat_ofNat, Nat.mod_eq_of_lt h, eq_comm]

/-- The ranges of a group's times by its type (R2). -/
theorem groupTimesOk_iff {t m1 m0 ra c1 c0 : Byte} {type : GroupType} (h : type.code = t.toNat) (p : Prop) :
    groupTimesOk type (num [m1, m0]) ra.toNat (num [c1, c0]) = true ∧ (type = .unused → p) ↔
      (t = 0#8 ∧ num [m1, m0] = 0 ∧ ra = 0#8 ∧ num [c1, c0] = 0 ∧ p) ∨
      (t = 1#8 ∧ (30 ≤ num [m1, m0] ∧ num [m1, m0] ≤ 600) ∧ ra.toNat ≤ 30 ∧ 30 ≤ num [c1, c0] ∧ num [c1, c0] ≤ 60) ∨
      (t = 2#8 ∧ (40 ≤ num [m1, m0] ∧ num [m1, m0] ≤ 600) ∧ ra = 0#8 ∧ num [c1, c0] ≤ 300) ∨
      (t = 3#8 ∧ (20 ≤ num [m1, m0] ∧ num [m1, m0] ≤ 600) ∧ ra.toNat ≤ 30 ∧ 20 ≤ num [c1, c0] ∧ num [c1, c0] ≤ 60) := by
  have zero : ra = 0#8 ↔ ra.toNat = 0 := (byte_eq_iff ra 0 (by omega)).trans eq_comm
  have code : ∀ n, n < 256 → (t = BitVec.ofNat 8 n ↔ n = type.code) := fun n hn => h ▸ byte_eq_iff t n hn
  rw [code 0 (by omega), code 1 (by omega), code 2 (by omega), code 3 (by omega), zero]
  cases type <;> simp [groupTimesOk, GroupType.code, and_assoc]

/-- A group entry's bytes: what the presence byte says, and the ranges of its times (R2). -/
theorem parseGroup_bytes {own t m1 m0 ra c1 c0 pr ad sl : Byte} {x : GroupEntry}
    (h : parseGroup own [t, m1, m0, ra, c1, c0, pr, ad, sl] = some x) :
    (x.mapping = none ↔ pr = 0#8) ∧ (pr = 0#8 ∨ pr = 1#8 ∧ ((2 ≤ ad.toNat ∧ ad.toNat ≤ 126) ∧ ad ≠ own) ∧ sl.toNat < 4) ∧
      ∀ m, x.mapping = some m → m.addr = ad ∧ m.slot.val = sl.toNat := by
  obtain ⟨-, mapping, -⟩ := parseGroup_iff.mp h
  rcases optOf_eq_some.mp mapping with ⟨hp, -, hx⟩ | ⟨hp, m, hm, hx⟩
  · exact ⟨by simp [hx, hp], .inl hp, by simp [hx]⟩
  · refine ⟨by simp [hx, hp], .inr ⟨hp, mapping_ne_none.mp fun none => by cases hm.symm.trans none⟩, fun m' hm' => ?_⟩
    cases hx.symm.trans hm'
    exact (mapping_eq_some.mp hm).2

/-- The bytes that answer a group entry carry it (R190). -/
theorem parseGroup_encGroup {own : Byte} {bs : List Byte} {x : GroupEntry} (h : parseGroup own bs = some x) :
    parseGroup own (encGroup x) = some x := by
  have carried := h
  unfold parseGroup at h
  split at h
  · next t m1 m0 ra c1 c0 pr ad sl =>
    clear h
    obtain ⟨-, mapping, minGreen, raEq, clearing, times, unused⟩ := parseGroup_iff.mp carried
    have minLt := minGreen ▸ num_two_lt m1 m0
    have clearLt := clearing ▸ num_two_lt c1 c0
    have raLt := raEq ▸ ra.isLt
    have code : (b8 x.type.code).toNat = x.type.code := num_enc1 (by cases x.type <;> decide)
    have bytes : ∀ p a s, optOf p [a, s] (do some (⟨← addrOf own a, ← slotNumber s⟩ : Mapping)) = some x.mapping →
        parseGroup own [b8 x.type.code, b8 (x.minGreen / 256), b8 x.minGreen, b8 x.ra, b8 (x.clearing / 256), b8 x.clearing,
          p, a, s] = some x := fun p a s field =>
      parseGroup_iff.mpr ⟨code.symm, field, (num_enc2 minLt).symm, (num_enc1 raLt).symm, (num_enc2 clearLt).symm, times, unused⟩
    have enc : encGroup x = [b8 x.type.code, b8 (x.minGreen / 256), b8 x.minGreen, b8 x.ra, b8 (x.clearing / 256),
        b8 x.clearing] ++ encOpt 2 (x.mapping.map fun m => [m.addr, b8 m.slot.val]) := rfl
    rw [enc]
    rcases optOf_eq_some.mp mapping with ⟨-, -, hx⟩ | ⟨-, m, hm, hx⟩ <;> rw [hx] at bytes ⊢
    · exact bytes _ _ _ (optOf_eq_some.mpr (.inl ⟨rfl, padAccepted_of_zeros (by simp), rfl⟩))
    · obtain ⟨station, addr, slot⟩ := mapping_eq_some.mp hm
      refine bytes _ _ _ (optOf_eq_some.mpr (.inr ⟨rfl, m, mapping_eq_some.mpr ⟨addr ▸ station, rfl, ?_⟩, rfl⟩))
      exact (num_enc1 (by omega)).symm
  · cases h

end Sys2Proof.Machine

/-! SUPPORT. Proofs of the statements of the family 01_signal_groups_and_their_aspects: routes and settings. -/

namespace Sys2Proof.Machine

/-- A field's range, and the number read. -/
theorem inRange_of {lo hi n : Nat} (h : lo ≤ n ∧ n ≤ hi) : inRange lo hi n = some n := inRange_eq_some.mpr ⟨h, rfl⟩

/-- The byte of a code other than 0. -/
theorem nonzero_eq_some {b x : Byte} : (if b = 0#8 then none else some b) = some x ↔ b ≠ 0#8 ∧ x = b := by
  rw [Option.ite_none_left_eq_some, Option.some.injEq, eq_comm (a := b) (b := x)]

/-! ### Routes (R132) -/

/-- A route entry behind the tests of its three codes. -/
def routeFields (co ci dp dv ck g sp sv t1 t0 w bl l1 l0 e1 e0 x1 x0 u1 u0 : Byte) : Option RouteEntry := do
  let door ← optOf dp [dv] (if dv = 0#8 then none else some dv)
  let group ← groupOf g
  let prio ← optOf sp [sv] (stageOf sv)
  let travel ← inRange 10 1200 (num [t1, t0])
  let spread ← inRange 0 100 w.toNat
  let base ← inRange 0 3 bl.toNat
  let late ← inRange 10 600 (num [l1, l0])
  let early ← inRange 0 600 (num [e1, e0])
  let maxExt ← inRange 0 300 (num [x1, x0])
  let guardT ← inRange 0 300 (num [u1, u0])
  some ⟨co, ci, door, ck, group, prio, travel, spread, base, late, early, maxExt, guardT⟩

theorem parseRoute_eq (co ci dp dv ck g sp sv t1 t0 w bl l1 l0 e1 e0 x1 x0 u1 u0 : Byte) :
    parseRoute [co, ci, dp, dv, ck, g, sp, sv, t1, t0, w, bl, l1, l0, e1, e0, x1, x0, u1, u0] =
      if co = 0#8 ∨ ci = 0#8 ∨ ck = 0#8 then none else
        routeFields co ci dp dv ck g sp sv t1 t0 w bl l1 l0 e1 e0 x1 x0 u1 u0 := by
  by_cases hco : co = 0#8
  · exact (if_pos hco).trans (if_pos (.inl hco)).symm
  by_cases hci : ci = 0#8
  · exact (if_neg hco).trans ((if_pos hci).trans (if_pos (.inr (.inl hci))).symm)
  by_cases hck : ck = 0#8
  · rw [if_pos (.inr (.inr hck))]
    refine (if_neg hco).trans ((if_neg hci).trans ?_)
    exact (congrArg (Option.bind _) (funext fun door => if_pos hck)).trans (Option.bind_fun_none _)
  · rw [if_neg (by simp [hco, hci, hck])]
    refine (if_neg hco).trans ((if_neg hci).trans ?_)
    exact congrArg (Option.bind _) (funext fun door => if_neg hck)

theorem parseRoute_iff {co ci dp dv ck g sp sv t1 t0 w bl l1 l0 e1 e0 x1 x0 u1 u0 : Byte} {x : RouteEntry} :
    parseRoute [co, ci, dp, dv, ck, g, sp, sv, t1, t0, w, bl, l1, l0, e1, e0, x1, x0, u1, u0] = some x ↔
      (co ≠ 0#8 ∧ ci ≠ 0#8 ∧ ck ≠ 0#8 ∧ (10 ≤ num [t1, t0] ∧ num [t1, t0] ≤ 1200) ∧ w.toNat ≤ 100 ∧ bl.toNat ≤ 3 ∧
        (10 ≤ num [l1, l0] ∧ num [l1, l0] ≤ 600) ∧ num [e1, e0] ≤ 600 ∧ num [x1, x0] ≤ 300 ∧ num [u1, u0] ≤ 300) ∧
      optOf dp [dv] (if dv = 0#8 then none else some dv) = some x.door ∧ x.group.val + 1 = g.toNat ∧
      optOf sp [sv] (stageOf sv) = some x.priorityStage ∧ x.code = co ∧ x.checkIn = ci ∧ x.checkOut = ck ∧
      x.travel = num [t1, t0] ∧ x.spread = w.toNat ∧ x.baseLevel = bl.toNat ∧ x.late = num [l1, l0] ∧ x.early = num [e1, e0] ∧
      x.maxExt = num [x1, x0] ∧ x.guardTime = num [u1, u0] := by
  constructor
  · intro h
    rw [parseRoute_eq] at h
    obtain ⟨codes, h⟩ := Option.ite_none_left_eq_some.mp h
    obtain ⟨hco, hci, hck⟩ : co ≠ 0#8 ∧ ci ≠ 0#8 ∧ ck ≠ 0#8 := by simpa [not_or] using codes
    obtain ⟨door, hd, h⟩ := Option.bind_eq_some_iff.mp h
    obtain ⟨group, hg, h⟩ := Option.bind_eq_some_iff.mp h
    obtain ⟨stage, hs, h⟩ := Option.bind_eq_some_iff.mp h
    obtain ⟨_, ht, h⟩ := Option.bind_eq_some_iff.mp h
    obtain ⟨_, hw, h⟩ := Option.bind_eq_some_iff.mp h
    obtain ⟨_, hb, h⟩ := Option.bind_eq_some_iff.mp h
    obtain ⟨_, hl, h⟩ := Option.bind_eq_some_iff.mp h
    obtain ⟨_, he, h⟩ := Option.bind_eq_some_iff.mp h
    obtain ⟨_, hx, h⟩ := Option.bind_eq_some_iff.mp h
    obtain ⟨_, hu, h⟩ := Option.bind_eq_some_iff.mp h
    obtain ⟨ht', rfl⟩ := inRange_eq_some.mp ht
    obtain ⟨⟨-, hw'⟩, rfl⟩ := inRange_eq_some.mp hw
    obtain ⟨⟨-, hb'⟩, rfl⟩ := inRange_eq_some.mp hb
    obtain ⟨hl', rfl⟩ := inRange_eq_some.mp hl
    obtain ⟨⟨-, he'⟩, rfl⟩ := inRange_eq_some.mp he
    obtain ⟨⟨-, hx'⟩, rfl⟩ := inRange_eq_some.mp hx
    obtain ⟨⟨-, hu'⟩, rfl⟩ := inRange_eq_some.mp hu
    cases h
    exact ⟨⟨hco, hci, hck, ht', hw', hb', hl', he', hx', hu'⟩, hd, groupOf_eq_some.mp hg, hs, rfl, rfl, rfl, rfl, rfl, rfl, rfl, rfl, rfl,
      rfl⟩
  · obtain ⟨code, checkIn, door, checkOut, group, stage, travel, spread, base, late, early, maxExt, guardT⟩ := x
    rintro ⟨⟨hco, hci, hck, ht, hw, hb, hl, he, hx, hu⟩, hd, hg, hs, rfl, rfl, rfl, rfl, rfl, rfl, rfl, rfl, rfl, rfl⟩
    rw [parseRoute_eq, if_neg (by simp [hco, hci, hck])]
    simp only [routeFields, hd, hs, groupOf_eq_some.mpr hg, inRange_of ht, inRange_of hl, inRange_of ⟨Nat.zero_le _, hw⟩,
      inRange_of ⟨Nat.zero_le _, hb⟩, inRange_of ⟨Nat.zero_le _, he⟩, inRange_of ⟨Nat.zero_le _, hx⟩,
      inRange_of ⟨Nat.zero_le _, hu⟩, Option.bind_eq_bind, Option.bind_some]

/-- The bytes of an optional field as TABLE_READ answers them carry it. -/
theorem optOf_encOpt {α : Type} {p : Byte} {bs : List Byte} {f : List Byte → Option α} {x : Option α} (n : Nat) (enc : α → List Byte)
    (h : optOf p bs (f bs) = some x) (henc : ∀ y, f bs = some y → f (enc y) = some y) (hlen : ∀ y, (enc y).length = n) :
    ∃ p' bs', encOpt n (x.map enc) = p' :: bs' ∧ bs'.length = n ∧ optOf p' bs' (f bs') = some x := by
  rcases optOf_eq_some.mp h with ⟨-, -, rfl⟩ | ⟨-, y, hy, rfl⟩
  · exact ⟨0#8, zeros n, rfl, by simp [zeros], optOf_eq_some.mpr (.inl ⟨rfl, padAccepted_of_zeros (by simp [zeros]), rfl⟩)⟩
  · exact ⟨1#8, enc y, rfl, hlen y, optOf_eq_some.mpr (.inr ⟨rfl, y, henc y hy, rfl⟩)⟩

theorem stageOf_stageByte (s : Stage) : stageOf (stageByte s) = some s :=
  stageOf_eq_some.mpr (num_enc1 (by have := s.isLt; omega)).symm

theorem groupByte_toNat (g : Group) : (groupByte g).toNat = g.val + 1 := num_enc1 (by have := g.isLt; omega)

/-- The bytes that answer a route entry carry it (R190). -/
theorem parseRoute_encRoute {bs : List Byte} {x : RouteEntry} (h : parseRoute bs = some x) : parseRoute (encRoute x) = some x := by
  have carried := h
  unfold parseRoute at h
  split at h
  · next co ci dp dv ck g sp sv t1 t0 w bl l1 l0 e1 e0 x1 x0 u1 u0 =>
    clear h
    obtain ⟨⟨hco, hci, hck, ht, hw, hb, hl, he, hx, hu⟩, door, -, stage, code, checkIn, checkOut, travel, spread, base, late, early,
      maxExt, guardT⟩ := parseRoute_iff.mp carried
    clear carried
    obtain ⟨dp', _, doorEnc, len, door'⟩ := optOf_encOpt (f := fun l => if l.headD 0#8 = 0#8 then none else some (l.headD 0#8)) 1
      (fun d => [d]) door (fun y hy => by obtain ⟨h0, rfl⟩ := nonzero_eq_some.mp hy; exact nonzero_eq_some.mpr ⟨h0, rfl⟩) fun _ => rfl
    obtain ⟨dv', rfl⟩ := List.length_eq_one_iff.mp len
    obtain ⟨sp', _, stageEnc, len, stage'⟩ := optOf_encOpt (f := fun l => stageOf (l.headD 0#8)) 1 (fun s => [stageByte s]) stage
      (fun y _ => stageOf_stageByte y) fun _ => rfl
    obtain ⟨sv', rfl⟩ := List.length_eq_one_iff.mp len
    rw [← travel] at ht
    rw [← spread] at hw
    rw [← base] at hb
    rw [← late] at hl
    rw [← early] at he
    rw [← maxExt] at hx
    rw [← guardT] at hu
    have n2 : ∀ n, n ≤ 1200 → num [b8 (n / 256), b8 n] = n := fun n hn => num_enc2 (by omega)
    have n1 : ∀ n, n ≤ 100 → (b8 n).toNat = n := fun n hn => num_enc1 (by omega)
    have bytes : encRoute x = [x.code, x.checkIn, dp', dv', x.checkOut, groupByte x.group, sp', sv', b8 (x.travel / 256), b8 x.travel,
        b8 x.spread, b8 x.baseLevel, b8 (x.late / 256), b8 x.late, b8 (x.early / 256), b8 x.early, b8 (x.maxExt / 256),
        b8 x.maxExt, b8 (x.guardTime / 256), b8 x.guardTime] := by
      simp only [encRoute, doorEnc, stageEnc]
      rfl
    rw [bytes, parseRoute_iff, n2 _ ht.2, n2 _ (hl.2.trans (by omega)), n2 _ (he.trans (by omega)), n2 _ (hx.trans (by omega)),
      n2 _ (hu.trans (by omega)), n1 _ hw, n1 _ (hb.trans (by omega)), code, checkIn, checkOut]
    exact ⟨⟨hco, hci, hck, ht, hw, hb, hl, he, hx, hu⟩, door', (groupByte_toNat _).symm, stage', rfl, rfl, rfl, rfl, rfl, rfl, rfl,
      rfl, rfl, rfl⟩
  · cases h

/-! ### The settings (R191) -/

/-- The relations of the settings (R175). -/
theorem settingsOk_iff {x : Settings} : settingsOk x = true ↔ (∀ a b, x.sensorA = some a → x.sensorB = some b → a ≠ b) ∧
    (x.dimOn = none ∧ x.dimOff = none ∨ ∃ a b, x.dimOn = some a ∧ x.dimOff = some b ∧ a < b) := by
  obtain ⟨_, _, _, _, a, b, on, off⟩ := x
  cases a <;> cases b <;> cases on <;> cases off <;> simp [settingsOk, and_comm]

theorem parseSettings_iff {own kw al k2 k1 k0 cp pa sa pb sb pn n1 n0 pf f1 f0 : Byte} {x : Settings} :
    parseSettings own [kw, al, k2, k1, k0, cp, pa, sa, pb, sb, pn, n1, n0, pf, f1, f0] = some x ↔
      ((1 ≤ kw.toNat ∧ kw.toNat ≤ 60) ∧ al.toNat ≤ 10 ∧ num [k2, k1, k0] ≤ 2097151 ∧ (cp = 0#8 ∨ cp = 1#8)) ∧
      optOf pa [sa] (addrOf own sa) = some x.sensorA ∧ optOf pb [sb] (addrOf own sb) = some x.sensorB ∧
      optOf pn [n1, n0] (some (num [n1, n0])) = some x.dimOn ∧ optOf pf [f1, f0] (some (num [f1, f0])) = some x.dimOff ∧
      settingsOk x = true ∧ x.keepaliveWindow = kw.toNat ∧ x.allowance = al.toNat ∧ x.mask = BitVec.ofNat 21 (num [k2, k1, k0]) ∧
      x.capture = if cp = 0#8 then .allFaults else .flashFaults := by
  simp only [parseSettings, Option.bind_eq_bind, Option.bind_eq_some_iff, inRange_eq_some, firstOf_eq_some,
    Option.ite_none_right_eq_some, Option.some.injEq]
  constructor
  · rintro ⟨_, ⟨hk, rfl⟩, _, ⟨ha, rfl⟩, _, ⟨hm, rfl⟩, _, ⟨hc, rfl⟩, a, hsa, b, hsb, on, hon, off, hoff, ok, rfl⟩
    exact ⟨⟨hk, ha.2, hm.2, hc⟩, hsa, hsb, hon, hoff, ok, rfl, rfl, rfl, by simp⟩
  · obtain ⟨window, allowance, mask, capture, a, b, on, off⟩ := x
    rintro ⟨⟨hk, ha, hm, hc⟩, hsa, hsb, hon, hoff, ok, rfl, rfl, rfl, rfl⟩
    exact ⟨_, ⟨hk, rfl⟩, _, ⟨⟨Nat.zero_le _, ha⟩, rfl⟩, _, ⟨⟨Nat.zero_le _, hm⟩, rfl⟩, _, ⟨hc, rfl⟩, a, hsa, b, hsb, on, hon,
      off, hoff, ⟨by simpa using ok, by simp⟩⟩

end Sys2Proof.Machine

/-! SUPPORT. Proofs of the statements of the family 01_signal_groups_and_their_aspects: what the settings' bytes say, and routes. -/

namespace Sys2Proof.Machine

/-- An optional field that reads as `v` alone: `v` under presence 1, and absent under presence 0 (R178). -/
theorem optOf_value {α : Type} {p : Byte} {bs : List Byte} {f x : Option α} {v : α} (h : optOf p bs f = some x)
    (hf : ∀ y, f = some y → y = v) : (p = 0#8 ∨ p = 1#8 ∧ f ≠ none) ∧ x = if p = 1#8 then some v else none := by
  refine ⟨optOf_fits h, ?_⟩
  rcases optOf_eq_some.mp h with ⟨rfl, -, rfl⟩ | ⟨rfl, y, hy, rfl⟩
  · rfl
  · rw [if_pos rfl, hf y hy]

theorem addrOf_value {own b y : Byte} (h : addrOf own b = some y) : y = b := (addrOf_eq_some.mp h).2

theorem addrOf_ne_none {own b : Byte} : addrOf own b ≠ none ↔ (2 ≤ b.toNat ∧ b.toNat ≤ 126) ∧ b ≠ own := by
  simp [Option.ne_none_iff_exists', addrOf_eq_some]

/-! ### Routes (R132) -/

theorem nonzero_value {b y : Byte} (h : (if b = 0#8 then none else some b) = some y) : y = b := (nonzero_eq_some.mp h).2

theorem nonzero_ne_none {b : Byte} : (if b = 0#8 then none else some b) ≠ none ↔ b ≠ 0#8 := by simp

theorem stageOf_ne_none {b : Byte} : stageOf b ≠ none ↔ 1 ≤ b.toNat ∧ b.toNat ≤ 16 := by simp [stageOf]

theorem groupOf_ne_none {b : Byte} : groupOf b ≠ none ↔ 1 ≤ b.toNat ∧ b.toNat ≤ 24 := by simp [groupOf]

/-- A priority stage's number, when one is named. -/
theorem optOf_stage {p sv : Byte} {x : Option Stage} (h : optOf p [sv] (stageOf sv) = some x) :
    x.map (fun s => s.val + 1) = if p = 1#8 then some sv.toNat else none := by
  rcases optOf_eq_some.mp h with ⟨rfl, -, rfl⟩ | ⟨rfl, y, hy, rfl⟩
  · rfl
  · rw [if_pos rfl, Option.map_some, stageOf_eq_some.mp hy]

/-! ### The settings (R175, R191) -/

/-- The relations of the settings, read from the bytes of their optional fields. -/
theorem settingsOk_bytes {x : Settings} {pa sa pb sb pn pf : Byte} {n f : Nat} (ha : x.sensorA = if pa = 1#8 then some sa else none)
    (hb : x.sensorB = if pb = 1#8 then some sb else none) (hn : x.dimOn = if pn = 1#8 then some n else none)
    (hf : x.dimOff = if pf = 1#8 then some f else none) (pn01 : pn = 0#8 ∨ pn = 1#8) (pf01 : pf = 0#8 ∨ pf = 1#8) :
    settingsOk x = true ↔ ¬ (pa = 1#8 ∧ pb = 1#8 ∧ sa = sb) ∧ (pn = 0#8 ∧ pf = 0#8 ∨ pn = 1#8 ∧ pf = 1#8 ∧ n < f) := by
  rw [settingsOk_iff, ha, hb, hn, hf]
  refine and_congr ?_ ?_
  · by_cases h : pa = 1#8 <;> by_cases h' : pb = 1#8 <;> simp [h, h']
  · rcases pn01 with rfl | rfl <;> rcases pf01 with rfl | rfl <;> simp

/-- The bytes that answer the settings carry them (R190). -/
theorem parseSettings_encSettings {own : Byte} {bs : List Byte} {x : Settings} (h : parseSettings own bs = some x) :
    parseSettings own (encSettings x) = some x := by
  have carried := h
  unfold parseSettings at h
  split at h
  · next kw al k2 k1 k0 cp pa sa pb sb pn n1 n0 pf f1 f0 =>
    clear h
    obtain ⟨⟨hk, ha, hm, hc⟩, sensorA, sensorB, dimOn, dimOff, ok, window, allowance, mask, capture⟩ := parseSettings_iff.mp carried
    clear carried
    have sensor : ∀ a y : Byte, addrOf own a = some y → addrOf own y = some y := fun a y hy => by
      obtain ⟨station, rfl⟩ := addrOf_eq_some.mp hy
      exact hy
    have dim : ∀ (a b : Byte) (y : Nat), some (num [a, b]) = some y → some (num (enc2 y)) = some y := fun a b y hy => by
      cases hy
      rw [enc2_num]
    obtain ⟨pa', _, encA, len, fieldA⟩ := optOf_encOpt (f := fun l => addrOf own (l.headD 0#8)) 1 (fun a => [a]) sensorA
      (fun y hy => sensor sa y hy) fun _ => rfl
    obtain ⟨sa', rfl⟩ := List.length_eq_one_iff.mp len
    obtain ⟨pb', _, encB, len, fieldB⟩ := optOf_encOpt (f := fun l => addrOf own (l.headD 0#8)) 1 (fun a => [a]) sensorB
      (fun y hy => sensor sb y hy) fun _ => rfl
    obtain ⟨sb', rfl⟩ := List.length_eq_one_iff.mp len
    obtain ⟨pn', _, encOn, len, fieldOn⟩ := optOf_encOpt (f := fun l => some (num l)) 2 enc2 dimOn (dim n1 n0) fun _ => rfl
    obtain ⟨n1', n0', rfl⟩ := List.length_eq_two.mp len
    obtain ⟨pf', _, encOff, len, fieldOff⟩ := optOf_encOpt (f := fun l => some (num l)) 2 enc2 dimOff (dim f1 f0) fun _ => rfl
    obtain ⟨f1', f0', rfl⟩ := List.length_eq_two.mp len
    have captureByte : encFirst (x.capture == .allFaults) = [cp] := by
      rw [capture]
      rcases hc with rfl | rfl <;> rfl
    have bytes : encSettings x = [b8 x.keepaliveWindow, b8 x.allowance, b8 (x.mask.toNat / 65536), b8 (x.mask.toNat / 256),
        b8 x.mask.toNat, cp, pa', sa', pb', sb', pn', n1', n0', pf', f1', f0'] := by
      simp only [encSettings, captureByte, encA, encB, encOn, encOff]
      rfl
    have windowByte : (b8 x.keepaliveWindow).toNat = x.keepaliveWindow := num_enc1 (by omega)
    have allowanceByte : (b8 x.allowance).toNat = x.allowance := num_enc1 (by omega)
    have maskLt := x.mask.isLt
    have maskBytes : num [b8 (x.mask.toNat / 65536), b8 (x.mask.toNat / 256), b8 x.mask.toNat] = x.mask.toNat :=
      num_enc3 (by omega)
    rw [bytes, parseSettings_iff, windowByte, allowanceByte, maskBytes]
    exact ⟨⟨by omega, by omega, by omega, hc⟩, fieldA, fieldB, fieldOn, fieldOff, ok, rfl, rfl, by simp, capture⟩
  · cases h

end Sys2Proof.Machine

/-! SUPPORT. Proofs of the statements of the family 01_signal_groups_and_their_aspects: plans. -/

namespace Sys2Proof.Machine

/-! ### Lists of bytes -/

theorem stagesOf_eq_some : ∀ {l : List Byte} {seq : List Stage},
    stagesOf l = some seq ↔ seq.map (fun s => s.val + 1) = l.map BitVec.toNat
  | [], [] => by simp [stagesOf]
  | [], s :: seq => by simp [stagesOf]
  | b :: l, [] => by simp [stagesOf, Option.bind_eq_some_iff]
  | b :: l, s :: seq => by
    simp only [stagesOf, Option.bind_eq_bind, Option.bind_eq_some_iff, stageOf_eq_some, stagesOf_eq_some, Option.some.injEq,
      List.cons.injEq, List.map_cons]
    constructor
    · rintro ⟨_, hs, _, hl, rfl, rfl⟩
      exact ⟨hs, hl⟩
    · rintro ⟨hs, hl⟩
      exact ⟨s, hs, seq, hl, rfl, rfl⟩

theorem pairs_length : ∀ (n : Nat) {l : List Byte}, l.length = 2 * n → (pairs l).length = n
  | 0, [], _ => rfl
  | n + 1, [], h => by simp at h
  | n + 1, [a], h => by simp at h; omega
  | n + 1, a :: b :: l, h => by rw [pairs, List.length_cons, pairs_length n (by simpa [Nat.mul_succ] using h)]

theorem pairs_getD : ∀ (k : Nat) {l : List Byte}, 2 * k + 1 < l.length →
    (pairs l).getD k 0 = num [l.getD (2 * k) 0#8, l.getD (2 * k + 1) 0#8]
  | 0, a :: b :: l, _ => by simp [pairs]
  | k + 1, a :: b :: l, h => by
    have rest := pairs_getD k (l := l) (by simp at h; omega)
    simpa [pairs, Nat.mul_succ] using rest

theorem pairs_enc2 : ∀ {l : List Nat}, (∀ n ∈ l, n < 65536) → pairs (l.flatMap enc2) = l
  | [], _ => rfl
  | n :: l, h => by
    obtain ⟨hn, hl⟩ := List.forall_mem_cons.mp h
    rw [List.flatMap_cons]
    exact congrArg₂ List.cons (num_enc2 hn) (pairs_enc2 hl)

theorem toNat_enc1 : ∀ {l : List Nat}, (∀ n ∈ l, n < 256) → (l.flatMap enc1).map BitVec.toNat = l
  | [], _ => rfl
  | n :: l, h => by
    obtain ⟨hn, hl⟩ := List.forall_mem_cons.mp h
    rw [List.flatMap_cons]
    exact congrArg₂ List.cons (num_enc1 hn) (toNat_enc1 hl)

theorem vecOf_get {n : Nat} (l : List Nat) (i : Fin n) : (vecOf n l).get i = l.getD i.val 0 := by
  simp [vecOf, Vector.get, Vector.ofFn]
  rfl

theorem vecOf_toList {n : Nat} (v : Vector Nat n) : vecOf n v.toList = v := by
  ext i hi
  simp [vecOf, List.getD]

theorem toList_vecOf {n : Nat} {l : List Nat} (h : l.length = n) : (vecOf n l).toList = l := by
  apply List.ext_getElem (by simp [h])
  intro i hi hi'
  simp [vecOf, List.getD, hi']

/-- Every number of a list that fills a vector lies in a range, place by place. -/
theorem all_iff_get {n : Nat} {l : List Nat} (h : l.length = n) (lo hi : Nat) :
    l.all (fun m => decide (lo ≤ m ∧ m ≤ hi)) = true ↔ ∀ i : Fin n, lo ≤ l.getD i.val 0 ∧ l.getD i.val 0 ≤ hi := by
  subst h
  simp only [List.all_eq_true, decide_eq_true_eq]
  constructor
  · intro all i
    have mem := all l[i] (List.getElem_mem i.isLt)
    simpa [List.getD, i.isLt] using mem
  · intro each m hm
    obtain ⟨i, hi, rfl⟩ := List.getElem_of_mem hm
    simpa [List.getD, hi] using each ⟨i, hi⟩

/-! ### The parts of a plan entry (R62) -/

theorem parsePlan_iff {bs : List Byte} (hl : bs.length = 81) {x : PlanEntry} : parsePlan bs = some x ↔
    (1 ≤ (bs.getD 0 0#8).toNat ∧ (bs.getD 0 0#8).toNat ≤ 16) ∧
    stagesOf (((bs.drop 1).take 16).take (bs.getD 0 0#8).toNat) = some x.sequence ∧ stageOf (bs.getD 73 0#8) = some x.startStage ∧
    (num ((bs.drop 74).take 2) ≤ 300 ∧ x.startFlash = num ((bs.drop 74).take 2)) ∧
    ((20 ≤ (bs.getD 76 0#8).toNat ∧ (bs.getD 76 0#8).toNat ≤ 100) ∧ x.allRed = (bs.getD 76 0#8).toNat) ∧
    (num ((bs.drop 77).take 2) ≤ 600 ∧ x.extLimit = num ((bs.drop 77).take 2)) ∧
    (num ((bs.drop 79).take 2) ≤ 1200 ∧ x.lockout = num ((bs.drop 79).take 2)) ∧
    x.sequence.Nodup ∧ padAccepted (((bs.drop 1).take 16).drop (bs.getD 0 0#8).toNat) = true ∧
    ((pairs ((bs.drop 17).take 32)).all (fun n => decide (50 ≤ n ∧ n ≤ 1200)) = true ∧
      x.maxGreen = vecOf 16 (pairs ((bs.drop 17).take 32))) ∧
    (((bs.drop 49).take 24).map BitVec.toNat).all (fun n => decide (5 ≤ n ∧ n ≤ 100)) = true ∧
      x.gapTime = vecOf 24 (((bs.drop 49).take 24).map BitVec.toNat) := by
  simp only [parsePlan, hl, if_true, Option.bind_eq_bind]
  constructor
  · intro h
    obtain ⟨_, count, h⟩ := Option.bind_eq_some_iff.mp h
    obtain ⟨sequence, stages, h⟩ := Option.bind_eq_some_iff.mp h
    obtain ⟨startStage, start, h⟩ := Option.bind_eq_some_iff.mp h
    obtain ⟨_, flash, h⟩ := Option.bind_eq_some_iff.mp h
    obtain ⟨_, allRed, h⟩ := Option.bind_eq_some_iff.mp h
    obtain ⟨_, ext, h⟩ := Option.bind_eq_some_iff.mp h
    obtain ⟨_, lockout, h⟩ := Option.bind_eq_some_iff.mp h
    obtain ⟨⟨nodup, pad, greens, gaps⟩, same⟩ := Option.ite_none_right_eq_some.mp h
    obtain ⟨⟨-, flashLe⟩, rfl⟩ := inRange_eq_some.mp flash
    obtain ⟨allRedIn, rfl⟩ := inRange_eq_some.mp allRed
    obtain ⟨⟨-, extLe⟩, rfl⟩ := inRange_eq_some.mp ext
    obtain ⟨⟨-, lockoutLe⟩, rfl⟩ := inRange_eq_some.mp lockout
    cases same
    exact ⟨(inRange_eq_some.mp count).1, stages, start, ⟨flashLe, rfl⟩, ⟨allRedIn, rfl⟩, ⟨extLe, rfl⟩, ⟨lockoutLe, rfl⟩, nodup, pad,
      ⟨greens, rfl⟩, gaps, rfl⟩
  · obtain ⟨sequence, maxGreen, gapTime, startStage, startFlash, allRed, extLimit, lockout⟩ := x
    rintro ⟨count, stages, start, ⟨flashLe, rfl⟩, ⟨allRedIn, rfl⟩, ⟨extLe, rfl⟩, ⟨lockoutLe, rfl⟩, nodup, pad, ⟨greens, rfl⟩, gaps, rfl⟩
    rw [inRange_of count, stages, start, inRange_of ⟨Nat.zero_le _, flashLe⟩, inRange_of allRedIn,
      inRange_of ⟨Nat.zero_le _, extLe⟩, inRange_of ⟨Nat.zero_le _, lockoutLe⟩]
    exact if_pos ⟨nodup, pad, greens, gaps⟩

end Sys2Proof.Machine

/-! SUPPORT. Proofs of the statements of the family 01_signal_groups_and_their_aspects: a plan's bytes by their places. -/

namespace Sys2Proof.Machine

/-- The byte at a place of an entry. -/
abbrev byteAt (bs : List Byte) (i : Nat) : Nat := (bs.getD i 0#8).toNat

theorem getD_part (bs : List Byte) {i n k : Nat} (h : k < n) : ((bs.drop i).take n).getD k 0#8 = bs.getD (i + k) 0#8 := by
  simp [List.getD, List.getElem?_take_of_lt h]

theorem part_length {bs : List Byte} {i n : Nat} (h : i + n ≤ bs.length) : ((bs.drop i).take n).length = n := by
  simp; omega

theorem num_pair {bs : List Byte} {i : Nat} (h : i + 2 ≤ bs.length) :
    num ((bs.drop i).take 2) = byteAt bs i * 256 + byteAt bs (i + 1) := by
  obtain ⟨a, b, pair⟩ := List.length_eq_two.mp (part_length h)
  have first := getD_part bs (i := i) (n := 2) (k := 0) (by omega)
  have second := getD_part bs (i := i) (n := 2) (k := 1) (by omega)
  rw [pair] at first second ⊢
  rw [num_two, byteAt, byteAt, ← second, ← Nat.add_zero i, ← first]
  rfl

theorem greens_getD {bs : List Byte} (hl : bs.length = 81) (s : Stage) : (pairs ((bs.drop 17).take 32)).getD s.val 0 =
    byteAt bs (17 + 2 * s.val) * 256 + byteAt bs (18 + 2 * s.val) := by
  have hs := s.isLt
  rw [pairs_getD s.val (by rw [part_length (by omega)]; omega), getD_part bs (by omega), getD_part bs (by omega), num_two,
    show 17 + (2 * s.val + 1) = 18 + 2 * s.val by omega]

theorem gaps_getD {bs : List Byte} (g : Group) : (((bs.drop 49).take 24).map BitVec.toNat).getD g.val 0 = byteAt bs (49 + g.val) := by
  rw [byteAt, ← getD_part bs g.isLt]
  exact List.getD_map ((bs.drop 49).take 24) 0#8 BitVec.toNat

/-- The stages that some bytes number. -/
theorem stages_iff {l : List Byte} {seq : List Stage} : stagesOf l = some seq ↔
    seq.length = l.length ∧ ∀ (i : Nat) s, seq[i]? = some s → s.val + 1 = byteAt l i := by
  rw [stagesOf_eq_some]
  constructor
  · intro h
    have len := congrArg List.length h
    simp only [List.length_map] at len
    refine ⟨len, fun i s hs => ?_⟩
    have at_i := congrArg (·[i]?) h
    simp only [List.getElem?_map, hs, Option.map_some] at at_i
    obtain ⟨b, hb, eq⟩ := Option.map_eq_some_iff.mp at_i.symm
    simp [byteAt, List.getD, hb, eq]
  · rintro ⟨len, each⟩
    refine List.ext_getElem (by simpa using len) fun i hi hi' => ?_
    simp only [List.length_map] at hi hi'
    have at_i := each i seq[i] (List.getElem?_eq_getElem hi)
    simpa [byteAt, List.getD, hi'] using at_i

theorem exists_stages : ∀ {l : List Byte}, (∀ i, i < l.length → 1 ≤ byteAt l i ∧ byteAt l i ≤ 16) → ∃ seq, stagesOf l = some seq
  | [], _ => ⟨[], rfl⟩
  | b :: l, h => by
    obtain ⟨s, hs⟩ := Option.ne_none_iff_exists'.mp (stageOf_ne_none.mpr (h 0 (by simp)))
    obtain ⟨seq, hseq⟩ := exists_stages fun i hi => h (i + 1) (by simpa using hi)
    exact ⟨s :: seq, by simp only [stagesOf, hseq]; simp at hs ⊢; simp [hs]⟩

/-- The places of a sequence: as many as the count says, each a stage, none twice (R62). -/
theorem places_iff {bs : List Byte} (hl : bs.length = 81) {n : Nat} (hn : n ≤ 16) {seq : List Stage} :
    stagesOf (((bs.drop 1).take 16).take n) = some seq ↔
      seq.length = n ∧ ∀ (i : Nat) s, seq[i]? = some s → s.val + 1 = byteAt bs (1 + i) := by
  have len : (((bs.drop 1).take 16).take n).length = n := by simp [hl]; omega
  rw [stages_iff, len]
  refine and_congr_right fun hseq => forall₂_congr fun i s => imp_congr_right fun hs => ?_
  have hi : i < n := hseq ▸ (List.getElem?_eq_some_iff.mp hs).1
  rw [byteAt, byteAt, List.take_take, Nat.min_eq_left hn, getD_part bs hi]

theorem sequence_nodup_iff {bs : List Byte} {seq : List Stage}
    (h : ∀ (i : Nat) s, seq[i]? = some s → s.val + 1 = byteAt bs (1 + i)) :
    seq.Nodup ↔ ∀ i, i < seq.length → ∀ j, j < i → byteAt bs (1 + j) ≠ byteAt bs (1 + i) := by
  have place : ∀ (i : Nat) (hi : i < seq.length), seq[i].val + 1 = byteAt bs (1 + i) := fun i hi =>
    h i _ (List.getElem?_eq_getElem hi)
  rw [List.Nodup, List.pairwise_iff_getElem]
  constructor
  · intro distinct i hi j hj eq
    refine distinct j i (by omega) hi hj (Fin.ext ?_)
    have := place i hi
    have := place j (by omega)
    omega
  · intro distinct j i hj hi hji eq
    refine distinct i hi j hji ?_
    rw [← place i hi, ← place j hj, eq]

theorem pad_of_zeros {bs : List Byte} {n : Nat} (h : ∀ i, n ≤ i → i < 16 → byteAt bs (1 + i) = 0) :
    padAccepted (((bs.drop 1).take 16).drop n) = true := by
  refine padAccepted_of_zeros fun b hb => ?_
  obtain ⟨k, hk⟩ := List.mem_iff_getElem?.mp hb
  rw [List.getElem?_drop] at hk
  have lt : n + k < 16 := by
    have := (List.getElem?_eq_some_iff.mp hk).1
    simp at this
    omega
  have zero := h (n + k) (by omega) lt
  rw [byteAt, ← getD_part bs lt] at zero
  apply BitVec.eq_of_toNat_eq
  rw [List.getD, hk] at zero
  exact zero

end Sys2Proof.Machine

/-! SUPPORT. Proofs of the statements of the family 01_signal_groups_and_their_aspects: a plan entry and the bytes that answer it. -/

namespace Sys2Proof.Machine

/-- Every field of a plan entry's bytes lies in its range (R62). -/
structure PlanFits (b : Nat → Nat) : Prop where
  count : 1 ≤ b 0 ∧ b 0 ≤ 16
  sequence : ∀ i, i < b 0 → (1 ≤ b (1 + i) ∧ b (1 + i) ≤ 16) ∧ ∀ j, j < i → b (1 + j) ≠ b (1 + i)
  maxGreen : ∀ s : Stage, 50 ≤ b (17 + 2 * s.val) * 256 + b (18 + 2 * s.val) ∧ b (17 + 2 * s.val) * 256 + b (18 + 2 * s.val) ≤ 1200
  gapTime : ∀ g : Group, 5 ≤ b (49 + g.val) ∧ b (49 + g.val) ≤ 100
  startStage : 1 ≤ b 73 ∧ b 73 ≤ 16
  startFlash : b 74 * 256 + b 75 ≤ 300
  allRed : 20 ≤ b 76 ∧ b 76 ≤ 100
  extLimit : b 77 * 256 + b 78 ≤ 600
  lockout : b 79 * 256 + b 80 ≤ 1200

/-- A plan entry holds what its bytes say (R62). -/
structure PlanReads (b : Nat → Nat) (x : PlanEntry) : Prop where
  length : x.sequence.length = b 0
  sequence : ∀ (i : Nat) s, x.sequence[i]? = some s → s.val + 1 = b (1 + i)
  maxGreen : ∀ s : Stage, x.maxGreen.get s = b (17 + 2 * s.val) * 256 + b (18 + 2 * s.val)
  gapTime : ∀ g : Group, x.gapTime.get g = b (49 + g.val)
  startStage : x.startStage.val + 1 = b 73
  startFlash : x.startFlash = b 74 * 256 + b 75
  allRed : x.allRed = b 76
  extLimit : x.extLimit = b 77 * 256 + b 78
  lockout : x.lockout = b 79 * 256 + b 80

section
variable {bs : List Byte} (hl : bs.length = 81)
include hl

theorem plan_greens_iff : (pairs ((bs.drop 17).take 32)).all (fun n => decide (50 ≤ n ∧ n ≤ 1200)) = true ↔
    ∀ s : Stage, 50 ≤ byteAt bs (17 + 2 * s.val) * 256 + byteAt bs (18 + 2 * s.val) ∧
      byteAt bs (17 + 2 * s.val) * 256 + byteAt bs (18 + 2 * s.val) ≤ 1200 := by
  rw [all_iff_get (pairs_length 16 (part_length (by omega)))]
  exact forall_congr' fun s => by rw [greens_getD hl]

theorem plan_gaps_iff : (((bs.drop 49).take 24).map BitVec.toNat).all (fun n => decide (5 ≤ n ∧ n ≤ 100)) = true ↔
    ∀ g : Group, 5 ≤ byteAt bs (49 + g.val) ∧ byteAt bs (49 + g.val) ≤ 100 := by
  rw [all_iff_get ((List.length_map _).trans (part_length (by omega)))]
  exact forall_congr' fun g => by rw [gaps_getD]

/-- A plan entry's fields lie in their ranges, and it holds what the bytes say. -/
theorem parsePlan_reads {x : PlanEntry} (h : parsePlan bs = some x) : PlanFits (byteAt bs) ∧ PlanReads (byteAt bs) x := by
  obtain ⟨count, stages, start, ⟨flashLe, flash⟩, ⟨redIn, red⟩, ⟨extLe, ext⟩, ⟨lockLe, lock⟩, nodup, -, ⟨greens, green⟩, gaps, gap⟩ :=
    (parsePlan_iff hl).mp h
  rw [num_pair (by omega)] at flashLe flash extLe ext lockLe lock
  obtain ⟨len, each⟩ := (places_iff hl count.2).mp stages
  have distinct := (sequence_nodup_iff each).mp nodup
  refine ⟨⟨count, fun i hi => ⟨?_, distinct i (len ▸ hi)⟩, (plan_greens_iff hl).mp greens, (plan_gaps_iff hl).mp gaps,
    stageOf_ne_none.mp (fun none => by cases start.symm.trans none), flashLe, redIn, extLe, lockLe⟩, ⟨len, each, fun s => ?_, fun g => ?_,
    stageOf_eq_some.mp start, flash, red, ext, lock⟩⟩
  · have hi' : i < x.sequence.length := len ▸ hi
    have place := each i _ (List.getElem?_eq_getElem hi')
    have := x.sequence[i].isLt
    omega
  · rw [green, vecOf_get, greens_getD hl]
  · rw [gap, vecOf_get, gaps_getD]

/-- Bytes whose fields lie in their ranges carry a plan entry. -/
theorem exists_parsePlan (h : PlanFits (byteAt bs)) (hz : ∀ i, byteAt bs 0 ≤ i → i < 16 → byteAt bs (1 + i) = 0) :
    parsePlan bs ≠ none := by
  have len : (((bs.drop 1).take 16).take (byteAt bs 0)).length = byteAt bs 0 := by
    have := h.count.2
    simp [hl]; omega
  obtain ⟨seq, stages⟩ := exists_stages (l := ((bs.drop 1).take 16).take (byteAt bs 0)) fun i hi => by
    rw [len] at hi
    have := h.count.2
    rw [byteAt, List.take_take, Nat.min_eq_left this, getD_part bs hi]
    exact (h.sequence i hi).1
  obtain ⟨seqLen, each⟩ := (places_iff hl h.count.2).mp stages
  obtain ⟨start, hstart⟩ := Option.ne_none_iff_exists'.mp (stageOf_ne_none.mpr h.startStage)
  have nodup : seq.Nodup := (sequence_nodup_iff each).mpr fun i hi => (h.sequence i (seqLen ▸ hi)).2
  refine Option.ne_none_iff_exists'.mpr ⟨⟨seq, _, _, start, _, _, _, _⟩, (parsePlan_iff hl).mpr ⟨h.count, stages, hstart, ⟨?_, rfl⟩,
    ⟨h.allRed, rfl⟩, ⟨?_, rfl⟩, ⟨?_, rfl⟩, nodup, pad_of_zeros hz, ⟨(plan_greens_iff hl).mpr h.maxGreen, rfl⟩,
    (plan_gaps_iff hl).mpr h.gapTime, rfl⟩⟩
  · rw [num_pair (by omega)]; exact h.startFlash
  · rw [num_pair (by omega)]; exact h.extLimit
  · rw [num_pair (by omega)]; exact h.lockout

end

/-- The bytes of a plan entry by their parts. -/
theorem plan_parts {c st f1 f0 a e1 e0 l1 l0 : Byte} {P M G : List Byte} (hP : P.length = 16) (hM : M.length = 32)
    (hG : G.length = 24) : let bs := c :: (P ++ (M ++ (G ++ [st, f1, f0, a, e1, e0, l1, l0])))
    bs.length = 81 ∧ bs.getD 0 0#8 = c ∧ (bs.drop 1).take 16 = P ∧ (bs.drop 17).take 32 = M ∧ (bs.drop 49).take 24 = G ∧
      bs.drop 73 = [st, f1, f0, a, e1, e0, l1, l0] := by
  intro bs
  have d1 : bs.drop 1 = P ++ (M ++ (G ++ [st, f1, f0, a, e1, e0, l1, l0])) := rfl
  have d17 : bs.drop 17 = M ++ (G ++ [st, f1, f0, a, e1, e0, l1, l0]) := List.drop_left' (l₁ := P) hP
  have d49 : bs.drop 49 = G ++ [st, f1, f0, a, e1, e0, l1, l0] := by
    rw [show 49 = 17 + 32 from rfl, ← List.drop_drop, d17, List.drop_left' hM]
  have d73 : bs.drop 73 = [st, f1, f0, a, e1, e0, l1, l0] := by
    rw [show 73 = 49 + 24 from rfl, ← List.drop_drop, d49, List.drop_left' hG]
  refine ⟨by simp [bs, hP, hM, hG], rfl, ?_, ?_, ?_, d73⟩
  · rw [d1, List.take_left' hP]
  · rw [d17, List.take_left' hM]
  · rw [d49, List.take_left' hG]

theorem getD_of_drop {bs l : List Byte} {n k : Nat} (h : bs.drop n = l) : bs.getD (n + k) 0#8 = l.getD k 0#8 := by
  subst h; simp [List.getD]

/-- The bytes that answer a plan entry carry it (R190). -/
theorem parsePlan_encPlan {bs : List Byte} {x : PlanEntry} (h : parsePlan bs = some x) : parsePlan (encPlan x) = some x := by
  have hl : bs.length = 81 := by
    by_contra hl
    rw [parsePlan, if_neg hl] at h
    cases h
  obtain ⟨count, stages, start, ⟨flashLe, flash⟩, ⟨redIn, red⟩, ⟨extLe, ext⟩, ⟨lockLe, lock⟩, nodup, -, ⟨greens, green⟩, gaps, gap⟩ :=
    (parsePlan_iff hl).mp h
  obtain ⟨len, -⟩ := (places_iff hl count.2).mp stages
  have greenList : x.maxGreen.toList = pairs ((bs.drop 17).take 32) := by
    rw [green, toList_vecOf (pairs_length 16 (part_length (by omega)))]
  have gapList : x.gapTime.toList = ((bs.drop 49).take 24).map BitVec.toNat := by
    rw [gap, toList_vecOf ((List.length_map _).trans (part_length (by omega)))]
  rw [← greenList] at greens
  rw [← gapList] at gaps
  have greenLt : ∀ n ∈ x.maxGreen.toList, n < 65536 := fun n hn => by
    have := List.all_eq_true.mp greens n hn
    simp at this
    omega
  have gapLt : ∀ n ∈ x.gapTime.toList, n < 256 := fun n hn => by
    have := List.all_eq_true.mp gaps n hn
    simp at this
    omega
  have lenLe : x.sequence.length ≤ 16 := len ▸ count.2
  have bytes : encPlan x = b8 x.sequence.length :: ((x.sequence.map stageByte ++ zeros (16 - x.sequence.length)) ++
      (x.maxGreen.toList.flatMap enc2 ++ (x.gapTime.toList.flatMap enc1 ++ [stageByte x.startStage, b8 (x.startFlash / 256),
        b8 x.startFlash, b8 x.allRed, b8 (x.extLimit / 256), b8 x.extLimit, b8 (x.lockout / 256), b8 x.lockout]))) := by
    simp [encPlan, enc1, enc2]
  obtain ⟨hl', count', places', greens', gaps', rest'⟩ := plan_parts (c := b8 x.sequence.length) (st := stageByte x.startStage)
    (f1 := b8 (x.startFlash / 256)) (f0 := b8 x.startFlash) (a := b8 x.allRed) (e1 := b8 (x.extLimit / 256)) (e0 := b8 x.extLimit)
    (l1 := b8 (x.lockout / 256)) (l0 := b8 x.lockout) (P := x.sequence.map stageByte ++ zeros (16 - x.sequence.length))
    (M := x.maxGreen.toList.flatMap enc2) (G := x.gapTime.toList.flatMap enc1) (by simp [zeros]; omega)
    (by simp [enc2]) (by simp [enc1])
  rw [← bytes] at hl' count' places' greens' gaps' rest'
  generalize encPlan x = bs' at *
  clear bytes
  have start' : bs'.getD 73 0#8 = stageByte x.startStage := getD_of_drop (k := 0) rest'
  have red' : bs'.getD 76 0#8 = b8 x.allRed := getD_of_drop (k := 3) rest'
  have drops : ∀ k, bs'.drop (73 + k) = [stageByte x.startStage, b8 (x.startFlash / 256), b8 x.startFlash, b8 x.allRed,
      b8 (x.extLimit / 256), b8 x.extLimit, b8 (x.lockout / 256), b8 x.lockout].drop k := fun k => by
    rw [← List.drop_drop, rest']
  have flash' : num ((bs'.drop 74).take 2) = x.startFlash := (congrArg (fun l => num (l.take 2)) (drops 1)).trans (num_enc2 (by omega))
  have ext' : num ((bs'.drop 77).take 2) = x.extLimit := (congrArg (fun l => num (l.take 2)) (drops 4)).trans (num_enc2 (by omega))
  have lock' : num ((bs'.drop 79).take 2) = x.lockout := (congrArg (fun l => num (l.take 2)) (drops 6)).trans (num_enc2 (by omega))
  have countByte : (b8 x.sequence.length).toNat = x.sequence.length := num_enc1 (by omega)
  have redByte : (b8 x.allRed).toNat = x.allRed := num_enc1 (by omega)
  have stageLen : (x.sequence.map stageByte).length = x.sequence.length := List.length_map _
  have stages' : stagesOf (x.sequence.map stageByte) = some x.sequence := by
    rw [stagesOf_eq_some, List.map_map]
    exact List.map_congr_left fun s _ => (num_enc1 (by have := s.isLt; omega)).symm
  rw [parsePlan_iff hl', count', places', greens', gaps', start', red', flash', ext', lock', countByte, redByte,
    List.take_left' stageLen, List.drop_left' stageLen, pairs_enc2 greenLt, toNat_enc1 gapLt, vecOf_toList, vecOf_toList]
  exact ⟨len ▸ count, stages', stageOf_stageByte _, ⟨flash ▸ flashLe, rfl⟩, ⟨red ▸ redIn, rfl⟩, ⟨ext ▸ extLe, rfl⟩,
    ⟨lock ▸ lockLe, rfl⟩, nodup, padAccepted_of_zeros (by simp [zeros]), ⟨greens, rfl⟩, gaps, rfl⟩

end Sys2Proof.Machine

/-! SUPPORT. Proofs of the statements of the family 01_signal_groups_and_their_aspects: what a table write stores reads back. -/

namespace Sys2Proof.Machine

/-- What a marker asks for (R189). -/
theorem markedEntry_cases {α : Type} (w : WriteOperand) (parse : List Byte → Option α) :
    (w.marker = 0#8 → (∀ b ∈ w.entry, b = 0#8) → markedEntry w parse = some none) ∧
    (w.marker = 0#8 → markedEntry w parse = some none ∨ markedEntry w parse = none) ∧
    (w.marker = 1#8 → markedEntry w parse = (parse w.entry).map some) ∧
    (w.marker ≠ 0#8 → w.marker ≠ 1#8 → markedEntry w parse = none) := by
  refine ⟨fun h hz => ?_, fun h => ?_, fun h => ?_, fun h0 h1 => ?_⟩
  · rw [markedEntry, if_pos h, if_pos (padAccepted_of_zeros hz)]
  · rw [markedEntry, if_pos h]
    split
    · exact .inl rfl
    · exact .inr rfl
  · rw [markedEntry, h]
    rfl
  · rw [markedEntry, if_neg h0, if_neg h1]

/-- The ranges of a group entry's bytes (R2). -/
def groupFits (own t m1 m0 ra c1 c0 pr ad sl : Byte) : Prop :=
  (pr = 0#8 ∨ pr = 1#8 ∧ ((2 ≤ ad.toNat ∧ ad.toNat ≤ 126) ∧ ad ≠ own) ∧ sl.toNat < 4) ∧
    ((t = 0#8 ∧ num [m1, m0] = 0 ∧ ra = 0#8 ∧ num [c1, c0] = 0 ∧ pr = 0#8) ∨
      (t = 1#8 ∧ (30 ≤ num [m1, m0] ∧ num [m1, m0] ≤ 600) ∧ ra.toNat ≤ 30 ∧ 30 ≤ num [c1, c0] ∧ num [c1, c0] ≤ 60) ∨
      (t = 2#8 ∧ (40 ≤ num [m1, m0] ∧ num [m1, m0] ≤ 600) ∧ ra = 0#8 ∧ num [c1, c0] ≤ 300) ∨
      (t = 3#8 ∧ (20 ≤ num [m1, m0] ∧ num [m1, m0] ≤ 600) ∧ ra.toNat ≤ 30 ∧ 20 ≤ num [c1, c0] ∧ num [c1, c0] ≤ 60))

theorem parseGroup_fits {own t m1 m0 ra c1 c0 pr ad sl : Byte} {x : GroupEntry}
    (h : parseGroup own [t, m1, m0, ra, c1, c0, pr, ad, sl] = some x) : groupFits own t m1 m0 ra c1 c0 pr ad sl ∧
      x.type.code = t.toNat ∧ x.minGreen = num [m1, m0] ∧ x.ra = ra.toNat ∧ x.clearing = num [c1, c0] ∧
      (x.mapping = none ↔ pr = 0#8) ∧ ∀ m, x.mapping = some m → m.addr = ad ∧ m.slot.val = sl.toNat := by
  obtain ⟨unmapped, presence, mapped⟩ := parseGroup_bytes h
  obtain ⟨code, -, minGreen, raEq, clearing, times, unused⟩ := parseGroup_iff.mp h
  rw [minGreen, raEq, clearing] at times
  rw [unmapped] at unused
  exact ⟨⟨presence, (groupTimesOk_iff code _).mp ⟨times, unused⟩⟩, code, minGreen, raEq, clearing, unmapped, mapped⟩

theorem typeOf_ne_none {t : Byte} (h : t = 0#8 ∨ t = 1#8 ∨ t = 2#8 ∨ t = 3#8) : ∃ type, typeOf t = some type := by
  rcases h with rfl | rfl | rfl | rfl
  exacts [⟨.unused, rfl⟩, ⟨.vehicle, rfl⟩, ⟨.pedestrian, rfl⟩, ⟨.tram, rfl⟩]

theorem exists_parseGroup {own t m1 m0 ra c1 c0 pr ad sl : Byte} (h : groupFits own t m1 m0 ra c1 c0 pr ad sl)
    (hz : pr = 1#8 ∨ ad = 0#8 ∧ sl = 0#8) : parseGroup own [t, m1, m0, ra, c1, c0, pr, ad, sl] ≠ none := by
  obtain ⟨presence, times⟩ := h
  obtain ⟨mapping, hm⟩ := exists_optOf (bs := [ad, sl]) (presence.imp_right (And.imp_right mapping_ne_none.mpr))
    (hz.imp_right fun ⟨ha, hs⟩ => by simp [ha, hs])
  obtain ⟨type, ht⟩ := typeOf_ne_none (times.imp And.left (Or.imp And.left (Or.imp And.left And.left)))
  obtain ⟨ok, unused⟩ := (groupTimesOk_iff (typeOf_eq_some.mp ht) (pr = 0#8)).mpr times
  refine Option.ne_none_iff_exists'.mpr ⟨⟨type, _, _, _, mapping⟩, parseGroup_iff.mpr ⟨typeOf_eq_some.mp ht, hm, rfl, rfl, rfl, ok,
    fun hu => ?_⟩⟩
  rcases optOf_eq_some.mp hm with ⟨-, -, hnone⟩ | ⟨h1, -⟩
  · exact hnone
  · exact absurd (h1.symm.trans (unused hu)) (by decide)

/-- The ranges of a route entry's bytes (R132). -/
def routeFits (co ci dp dv ck g sp sv t1 t0 w bl l1 l0 e1 e0 x1 x0 u1 u0 : Byte) : Prop :=
  co ≠ 0#8 ∧ ci ≠ 0#8 ∧ ck ≠ 0#8 ∧ (dp = 0#8 ∨ dp = 1#8 ∧ dv ≠ 0#8) ∧ (1 ≤ g.toNat ∧ g.toNat ≤ 24) ∧
    (sp = 0#8 ∨ sp = 1#8 ∧ 1 ≤ sv.toNat ∧ sv.toNat ≤ 16) ∧ (10 ≤ num [t1, t0] ∧ num [t1, t0] ≤ 1200) ∧ w.toNat ≤ 100 ∧
    bl.toNat ≤ 3 ∧ (10 ≤ num [l1, l0] ∧ num [l1, l0] ≤ 600) ∧ num [e1, e0] ≤ 600 ∧ num [x1, x0] ≤ 300 ∧ num [u1, u0] ≤ 300

theorem parseRoute_fits {co ci dp dv ck g sp sv t1 t0 w bl l1 l0 e1 e0 x1 x0 u1 u0 : Byte} {x : RouteEntry}
    (h : parseRoute [co, ci, dp, dv, ck, g, sp, sv, t1, t0, w, bl, l1, l0, e1, e0, x1, x0, u1, u0] = some x) :
    routeFits co ci dp dv ck g sp sv t1 t0 w bl l1 l0 e1 e0 x1 x0 u1 u0 ∧ x.code = co ∧ x.checkIn = ci ∧ x.checkOut = ck ∧
      x.door = (if dp = 1#8 then some dv else none) ∧ x.group.val + 1 = g.toNat ∧
      x.priorityStage.map (fun s => s.val + 1) = (if sp = 1#8 then some sv.toNat else none) ∧ x.travel = num [t1, t0] ∧
      x.spread = w.toNat ∧ x.baseLevel = bl.toNat ∧ x.late = num [l1, l0] ∧ x.early = num [e1, e0] ∧ x.maxExt = num [x1, x0] ∧
      x.guardTime = num [u1, u0] := by
  obtain ⟨⟨hco, hci, hck, ht, hw, hb, hl, he, hx, hu⟩, door, group, stage, code, checkIn, checkOut, travel, spread, base, late, early,
    maxExt, guardT⟩ := parseRoute_iff.mp h
  obtain ⟨doorFits, doorEq⟩ := optOf_value door fun _ => nonzero_value
  have groupLt := x.group.isLt
  exact ⟨⟨hco, hci, hck, doorFits.imp_right (And.imp_right nonzero_ne_none.mp), by omega,
    (optOf_fits stage).imp_right (And.imp_right stageOf_ne_none.mp), ht, hw, hb, hl, he, hx, hu⟩, code, checkIn, checkOut, doorEq,
    group, optOf_stage stage, travel, spread, base, late, early, maxExt, guardT⟩

theorem exists_parseRoute {co ci dp dv ck g sp sv t1 t0 w bl l1 l0 e1 e0 x1 x0 u1 u0 : Byte}
    (h : routeFits co ci dp dv ck g sp sv t1 t0 w bl l1 l0 e1 e0 x1 x0 u1 u0) (hd : dp = 1#8 ∨ dv = 0#8) (hs : sp = 1#8 ∨ sv = 0#8) :
    parseRoute [co, ci, dp, dv, ck, g, sp, sv, t1, t0, w, bl, l1, l0, e1, e0, x1, x0, u1, u0] ≠ none := by
  obtain ⟨hco, hci, hck, door, group, stage, ht, hw, hb, hl, he, hx, hu⟩ := h
  obtain ⟨doorField, hdoor⟩ := exists_optOf (bs := [dv]) (door.imp_right (And.imp_right nonzero_ne_none.mpr)) (by simpa using hd)
  obtain ⟨stageField, hstage⟩ := exists_optOf (bs := [sv]) (stage.imp_right (And.imp_right stageOf_ne_none.mpr)) (by simpa using hs)
  obtain ⟨groupField, hgroup⟩ := Option.ne_none_iff_exists'.mp (groupOf_ne_none.mpr group)
  exact Option.ne_none_iff_exists'.mpr ⟨⟨_, _, doorField, _, groupField, stageField, _, _, _, _, _, _, _⟩,
    parseRoute_iff.mpr ⟨⟨hco, hci, hck, ht, hw, hb, hl, he, hx, hu⟩, hdoor, groupOf_eq_some.mp hgroup, hstage, rfl, rfl, rfl, rfl,
      rfl, rfl, rfl, rfl, rfl, rfl⟩⟩

/-- The ranges of the settings' bytes (R175, R191). -/
def settingsFits (own kw al k2 k1 k0 cp pa sa pb sb pn n1 n0 pf f1 f0 : Byte) : Prop :=
  (1 ≤ kw.toNat ∧ kw.toNat ≤ 60) ∧ al.toNat ≤ 10 ∧ num [k2, k1, k0] < 2 ^ 21 ∧ (cp = 0#8 ∨ cp = 1#8) ∧
    (pa = 0#8 ∨ pa = 1#8 ∧ (2 ≤ sa.toNat ∧ sa.toNat ≤ 126) ∧ sa ≠ own) ∧
    (pb = 0#8 ∨ pb = 1#8 ∧ (2 ≤ sb.toNat ∧ sb.toNat ≤ 126) ∧ sb ≠ own) ∧ ¬ (pa = 1#8 ∧ pb = 1#8 ∧ sa = sb) ∧
    (pn = 0#8 ∧ pf = 0#8 ∨ pn = 1#8 ∧ pf = 1#8 ∧ num [n1, n0] < num [f1, f0])

theorem parseSettings_fits {own kw al k2 k1 k0 cp pa sa pb sb pn n1 n0 pf f1 f0 : Byte} {x : Settings}
    (h : parseSettings own [kw, al, k2, k1, k0, cp, pa, sa, pb, sb, pn, n1, n0, pf, f1, f0] = some x) :
    settingsFits own kw al k2 k1 k0 cp pa sa pb sb pn n1 n0 pf f1 f0 ∧ x.keepaliveWindow = kw.toNat ∧ x.allowance = al.toNat ∧
      x.mask = BitVec.ofNat 21 (num [k2, k1, k0]) ∧ x.capture = (if cp = 0#8 then .allFaults else .flashFaults) ∧
      x.sensorA = (if pa = 1#8 then some sa else none) ∧ x.sensorB = (if pb = 1#8 then some sb else none) ∧
      x.dimOn = (if pn = 1#8 then some (num [n1, n0]) else none) ∧ x.dimOff = (if pf = 1#8 then some (num [f1, f0]) else none) := by
  obtain ⟨⟨hk, ha, hm, hc⟩, sensorA, sensorB, dimOn, dimOff, ok, window, allowance, mask, capture⟩ := parseSettings_iff.mp h
  obtain ⟨fitsA, eqA⟩ := optOf_value sensorA fun _ => addrOf_value
  obtain ⟨fitsB, eqB⟩ := optOf_value sensorB fun _ => addrOf_value
  obtain ⟨fitsOn, eqOn⟩ := optOf_value (v := num [n1, n0]) dimOn fun _ => Option.some.inj ∘ Eq.symm
  obtain ⟨fitsOff, eqOff⟩ := optOf_value (v := num [f1, f0]) dimOff fun _ => Option.some.inj ∘ Eq.symm
  obtain ⟨distinct, order⟩ := (settingsOk_bytes eqA eqB eqOn eqOff (fitsOn.imp_right And.left) (fitsOff.imp_right And.left)).mp ok
  exact ⟨⟨hk, ha, by omega, hc, fitsA.imp_right (And.imp_right addrOf_ne_none.mp), fitsB.imp_right (And.imp_right addrOf_ne_none.mp),
    distinct, order⟩, window, allowance, mask, capture, eqA, eqB, eqOn, eqOff⟩

theorem exists_parseSettings {own kw al k2 k1 k0 cp pa sa pb sb pn n1 n0 pf f1 f0 : Byte}
    (h : settingsFits own kw al k2 k1 k0 cp pa sa pb sb pn n1 n0 pf f1 f0) (ha : pa = 1#8 ∨ sa = 0#8) (hb : pb = 1#8 ∨ sb = 0#8)
    (hd : pn = 1#8 ∨ n1 = 0#8 ∧ n0 = 0#8 ∧ f1 = 0#8 ∧ f0 = 0#8) :
    parseSettings own [kw, al, k2, k1, k0, cp, pa, sa, pb, sb, pn, n1, n0, pf, f1, f0] ≠ none := by
  obtain ⟨hk, hal, hm, hc, fitsA, fitsB, distinct, order⟩ := h
  have pn01 : pn = 0#8 ∨ pn = 1#8 := order.imp And.left And.left
  have pf01 : pf = 0#8 ∨ pf = 1#8 := order.imp And.right fun h => h.2.1
  have same : pn = pf := by
    rcases order with ⟨hn, hf⟩ | ⟨hn, hf, -⟩ <;> rw [hn, hf]
  obtain ⟨a, sensorA⟩ := exists_optOf (bs := [sa]) (fitsA.imp_right (And.imp_right addrOf_ne_none.mpr)) (by simpa using ha)
  obtain ⟨b, sensorB⟩ := exists_optOf (bs := [sb]) (fitsB.imp_right (And.imp_right addrOf_ne_none.mpr)) (by simpa using hb)
  obtain ⟨lit, dimOn⟩ := exists_optOf (bs := [n1, n0]) (f := some (num [n1, n0])) (pn01.imp_right fun h => ⟨h, by simp⟩)
    (hd.imp_right fun ⟨h1, h0, _⟩ => by simp [h1, h0])
  obtain ⟨dark, dimOff⟩ := exists_optOf (bs := [f1, f0]) (f := some (num [f1, f0])) (pf01.imp_right fun h => ⟨h, by simp⟩)
    (same ▸ hd.imp_right fun ⟨_, _, h1, h0⟩ => by simp [h1, h0])
  have eqOn := (optOf_value (v := num [n1, n0]) dimOn fun _ => Option.some.inj ∘ Eq.symm).2
  have eqOff := (optOf_value (v := num [f1, f0]) dimOff fun _ => Option.some.inj ∘ Eq.symm).2
  refine Option.ne_none_iff_exists'.mpr ⟨⟨_, _, _, _, a, b, lit, dark⟩, parseSettings_iff.mpr ⟨⟨hk, hal, by omega, hc⟩, sensorA, sensorB,
    dimOn, dimOff, ?_, rfl, rfl, rfl, rfl⟩⟩
  exact (settingsOk_bytes (optOf_value sensorA fun _ => addrOf_value).2 (optOf_value sensorB fun _ => addrOf_value).2 eqOn eqOff
    pn01 pf01).mpr ⟨distinct, order⟩

/-- Settles O40: each table's bytes are read field by field, each field in its range, and written back as its bytes. -/
theorem storedEntriesReadBack : Obligations.StoredEntriesReadBack := by
  refine ⟨fun own bs => ⟨fun _ => enc_parseStage, fun _ => enc_parseLoop, fun _ => enc_parseAssign, fun _ => enc_parseButton,
    fun _ => enc_parseIntergreen, fun _ => enc_parseFlag, fun _ => parseGroup_encGroup, fun _ => parsePlan_encPlan,
    fun _ => parseRoute_encRoute, fun _ => parseSettings_encSettings⟩, fun α w parse => markedEntry_cases w parse, ?_⟩
  intro n2 n3 within station yesNo optional
  refine ⟨fun b => ⟨rfl, fun n => parseIntergreen_iff⟩, fun g2 g1 g0 m1 m0 sk po x => parseStage_iff, ?_, ?_, ?_,
    fun l g f d x => parseAssign_iff, fun own a i g x => parseButton_iff, ?_, ?_⟩
  · intro own t m1 m0 ra c1 c0 pr ad sl bs fits
    refine ⟨fun h hz => exists_parseGroup ?_ hz, fun x hx => ?_⟩
    · simp only [groupFits, num_two]; exact h
    · have read := parseGroup_fits hx
      simp only [groupFits, num_two] at read
      exact read
  · intro bs hl b fits
    refine ⟨fun ⟨count, sequence, greens, gaps, start, flash, red, ext, lock⟩ => exists_parsePlan hl
      ⟨count, sequence, greens, gaps, start, flash, red, ext, lock⟩, fun x hx => ?_⟩
    obtain ⟨f, r⟩ := parsePlan_reads hl hx
    exact ⟨⟨f.count, f.sequence, f.maxGreen, f.gapTime, f.startStage, f.startFlash, f.allRed, f.extLimit, f.lockout⟩, r.length,
      r.sequence, r.maxGreen, r.gapTime, r.startStage, r.startFlash, r.allRed, r.extLimit, r.lockout⟩
  · intro own ca ch n1 n0 f1 f0 dn df k p1 p0 fm rc a2 a1 a0 z2 z1 z0 fw x
    rw [parseLoop_iff]
    simp only [num_two, num_three]
    exact Iff.rfl
  · intro co ci dp dv ck g sp sv t1 t0 w bl l1 l0 e1 e0 x1 x0 u1 u0 bs fits
    refine ⟨fun h hd hs => exists_parseRoute ?_ hd hs, fun x hx => ?_⟩
    · simp only [routeFits, num_two]; exact h
    · have read := parseRoute_fits hx
      simp only [routeFits, num_two] at read
      exact read
  · intro own kw al k2 k1 k0 cp pa sa pb sb pn n1 n0 pf f1 f0 bs fits
    refine ⟨fun h ha hb hd => exists_parseSettings ?_ ha hb hd, fun x hx => ?_⟩
    · simp only [settingsFits, num_two, num_three]; exact h
    · have read := parseSettings_fits hx
      simp only [settingsFits, num_two, num_three] at read
      exact read

end Sys2Proof.Machine

/-! SUPPORT. Proofs of the statements of the family 02_safety_tables_and_the_conflict_monitor: writes of the safety tables. -/

namespace Sys2Proof.Machine

/-! ### The fence (R22, R23, R189) -/

theorem tableOwner_fenced {ι α : Type} (index : Option ι) (entry : ι → Option (Option α))
    (check : Rt → ι → Option α → Option Inconsistency) (store : ι → Option α → Part → Part) {p : Part}
    (h : stagesRun p.rt.mode.mode = true) : tableOwner true index entry check store p = (p, ⟨.fenced, []⟩) := by
  simp [tableOwner, h]

/-- While stages run a delivered write of a safety table answers FENCED, whatever its operand asks for. -/
theorem writeFrame_fenced {ι α : Type} (s : State) (h : Header) (c len : Nat) (rest : List Byte)
    (index : WriteOperand → Option ι) (entry : WriteOperand → ι → Option (Option α))
    (check : Rt → ι → Option α → Option Inconsistency) (store : ι → Option α → Part → Part)
    (hm : stagesRun s.part.rt.mode.mode = true) (hd : Delivered s.part (h.frame kindTableWrite (b8 c :: rest)))
    (hl : rest.length = len + 3) :
    writeFrame h c len rest (fun w => tableOwner true (index w) (entry w) check store) s =
      .next (s.withRt (answer s.part.env (h.frame kindTableWrite (b8 c :: rest)) ⟨.fenced, []⟩ (s.part.arrived .head))) := by
  obtain ⟨i1, i2, m, bytes, rfl⟩ : ∃ i1 i2 m bytes, rest = i1 :: i2 :: m :: bytes := by
    match rest, hl with
    | i1 :: i2 :: m :: bytes, _ => exact ⟨i1, i2, m, bytes, rfl⟩
  have running : stagesRun (s.part.arrived .head).mode.mode = true := by simpa using hm
  rw [writeFrame_delivered s h c len i1 i2 m bytes _ hd (by simpa using hl), tableOwner_fenced _ _ _ _ running]

/-- A TABLE_WRITE of any table code is delivered when that of code 0 is. -/
theorem delivered_tableWrite {p : Part} {h : Header} {rest : List Byte} (c : Nat)
    (hd : Delivered p (h.frame kindTableWrite (0#8 :: rest))) : Delivered p (h.frame kindTableWrite (b8 c :: rest)) := by
  have bound : (0#8 :: rest).length ≤ 240 := by
    have ok := hd.1
    simp only [frameOk, Bool.and_eq_true, decide_eq_true_eq] at ok
    exact ok.2
  exact delivered_congr p _ _ rfl rfl bound hd

/-- Settles O34: each safety table's owner meets the fence before it looks at the index. -/
theorem safetyWritesAreFenced : Obligations.SafetyWritesAreFenced := by
  intro s h rest e r0 fenced hm hd
  have running : stagesRun s.part.rt.mode.mode = true := by rcases hm with hm | hm | hm <;> simp [hm, stagesRun]
  refine ⟨fun hl => ?_, fun hl => ⟨?_, ?_, ?_⟩, fun hl => ?_⟩ <;>
    exact writeFrame_fenced s h _ _ rest _ _ _ _ running (delivered_tableWrite _ hd) hl

/-! ### Writes in DARK and FLASH (R18 to R21, R188, R189) -/

section
variable {ι α : Type} {safety : Bool} {s : State} {h : Header} {c len : Nat} {i1 i2 m : Byte} {bytes : List Byte}
  {index : WriteOperand → Option ι} {entry : WriteOperand → ι → Option (Option α)}

/-- What a delivered TABLE_WRITE leaves, from what its owner does with it. -/
theorem writeFrame_of_owner {owner : WriteOperand → Owner} {q : Part} {x : Result}
    (hd : Delivered s.part (h.frame kindTableWrite (b8 c :: i1 :: i2 :: m :: bytes))) (hl : bytes.length = len)
    (ho : owner ⟨i1, i2, m, bytes⟩ s.part.received = (q, x)) :
    writeFrame h c len (i1 :: i2 :: m :: bytes) owner s = .next { s with
      part := { q with rt := answer q.env (h.frame kindTableWrite (b8 c :: i1 :: i2 :: m :: bytes)) x q.rt } } := by
  have taken : owner ⟨i1, i2, m, bytes⟩ { s.part with rt := s.part.arrived .head } = (q, x) := ho
  rw [writeFrame_delivered s h c len i1 i2 m bytes owner hd hl, taken]

/-- An index out of range is refused, whatever the entry. -/
theorem writeFrame_badIndex (check : Rt → ι → Option α → Option Inconsistency) (store : ι → Option α → Part → Part)
    (hm : s.part.rt.mode.mode = .dark ∨ s.part.rt.mode.mode = .flash)
    (hd : Delivered s.part (h.frame kindTableWrite (b8 c :: i1 :: i2 :: m :: bytes))) (hl : bytes.length = len)
    (hi : index ⟨i1, i2, m, bytes⟩ = none) :
    writeFrame h c len (i1 :: i2 :: m :: bytes) (fun w => tableOwner safety (index w) (entry w) check store) s =
      .next (s.withRt (answer s.part.env (h.frame kindTableWrite (b8 c :: i1 :: i2 :: m :: bytes)) ⟨.badIndex, []⟩
        (s.part.arrived .head))) := by
  exact writeFrame_of_owner (q := s.part.received) hd hl (by simp only [hi, tableOwner_badIndex (unfenced_of_dark_or_flash hm)])

/-- A marker or entry that is not the table's is refused. -/
theorem writeFrame_badEntry {i : ι} (check : Rt → ι → Option α → Option Inconsistency) (store : ι → Option α → Part → Part)
    (hm : s.part.rt.mode.mode = .dark ∨ s.part.rt.mode.mode = .flash)
    (hd : Delivered s.part (h.frame kindTableWrite (b8 c :: i1 :: i2 :: m :: bytes))) (hl : bytes.length = len)
    (hi : index ⟨i1, i2, m, bytes⟩ = some i) (he : entry ⟨i1, i2, m, bytes⟩ i = none) :
    writeFrame h c len (i1 :: i2 :: m :: bytes) (fun w => tableOwner safety (index w) (entry w) check store) s =
      .next (s.withRt (answer s.part.env (h.frame kindTableWrite (b8 c :: i1 :: i2 :: m :: bytes)) ⟨.badEntry, []⟩
        (s.part.arrived .head))) := by
  exact writeFrame_of_owner (q := s.part.received) hd hl
    (by simp only [hi, tableOwner_badEntry (unfenced_of_dark_or_flash hm) he])

/-- An accepted write that the tables alone take changes the tables and answers OK. -/
theorem writeFrame_storeOnly {i : ι} {x : Option α} (f : ι → Option α → Tables → Tables)
    (hm : s.part.rt.mode.mode = .dark ∨ s.part.rt.mode.mode = .flash)
    (hd : Delivered s.part (h.frame kindTableWrite (b8 c :: i1 :: i2 :: m :: bytes))) (hl : bytes.length = len)
    (hi : index ⟨i1, i2, m, bytes⟩ = some i) (he : entry ⟨i1, i2, m, bytes⟩ i = some x) :
    writeFrame h c len (i1 :: i2 :: m :: bytes)
        (fun w => tableOwner safety (index w) (entry w) noCheck fun i x => storeOnly (f i x)) s =
      .next { s with
        part :=
          { env := { s.part.env with tab := f i x s.part.env.tab }
            rt := answer { s.part.env with tab := f i x s.part.env.tab }
              (h.frame kindTableWrite (b8 c :: i1 :: i2 :: m :: bytes)) .accepted (s.part.arrived .head) } } := by
  exact writeFrame_of_owner (q := storeOnly (f i x) s.part.received) hd hl
    (by simp only [hi]; exact tableOwner_stores (unfenced_of_dark_or_flash hm) he rfl)

end

/-- What stands in a table of two dimensions after one of its entries is stored. -/
theorem upd_upd_get {α : Type} {n k : Nat} (v : Vector (Vector α k) n) (a i : Fin n) (b j : Fin k) (x : α) :
    ((upd v a fun row => upd row b fun _ => x).get i).get j = if i = a ∧ j = b then x else (v.get i).get j := by
  rw [upd_get]
  by_cases hi : a = i
  · subst hi
    simp [upd_get, eq_comm]
  · simp [hi, Ne.symm hi]

theorem index2Of_eq_none {α : Type} {x y : Option α} (h : x = none ∨ y = none) : index2Of x y = none := by
  rcases h with rfl | rfl
  · rfl
  · cases x <;> rfl

theorem index2Of_ne_none {α : Type} {x y : Option α} (hx : x ≠ none) (hy : y ≠ none) : ∃ i, index2Of x y = some i := by
  obtain ⟨a, rfl⟩ := Option.ne_none_iff_exists'.mp hx
  obtain ⟨b, rfl⟩ := Option.ne_none_iff_exists'.mp hy
  exact ⟨(a, b), rfl⟩

/-- Settles O35: the refusals and stores are those of a table's owner, with the table's index, entry and store. -/
theorem safetyWritesStore : Obligations.SafetyWritesStore := by
  refine ⟨fun s h i1 i2 m entry => ?_, fun s h i1 i2 m entry => ?_⟩
  · intro e w rest refused hm hd
    refine ⟨fun hl => ⟨fun hi => ⟨?_, ?_⟩, fun hi => ?_, fun h1 h2 => ⟨fun he => ?_, fun he => ?_⟩, fun h1 h2 he => ?_⟩,
      fun hl => ⟨fun hi => ?_, fun h1 h2 he => ?_⟩⟩
    · exact writeFrame_badIndex _ _ hm (delivered_tableWrite 1 hd) hl (index2Of_eq_none hi)
    · exact writeFrame_badIndex _ _ hm (delivered_tableWrite 2 hd) hl (index2Of_eq_none hi)
    · exact writeFrame_badIndex _ _ hm (delivered_tableWrite 4 hd) hl (index2Of_eq_none hi)
    · obtain ⟨i, hi⟩ := index2Of_ne_none h1 h2
      exact writeFrame_badEntry _ _ hm (delivered_tableWrite 1 hd) hl hi he
    · obtain ⟨i, hi⟩ := index2Of_ne_none h1 h2
      exact writeFrame_badEntry _ _ hm (delivered_tableWrite 2 hd) hl hi he
    · obtain ⟨i, hi⟩ := index2Of_ne_none h1 h2
      exact writeFrame_badEntry _ _ hm (delivered_tableWrite 4 hd) hl hi he
    · exact writeFrame_badIndex _ _ hm (delivered_tableWrite 3 hd) hl (by rcases hi with hi | hi <;> simp [index1Of, hi])
    · obtain ⟨i, hi⟩ := Option.ne_none_iff_exists'.mp h1
      exact writeFrame_badEntry (i := i) _ _ hm (delivered_tableWrite 3 hd) hl (by simp [index1Of, hi, h2]) he
  · intro e r0 w hm hd
    refine ⟨fun a b x ha hb he hl => ?_, fun a b x ha hb he hl => ?_, fun a x ha h2 he hl => ?_, fun a b x ha hb he hl => ?_⟩
    · exact ⟨_, writeFrame_storeOnly (i := (a, b)) _ hm (delivered_tableWrite 1 hd) hl (by simp [index2Of, ha, hb]) he,
        fun i j => upd_upd_get _ _ _ _ _ _⟩
    · exact ⟨_, writeFrame_storeOnly (i := (a, b)) _ hm (delivered_tableWrite 2 hd) hl (by simp [index2Of, ha, hb]) he,
        fun i j => upd_upd_get _ _ _ _ _ _⟩
    · exact ⟨_, writeFrame_storeOnly (i := a) _ hm (delivered_tableWrite 3 hd) hl (by simp [index1Of, ha, h2]) he,
        fun i => by simp only [upd_get, eq_comm]; rfl⟩
    · exact ⟨_, writeFrame_storeOnly (i := (a, b)) _ hm (delivered_tableWrite 4 hd) hl (by simp [index2Of, ha, hb]) he,
        fun i j => upd_upd_get _ _ _ _ _ _⟩

end Sys2Proof.Machine

/-! SUPPORT. Proofs of the statements of the family 02_safety_tables_and_the_conflict_monitor: frames that no block takes. -/

namespace Sys2Proof.Machine

/-- Bytes that fail the checks set the CRC flag, and only that (R180). -/
theorem exec_crcErrorFrame_bad (s : State) (p : Port) {bytes : List Byte} (h : gather bytes = .bad) :
    exec (.crcErrorFrame p bytes) s = .next (s.withRt (setCrcFlag s.part.rt)) := by
  show State.onPart s _ = _
  rw [State.onPart, if_pos h]
  rfl

/-- An ASPECT_SET from outside posts its event after its arrival, and goes no further (R37). -/
theorem dropForeign_valid (p : Port) {f : Frame} (part : Part) (h : frameOk f = true) :
    dropForeign p f part =
      { part with rt := post part.env .foreignAspect f.src (enc1 (portCode p)) (part.arrived p) } := by
  rw [dropForeign, if_pos h]
  rfl

/-- A valid frame at the head port that no block takes goes on to the field side (R181). -/
theorem forwardOnly_head {f : Frame} (part : Part) (h : frameOk f = true) :
    forwardOnly .head f part = { part with rt := forwardTo part.env .field f (part.arrived .head) } := by
  rw [forwardOnly, if_pos h]
  rfl

/-- A valid frame at the field port that no block takes goes on to the head side, unless it is of no field kind and
addressed to the part (R181). -/
theorem forwardOnly_field {f : Frame} (part : Part) (h : frameOk f = true) :
    forwardOnly .field f part = { part with
      rt := if fieldKindLength f.kind = none ∧ f.dst = part.env.own then part.arrived .field
        else forwardTo part.env .head f (part.arrived .field) } := by
  rw [forwardOnly, if_pos h]
  simp only [Part.onRt, Option.isNone_iff_eq_none]
  split <;> rfl

/-- A frame that is a FORWARD_FRAME of its port is disposed of as one that no block takes. -/
theorem exec_forwardFrame_own (s : State) (p : Port) (h : Header) (k : Byte) (pl : List Byte)
    (hc : frameCommand s.part.env.own p (h.frame k pl) = .forwardFrame p h k pl) :
    exec (.forwardFrame p h k pl) s = .next { s with part := forwardOnly p (h.frame k pl) s.part } := by
  show State.onPart s _ = _
  rw [State.onPart, if_pos hc]

/-- Settles O13: the disposition of each kind of frame, by its own lemma. -/
theorem framesNoBlockTakes : Obligations.FramesNoBlockTakes := by
  refine ⟨fun s p bytes => exec_crcErrorFrame_bad s p, fun s p h pl hf => ?_, fun s h k pl hf hc => ?_, fun s h k pl hf hc => ?_⟩
  · show State.onPart s _ = _
    rw [State.onPart, dropForeign_valid p s.part hf]
    rfl
  · rw [exec_forwardFrame_own s .head h k pl hc, forwardOnly_head s.part hf]
  · rw [exec_forwardFrame_own s .field h k pl hc, forwardOnly_field s.part hf]
    rfl

end Sys2Proof.Machine

/-! SUPPORT. Proofs of the statements of the family 02_safety_tables_and_the_conflict_monitor: the bounds of the queues, classes,
wait lists and counts, block by block, and the operations of the Ring Interface, the Report and Priority Units that keep them. -/

namespace Sys2Proof.Machine

/-! ### The bounds, block by block -/

/-- The Ring Interface's queues and classes keep their capacities, and at most `n` reply slots are taken (R182, R184, R185). -/
structure RingUnit.within (n : Nat) (q : RingUnit) : Prop where
  replies : q.replies.length ≤ n
  head : q.head.queue.length ≤ Config.headQueueCap
  field : q.field.queue.length ≤ Config.fieldQueueCap
  aspects : q.aspects.length ≤ Config.aspectCap
  aux : q.aux.length ≤ Config.auxCap

/-- The Priority Unit's queue holds exactly the queueable records while the enable is on, each once, and its counts saturate
(R146, R159). -/
structure PriorityUnit.within (trams : Vector (Option TramRec) 8) (x : PriorityUnit) : Prop where
  nodup : x.queue.Nodup
  mem_iff : ∀ k : TramSlot, k ∈ x.queue ↔ x.enable = true ∧ (trams.get k).any queueable = true
  served : ∀ i : Fin 3, x.served.get i ≤ Config.countMax

/-- The counts of a loop record keep below the number that ends each (R93, R96, R97, R99, R101, R105, R109, R110). -/
structure LoopRec.within (y : LoopRec) : Prop where
  onCount : y.onCount ≤ 15
  offCount : y.offCount ≤ 15
  invalidRun : y.invalidRun ≤ 2
  settlingCount : y.settlingCount ≤ 31
  recoveryRun : y.recoveryRun ≤ 254
  discarded : ∀ w ∈ y.sweep, w.step.discarded ≤ 3
  vehicles : y.vehicles ≤ Config.countMax

/-- A card's wait list holds loops of that card, each once (R102). -/
structure CardRec.within (t : Tables) (c : CardRec) : Prop where
  nodup : c.wait.Nodup
  own : ∀ l ∈ c.wait, (t.loops.get l).map LoopEntry.card = some c.addr

/-- The Loop Unit's lists and counts are within their bounds, under a loop table with the relations of R89. -/
structure LoopUnit.within (t : Tables) (u : LoopUnit) : Prop where
  fit : t.LoopsFit
  cards : ∀ c ∈ u.cards, c.within t
  recs : ∀ l : Loop, (u.recs.get l).within

/-- Assignment `a` gives demand to group `g` (R118). -/
def givesTo (t : Tables) (d : DemandUnit) (g : Group) (a : Assign) : Bool :=
  (d.assigns.get a).giving && (t.assigns.get a).any fun x => x.group == g

/-- Every non-locking count is the number of the group's assignments that give; only a loaded DEMAND_NONLOCKING assignment
gives, and an empty entry has an empty record (R118). -/
structure DemandUnit.within (t : Tables) (d : DemandUnit) : Prop where
  giving : ∀ a : Assign, (d.assigns.get a).giving = true →
    (t.assigns.get a).any (fun x => x.function == .demandNonlocking) = true
  empty : ∀ a : Assign, t.assigns.get a = none → d.assigns.get a = {}
  count : ∀ g : Group, (d.groups.get g).nonLocking = (allAssigns.filter (givesTo t d g)).length

/-- The blocks keep the bounds of `Part.Bounded`, with `n` for the reply slots; fault notices may wait. -/
structure Rt.within (e : Env) (n : Nat) (r : Rt) : Prop where
  ring : r.ring.within n
  events : r.report.queue.length ≤ Config.eventCap
  priority : r.priority.within r.trams
  loops : r.loops.within e.tab
  demand : r.demand.within e.tab

/-- Loops of one card are on different channels (R89), so a list of them, each once, is no longer than the four channels. -/
theorem CardRec.within.length_le {t : Tables} {c : CardRec} (h : c.within t) (fit : t.LoopsFit) : c.wait.length ≤ 4 := by
  let channel : Loop → Option Slot := fun l => (t.loops.get l).map LoopEntry.channel
  have loaded : ∀ l ∈ c.wait, ∃ x, t.loops.get l = some x ∧ x.card = c.addr := fun l hl => by
    simpa [Option.map_eq_some_iff] using h.own l hl
  have distinct : (c.wait.map channel).Nodup := by
    refine (List.nodup_map_iff_inj_on h.nodup).mpr fun l hl k hk hlk => ?_
    obtain ⟨x, hx, hxc⟩ := loaded l hl
    obtain ⟨y, hy, hyc⟩ := loaded k hk
    exact fit.2 l k x hx y hy (hxc.trans hyc.symm) (by simpa [channel, hx, hy] using hlk)
  have channels : c.wait.map channel ⊆ allSlots.map some := fun o ho => by
    obtain ⟨l, hl, rfl⟩ := List.mem_map.mp ho
    obtain ⟨x, hx, -⟩ := loaded l hl
    simp [channel, hx, allSlots]
  simpa [allSlots] using (distinct.subperm channels).length_le

/-- What `Part.Bounded` says, block by block: the lengths that it names follow from what the lists hold. -/
theorem bounded_iff (p : Part) : p.Bounded ↔ p.rt.within p.env Config.replySlots ∧ p.rt.notices = [] := by
  constructor
  · rintro ⟨⟨replies, head, field, aspects, aux, events, vehicles, served, notices⟩, ⟨nodup, -, mem⟩, ⟨fit, cards, recs⟩,
      giving, empty, count⟩
    refine ⟨⟨⟨replies, head, field, aspects, aux⟩, events, ⟨nodup, mem, served⟩, ⟨fit, fun c hc => ?_, fun l => ?_⟩,
      ⟨giving, empty, fun g => (count g).2⟩⟩, notices⟩
    · obtain ⟨once, -, own⟩ := cards c hc
      exact ⟨once, own⟩
    · obtain ⟨on, off, invalid, settling, recovery, discarded⟩ := recs l
      exact ⟨on, off, invalid, settling, recovery, discarded, vehicles l⟩
  · rintro ⟨⟨ring, events, priority, loops, demand⟩, notices⟩
    refine ⟨⟨ring.replies, ring.head, ring.field, ring.aspects, ring.aux, events, fun l => (loops.recs l).vehicles, priority.served,
      notices⟩, ⟨priority.nodup, ?_, priority.mem_iff⟩, ⟨loops.fit, fun c hc => ?_, fun l => ?_⟩, demand.giving, demand.empty,
      fun g => ⟨?_, demand.count g⟩⟩
    · simpa using priority.nodup.length_le_card
    · exact ⟨(loops.cards c hc).nodup, (loops.cards c hc).length_le loops.fit, (loops.cards c hc).own⟩
    · obtain ⟨on, off, invalid, settling, recovery, discarded, -⟩ := loops.recs l
      exact ⟨on, off, invalid, settling, recovery, discarded⟩
    · rw [demand.count g]
      simpa [allAssigns] using List.length_filter_le (givesTo p.env.tab p.rt.demand g) allAssigns


section
variable {e : Env} {n : Nat} {r r' : Rt}

/-- The bounds read the queues and counts alone. -/
theorem within_congr (h : r.within e n) (hring : r'.ring = r.ring) (hevents : r'.report.queue = r.report.queue) (htrams : r'.trams = r.trams)
    (hqueue : r'.priority.queue = r.priority.queue) (henable : r'.priority.enable = r.priority.enable)
    (hserved : r'.priority.served = r.priority.served) (hloops : r'.loops = r.loops) (hdemand : r'.demand = r.demand) :
    r'.within e n where
  ring := hring ▸ h.ring
  events := hevents ▸ h.events
  priority := ⟨hqueue ▸ h.priority.nodup, by rw [hqueue, henable, htrams]; exact h.priority.mem_iff,
    hserved ▸ h.priority.served⟩
  loops := hloops ▸ h.loops
  demand := hdemand ▸ h.demand

theorem within_mono {m : Nat} (hmn : m ≤ n) (h : r.within e m) : r.within e n :=
  { h with ring := { h.ring with replies := h.ring.replies.trans hmn } }

theorem withMode_within {f : ModeUnit → ModeUnit} (h : r.within e n) : (r.withMode f).within e n :=
  within_congr h rfl rfl rfl rfl rfl rfl rfl rfl

theorem withGroups_within {f : Vector GroupRec 24 → Vector GroupRec 24} (h : r.within e n) : (r.withGroups f).within e n :=
  within_congr h rfl rfl rfl rfl rfl rfl rfl rfl

theorem withMonitor_within {f : Vector MonitorRec 24 → Vector MonitorRec 24} (h : r.within e n) :
    (r.withMonitor f).within e n := within_congr h rfl rfl rfl rfl rfl rfl rfl rfl

theorem withLamp_within {f : LampUnit → LampUnit} (h : r.within e n) : (r.withLamp f).within e n :=
  within_congr h rfl rfl rfl rfl rfl rfl rfl rfl

theorem withStage_within {f : StageUnit → StageUnit} (h : r.within e n) : (r.withStage f).within e n :=
  within_congr h rfl rfl rfl rfl rfl rfl rfl rfl

theorem withNotices_within {f : List FaultNotice → List FaultNotice} (h : r.within e n) : (r.withNotices f).within e n :=
  within_congr h rfl rfl rfl rfl rfl rfl rfl rfl

theorem withRing_within {f : RingUnit → RingUnit} {m : Nat} (h : r.within e m) (hf : (f r.ring).within n) :
    (r.withRing f).within e n := { h with ring := hf }

theorem withReport_within {f : ReportUnit → ReportUnit} (h : r.within e n) (hf : (f r.report).queue.length ≤ Config.eventCap) :
    (r.withReport f).within e n := { h with events := hf }

theorem withPriority_within {f : PriorityUnit → PriorityUnit} (h : r.within e n) (hf : (f r.priority).within r.trams) :
    (r.withPriority f).within e n := { h with priority := hf }

theorem withLoops_within {f : LoopUnit → LoopUnit} (h : r.within e n) (hf : (f r.loops).within e.tab) :
    (r.withLoops f).within e n := { h with loops := hf }

theorem withDemand_within {f : DemandUnit → DemandUnit} (h : r.within e n) (hf : (f r.demand).within e.tab) :
    (r.withDemand f).within e n := { h with demand := hf }

/-- A fold whose every step, at an element of its list, keeps the bounds keeps them. -/
theorem foldl_within {α : Type} {f : Rt → α → Rt} {l : List α} (hf : ∀ r, ∀ a ∈ l, r.within e n → (f r a).within e n)
    (h : r.within e n) : (l.foldl f r).within e n := by
  induction l generalizing r with
  | nil => exact h
  | cons a l ih => exact ih (fun r b hb => hf r b (.tail a hb)) (hf r a (.head l) h)

/-! ### Events (R193, R197) -/

theorem post_within {kind : EventKind} {subject : Byte} {detail : List Byte} (h : r.within e n) :
    (post e kind subject detail r).within e n := by
  refine withReport_within h ?_
  have queue := post_queue e kind subject detail r
  simp only [post, Rt.withReport_fields] at queue
  rw [queue]
  split
  · next room => simp [Config.eventCap]; omega
  · exact h.events

theorem fillRecord_within {kind : RecordKind} {g1 g2 : Option Group} {l : Option Loop} {a : Option Byte} (h : r.within e n) :
    (fillRecord e kind g1 g2 l a r).within e n :=
  within_congr h (by simp) (by simp) (by simp) (by simp) (by simp) (by simp) (by simp) (by simp)

theorem postLoopFault_within {l : Loop} {c : LoopCause} (h : r.within e n) : (postLoopFault e l c r).within e n :=
  fillRecord_within (post_within h)

theorem postLampFail_within {addr : Byte} {s : Slot} {o : Fin 3} {g : Group} (h : r.within e n) :
    (postLampFail e addr s o g r).within e n := fillRecord_within (post_within h)

theorem postModuleSilent_within {addr : Byte} (h : r.within e n) : (postModuleSilent e addr r).within e n :=
  fillRecord_within (post_within h)

theorem postFault_within {x : FaultNotice} (h : r.within e n) : (postFault e x r).within e n := by
  simp only [postFault]
  exact fillRecord_within (post_within h)

theorem handNotice_within {x : FaultNotice} (h : r.within e n) : (handNotice x r).within e n := withNotices_within h

/-! ### Queues and classes of the ring (R182 to R185, R192) -/

theorem port_within {m : Nat} {q : RingUnit} (h : q.within m) (p : Port) : (q.port p).queue.length ≤ forwardCap p := by
  cases p
  exacts [h.head, h.field]

theorem setPort_within {m : Nat} {q : RingUnit} {p : Port} {x : PortRec} (h : q.within m)
    (hx : x.queue.length ≤ forwardCap p) : (q.setPort p x).within m := by
  cases p
  · exact { h with head := hx }
  · exact { h with field := hx }

theorem forwardTo_within {p : Port} {f : Frame} (h : r.within e n) : (forwardTo e p f r).within e n := by
  simp only [forwardTo]
  split
  · next room => exact withRing_within h (setPort_within h.ring (by simpa using room))
  · have kept : (r.withRing fun q => q.setPort p { r.ring.port p with overflow := true }).within e n :=
      withRing_within h (setPort_within h.ring (port_within h.ring p))
    split
    · exact kept
    · exact post_within kept

theorem classTake_length {cap : Nat} {q : List Frame} {f : Frame} (hc : 0 < cap) (h : q.length ≤ cap) :
    (classTake cap q f).length ≤ cap := by
  unfold classTake
  split <;> simp <;> omega

theorem postClassOverflow_within {cls cap : Nat} {q : List Frame} (h : r.within e n) :
    (postClassOverflow e cls cap q r).within e n := by
  unfold postClassOverflow
  split
  · exact h
  · split
    · exact post_within h
    · exact h

theorem pushAspect_within {f : Frame} (h : r.within e n) : (pushAspect e f r).within e n := by
  have posted := postClassOverflow_within (cls := 2) (cap := Config.aspectCap) (q := r.ring.aspects) h
  exact withRing_within posted { posted.ring with aspects := classTake_length (by decide) posted.ring.aspects }

theorem pushAux_within {f : Frame} (h : r.within e n) : (pushAux e f r).within e n := by
  have posted := postClassOverflow_within (cls := 3) (cap := Config.auxCap) (q := r.ring.aux) h
  exact withRing_within posted { posted.ring with aux := classTake_length (by decide) posted.ring.aux }

theorem setCrcFlag_within (h : r.within e n) : (setCrcFlag r).within e n :=
  withRing_within h { h.ring with }

theorem linkUp_within {p : Port} (h : r.within e n) : (linkUp e p r).within e n := by
  have kept : (r.withRing fun q => q.setPort p { r.ring.port p with
      up := true, linkDue := some (after e.now Config.second) }).within e n :=
    withRing_within h (setPort_within h.ring (port_within h.ring p))
  simp only [linkUp]
  split
  · exact kept
  · exact post_within kept

theorem linkDown_within {p : Port} (h : r.within e n) : (linkDown e p r).within e n := by
  simp only [linkDown]
  split
  · exact post_within (withRing_within h (setPort_within h.ring (port_within h.ring p)))
  · exact h

theorem ageDiscard_within {p : Port} (h : r.within e n) : (ageDiscard e p r).within e n := by
  simp only [ageDiscard]
  split
  · exact withRing_within h (setPort_within h.ring ((List.length_filter_le _ _).trans (port_within h.ring p)))
  · exact h

theorem sendForward_within {p : Port} (h : r.within e n) : (sendForward p r).within e n := by
  have bound := port_within h.ring p
  simp only [sendForward]
  split
  · exact h
  · next queue =>
    rw [queue] at bound
    exact withRing_within h (setPort_within h.ring (Nat.le_of_succ_le bound))

theorem sendReport_within (h : r.within e n) : (sendReport e r).within e n := by
  have taken : (r.report.queue.drop Config.reportCap).length ≤ Config.eventCap := by
    have := h.events
    simp
    omega
  have report : (r.withReport fun q => { q with queue := q.queue.drop Config.reportCap, lost := false }).within e n :=
    withReport_within h taken
  exact { report with ring := ⟨h.ring.replies, h.ring.head, h.ring.field, h.ring.aspects, h.ring.aux⟩ }

theorem headGrant_within (h : r.within e n) : (headGrant e r).within e n := by
  unfold headGrant
  split
  · split
    · next replies =>
      have bound := h.ring.replies
      rw [replies] at bound
      exact withRing_within h { h.ring with replies := Nat.le_of_succ_le bound }
    · split
      · exact sendReport_within h
      · exact sendForward_within h
  · exact h

theorem fieldGrant_within (h : r.within e n) : (fieldGrant r).within e n := by
  unfold fieldGrant
  split
  · split
    · next aspects =>
      have bound := h.ring.aspects
      rw [aspects] at bound
      exact withRing_within h { h.ring with aspects := Nat.le_of_succ_le bound }
    · next aux =>
      have bound := h.ring.aux
      rw [aux] at bound
      exact withRing_within h { h.ring with aux := Nat.le_of_succ_le bound }
    · exact sendForward_within h
  · exact h

/-- An answer takes one reply slot (R185). -/
theorem answer_within {f : Frame} {x : Result} (h : r.within e n) : (answer e f x r).within e (n + 1) := by
  unfold answer
  split
  · exact withRing_within h { h.ring with replies := by simpa using h.ring.replies }
  · split
    · exact within_mono n.le_succ h
    · exact within_mono n.le_succ (post_within h)

/-- A frame that asks for no answer takes none (R186). -/
theorem answer_within_of_not_asks {f : Frame} {x : Result} (ha : asks e f = false) (h : r.within e n) :
    (answer e f x r).within e n := by
  rw [answer, ha]
  simp only [Bool.false_eq_true, if_false]
  split
  · exact h
  · exact post_within h

theorem restartRing_within (h : r.within e n) : (restartRing r).within e 0 :=
  withRing_within h ⟨Nat.le_refl 0, Nat.zero_le _, Nat.zero_le _, Nat.zero_le _, Nat.zero_le _⟩

end

end Sys2Proof.Machine

/-! SUPPORT. Proofs of the statements of the family 02_safety_tables_and_the_conflict_monitor: the operations of the Lamp
Interface, the Priority Unit and the Tram Unit keep the bounds. -/

namespace Sys2Proof.Machine

section
variable {e : Env} {n : Nat} {r : Rt}

/-! ### Frames to the modules (R165 to R168) -/

theorem handFrame_within {f : AspectFrame} (h : r.within e n) : (handFrame e f r).within e n := by
  have passed : (monitorPass e f r).within e n :=
    within_congr h (by simp) (by simp) (by simp) (by simp) (by simp) (by simp) (by simp) (by simp)
  unfold handFrame
  split
  · exact handNotice_within h
  · exact withLamp_within (pushAspect_within passed)

theorem frameModule_within {a : Byte} (h : r.within e n) : (frameModule e a r).within e n := handFrame_within h

theorem foldl_frameModule_within {l : List Byte} (h : r.within e n) :
    (l.foldl (fun r a => frameModule e a r) r).within e n := foldl_within (fun _ _ _ => frameModule_within) h

theorem groupFrame_within {g : Group} (h : r.within e n) : (groupFrame e g r).within e n := by
  unfold groupFrame
  split
  · exact frameModule_within h
  · exact h

theorem frameAll_within (h : r.within e n) : (frameAll e r).within e n := foldl_frameModule_within h

theorem refreshFrame_within {a : Byte} {m : ModuleRec} (h : r.within e n) : (refreshFrame e a m r).within e n := by
  unfold refreshFrame
  split
  · exact handFrame_within h
  · exact h

theorem refreshExpiry_within {a : Byte} (h : r.within e n) : (refreshExpiry e a r).within e n := by
  unfold refreshExpiry
  split
  · exact h
  · split
    · split
      · exact withLamp_within h
      · exact refreshFrame_within (withLamp_within h)
    · exact h

theorem lampLeaveDark_within (h : r.within e n) : (lampLeaveDark e r).within e n := frameAll_within (withLamp_within h)

theorem lampStartup_within (h : r.within e n) : (lampStartup e r).within e n :=
  foldl_within (fun r m _ hr => by
    split
    · exact handNotice_within hr
    · exact hr) h

/-! ### Silence, status, confirmation, dimming (R169 to R176) -/

theorem silenceExpiry_within {a : Byte} (h : r.within e n) : (silenceExpiry e a r).within e n := by
  unfold silenceExpiry
  split
  · exact h
  · split
    · split
      · exact withLamp_within h
      · exact postModuleSilent_within (withLamp_within h)
      all_goals exact handNotice_within (withLamp_within h)
    · exact h

theorem goLampReport_within {a : Byte} {s : Slot} {g : Group} {x : GroupState} {c : Byte} (h : r.within e n) :
    (goLampReport e a s g x c r).within e n := by
  unfold goLampReport
  extract_lets noted setNoted
  split
  · split
    · exact handNotice_within (withLamp_within h)
    · exact h
  · split
    · exact withLamp_within h
    · exact h

theorem outputReport_within {a : Byte} {s : Slot} {o : Fin 3} {g : Group} {c : Byte} (h : r.within e n) :
    (outputReport e a s o g c r).within e n := by
  simp only [outputReport]
  split
  · split
    · exact h
    · split
      · exact handNotice_within (withLamp_within h)
      · split
        · exact h
        · exact postLampFail_within (withLamp_within h)
  · split
    · exact withLamp_within h
    · exact h

theorem slotOutputs_within {a : Byte} {states : Vector GroupRec 24} {pl : List Byte} {s : Slot} (h : r.within e n) :
    (slotOutputs e a states pl s r).within e n := by
  unfold slotOutputs
  split
  · exact h
  · exact goLampReport_within (foldl_within (fun _ _ _ => outputReport_within) h)

theorem confirmExpiry_within {g : Group} (h : r.within e n) : (confirmExpiry e g r).within e n := by
  unfold confirmExpiry
  split
  · exact foldl_within (fun _ _ _ hr => handNotice_within (withLamp_within hr)) h
  · exact h

theorem qualifyExpiry_within (h : r.within e n) : (qualifyExpiry e r).within e n := by
  unfold qualifyExpiry
  split
  · exact h
  · split
    · exact frameAll_within (post_within (withLamp_within h))
    · exact h

/-! ### Priority offers and served counts (R147 to R160) -/

theorem recomputeOffers_within (h : r.within e n) : (recomputeOffers e r).within e n :=
  within_congr h (by simp) (by simp) (by simp) (by simp) (by simp) (by simp) (by simp) (by simp)

theorem raiseServed_within {level : Nat} (h : r.within e n) : (raiseServed level r).within e n := by
  refine withPriority_within h { h.priority with served := fun i => ?_ }
  split
  · rw [upd_get]
    split
    · exact Nat.min_le_right _ _
    · exact h.priority.served i
  · exact h.priority.served i

theorem extensionNotice_within (h : r.within e n) : (extensionNotice e r).within e n := by
  unfold extensionNotice
  split
  · split
    · exact h
    · exact post_within (raiseServed_within (withPriority_within h { h.priority with }))
  · exact h

theorem stageEndNotice_within {truncated outOfOrder : Bool} (h : r.within e n) :
    (stageEndNotice e truncated outOfOrder r).within e n := by
  have offersGone : ∀ {u : Rt}, u.within e n →
      (u.withPriority fun p => { p with holdOffer := none, truncOffer := none }).within e n :=
    fun hu => withPriority_within hu { hu.priority with }
  have postIf : ∀ {u : Rt} (b : Bool) (a : Byte) (d : List Byte), u.within e n →
      (if b = true then post e .priorityAction a d u else u).within e n := fun b a d hu => by
    split
    · exact post_within hu
    · exact hu
  unfold stageEndNotice
  refine offersGone ?_
  split
  · exact h
  · next t _ =>
    have posted := postIf outOfOrder (b8 t.slot.val) [2#8, b8 t.level, stageByte t.target]
      (postIf truncated (b8 t.slot.val) [1#8, b8 t.level, stageByte t.target] h)
    simp only
    split
    · have raised := raiseServed_within (level := t.level) posted
      split
      · split
        · exact withPriority_within raised { raised.priority with }
        · exact raised
      · exact raised
    · exact posted

theorem priorityNotice_within (h : r.within e n) : (priorityNotice e r).within e n := by
  refine recomputeOffers_within ?_
  split
  · exact withPriority_within h { h.priority with }
  · exact h

/-! ### The queue follows the tram table (R146 to R148) -/

theorem requeue_nodup (now : Time) (on : Bool) (trams : Vector (Option TramRec) 8) (s : TramSlot) {q : List TramSlot}
    (h : q.Nodup) : (requeue now on trams s q).Nodup := by
  have others : (q.filter (· ≠ s)).Nodup := h.filter _
  unfold requeue
  split
  · next x _ =>
    split
    · exact (insertQueue_perm now trams s x _).nodup_iff.mpr (others.cons (by simp))
    · exact others
  · exact others

/-- After a record notice the slot that it is about is queued exactly when it holds a queueable record and the enable is on. -/
theorem mem_requeue_self_iff (now : Time) (on : Bool) (trams : Vector (Option TramRec) 8) (s : TramSlot) (q : List TramSlot) :
    s ∈ requeue now on trams s q ↔ on = true ∧ (trams.get s).any queueable = true := by
  unfold requeue
  split
  · next x hx =>
    split
    · next hq => simpa [hx, (insertQueue_perm now trams s x _).mem_iff] using hq
    · next hq => simpa [hx] using hq
  · next hx => simp [hx]

/-- A record notice for slot `s` brings the queue in line with a tram table that differs from the former one at `s` alone. -/
theorem requeue_within {now : Time} {trams : Vector (Option TramRec) 8} {x : PriorityUnit} {s : TramSlot} {y : Option TramRec}
    (h : x.within trams) :
    ({ x with queue := requeue now x.enable (upd trams s fun _ => y) s x.queue } : PriorityUnit).within
      (upd trams s fun _ => y) := by
  refine ⟨requeue_nodup _ _ _ _ h.nodup, fun k => ?_, h.served⟩
  by_cases hk : k = s
  · subst hk
    exact mem_requeue_self_iff _ _ _ _ _
  · rw [mem_requeue_of_ne now _ _ _ hk, h.mem_iff, upd_get_ne _ _ _ _ hk]

theorem recordNotice_setTram_within {s : TramSlot} {x : Option TramRec} (h : r.within e n) :
    (recordNotice e s (setTram s x r)).within e n :=
  recomputeOffers_within { h with priority := requeue_within h.priority }

/-- The queue built anew holds exactly the queueable records while the enable is on (R148). -/
theorem rebuildQueue_within {now : Time} {on : Bool} {trams : Vector (Option TramRec) 8} {x : PriorityUnit}
    (h : x.within trams) : ({ x with enable := on, queue := rebuildQueue now on trams } : PriorityUnit).within trams := by
  refine ⟨?_, fun k => ?_, h.served⟩
  · exact List.foldlRecOn (motive := List.Nodup) _ _ .nil fun q hq s _ => requeue_nodup now on trams s hq
  · have step : ∀ (q : List TramSlot) (s k : TramSlot), (k ∈ requeue now on trams s q) =
        if s = k then (on = true ∧ (trams.get s).any queueable = true) else k ∈ q := fun q s k => by
      by_cases hk : s = k
      · subst hk
        rw [if_pos rfl, mem_requeue_self_iff]
      · rw [if_neg hk, mem_requeue_of_ne now _ _ _ (Ne.symm hk)]
    have all := foldl_get_of_step (fun q k => k ∈ q) (fun q s => requeue now on trams s q)
      (fun s _ => on = true ∧ (trams.get s).any queueable = true) step allTramSlots [] k (List.nodup_finRange 8)
    rw [if_pos (show k ∈ allTramSlots from List.mem_finRange k)] at all
    exact iff_of_eq all

theorem setEnable_within {on : Bool} (h : r.within e n) : (setEnable e on r).within e n := by
  unfold setEnable
  split
  · exact h
  · exact recomputeOffers_within (withPriority_within h (rebuildQueue_within h.priority))

/-! ### Tram records (R130 to R144) -/

theorem placeRecord_within {src : Byte} {line run : Nat} {make : Option TramRec → TramRec} (h : r.within e n) :
    (placeRecord e src line run make r).within e n := by
  unfold placeRecord
  split
  · exact post_within h
  · exact post_within (recordNotice_setTram_within h)

theorem checkoutSlot_within {s : TramSlot} {c : CheckoutCause} (h : r.within e n) : (checkoutSlot e s c r).within e n := by
  unfold checkoutSlot
  split
  · exact h
  · exact post_within (recordNotice_setTram_within h)

theorem checkout_within {line run : Nat} {c : CheckoutCause} (h : r.within e n) : (checkout e line run c r).within e n := by
  unfold checkout
  split
  · exact checkoutSlot_within h
  · exact post_within h

theorem validTelegram_within {src : Byte} {type : TelegramType} {x : Telegram} (h : r.within e n) :
    (validTelegram e src type x r).within e n := by
  unfold validTelegram
  split
  · exact post_within h
  · split
    · split
      · exact placeRecord_within h
      · exact placeRecord_within h
      · exact checkout_within h
      · exact checkout_within h
    · exact post_within h

theorem takeTelegram_within {src : Byte} {type : TelegramType} {pl : List Byte} (h : r.within e n) :
    (takeTelegram e src type pl r).within e n := by
  unfold takeTelegram
  split
  · exact h
  · split
    · exact validTelegram_within h
    · exact post_within h

theorem tramGreen_within {g : Group} (h : r.within e n) : (tramGreen e g r).within e n :=
  foldl_within (fun r s _ hr => by
    split
    · split
      · exact recordNotice_setTram_within hr
      · exact hr
    · exact hr) h

theorem loseTram_within {s : TramSlot} {x : TramRec} (h : r.within e n) : (loseTram e s x r).within e n :=
  post_within (recordNotice_setTram_within h)

theorem stopLimitRun_within {s : TramSlot} (h : r.within e n) : (stopLimitRun e s r).within e n := by
  unfold stopLimitRun
  split
  · split
    · exact loseTram_within h
    · exact h
  · exact h

theorem guardEndRun_within {s : TramSlot} (h : r.within e n) : (guardEndRun e s r).within e n := by
  unfold guardEndRun
  split
  · split
    · exact loseTram_within h
    · exact h
  · exact h

theorem windowEndRun_within {s : TramSlot} (h : r.within e n) : (windowEndRun e s r).within e n := by
  unfold windowEndRun
  split
  · split
    · exact guardEndRun_within (recordNotice_setTram_within h)
    · exact h
  · exact h

theorem tramsEmpty_within (h : r.within e n) : (tramsEmpty e r).within e n :=
  foldl_within (fun r s _ hr => by
    split
    · exact recordNotice_setTram_within hr
    · exact hr) h

theorem restartTrams_within (h : r.within e n) : (restartTrams r).within e n :=
  { h with priority := ⟨.nil, by simp [restartTrams], h.priority.served⟩ }

end

end Sys2Proof.Machine

/-! SUPPORT. Proofs of the statements of the family 02_safety_tables_and_the_conflict_monitor: the operations of the Demand Unit
keep the bounds. -/

namespace Sys2Proof.Machine

section
variable {e : Env} {n : Nat} {r : Rt}

/-! ### Assignments that give (R118) -/

@[simp] theorem mem_allAssigns (a : Assign) : a ∈ allAssigns := List.mem_finRange a

theorem mem_assignsWhere {t : Tables} {q : AssignEntry → Bool} {y : Assign × AssignEntry} :
    y ∈ t.assignsWhere q ↔ t.assigns.get y.1 = some y.2 ∧ q y.2 = true := by
  obtain ⟨a, x⟩ := y
  simp only [Tables.assignsWhere, List.mem_filterMap, mem_allAssigns, true_and]
  constructor
  · rintro ⟨b, hb⟩
    cases hx : t.assigns.get b with
    | none => simp [hx] at hb
    | some z =>
      simp only [hx, Option.ite_none_right_eq_some, Option.some.injEq, Prod.mk.injEq] at hb
      obtain ⟨hq, rfl, rfl⟩ := hb
      exact ⟨hx, hq⟩
  · rintro ⟨hx, hq⟩
    exact ⟨a, by simp [hx, hq]⟩

/-- One more element of a list passes a test. -/
theorem length_filter_of_one_more {α : Type} [DecidableEq α] {l : List α} (hn : l.Nodup) {a : α} (ha : a ∈ l) {p q : α → Bool}
    (hpq : ∀ b, b ≠ a → q b = p b) (hp : p a = false) (hq : q a = true) : (l.filter q).length = (l.filter p).length + 1 := by
  have rest : (l.erase a).countP q = (l.erase a).countP p :=
    List.countP_congr fun b hb => by rw [hpq b (hn.mem_erase_iff.mp hb).1]
  rw [← List.countP_eq_length_filter, ← List.countP_eq_length_filter, (List.perm_cons_erase ha).countP_eq q,
    (List.perm_cons_erase ha).countP_eq p]
  simp [hp, hq, rest]

/-- Assignment `a` does not give. -/
theorem givesTo_of_not_giving {t : Tables} {d : DemandUnit} {a : Assign} (h : (d.assigns.get a).giving = false) (g : Group) :
    givesTo t d g a = false := by
  simp [givesTo, h]

theorem givesTo_congr {t : Tables} {d d' : DemandUnit} {a : Assign} (h : (d'.assigns.get a).giving = (d.assigns.get a).giving)
    (g : Group) : givesTo t d' g a = givesTo t d g a := by
  simp [givesTo, h]

/-- A change of demand records that leaves the non-locking counts. -/
theorem withDemandGroups_within {f : DemandUnit → DemandUnit} (h : r.within e n) (ha : (f r.demand).assigns = r.demand.assigns)
    (hc : ∀ g, ((f r.demand).groups.get g).nonLocking = (r.demand.groups.get g).nonLocking) :
    (r.withDemand f).within e n := by
  obtain ⟨giving, empty, count⟩ := h.demand
  refine withDemand_within h ⟨by rwa [ha], by rwa [ha], fun g => ?_⟩
  rw [hc, count]
  exact congrArg List.length (List.filter_congr fun a _ => (givesTo_congr (by rw [ha]) g).symm)

theorem updDemand_within {g : Group} {f : DemandRec → DemandRec} (h : r.within e n)
    (hf : ∀ x, (f x).nonLocking = x.nonLocking) : (updDemand g f r).within e n :=
  withDemandGroups_within h rfl fun k => by
    simp only [upd_get]
    split
    · exact hf _
    · rfl

/-- A change of an assignment record that neither starts nor stops its giving, at a loaded entry or leaving an empty record
empty. -/
theorem updAssign_within {a : Assign} {f : AssignRec → AssignRec} (h : r.within e n) (hf : ∀ x, (f x).giving = x.giving)
    (he : (∃ x, e.tab.assigns.get a = some x) ∨ f {} = {}) : (updAssign a f r).within e n := by
  obtain ⟨giving, empty, count⟩ := h.demand
  have same : ∀ b, ((updAssign a f r).demand.assigns.get b).giving = (r.demand.assigns.get b).giving := fun b => by
    simp only [updAssign, Rt.withDemand_fields, upd_get]
    split
    · exact hf _
    · rfl
  refine withDemand_within h ⟨fun b hb => giving b ((same b).symm.trans hb), fun b hb => ?_, fun g => ?_⟩
  · rw [upd_get]
    split
    · next hab =>
      subst hab
      rcases he with ⟨x, hx⟩ | he
      · cases hx.symm.trans hb
      · rw [empty _ hb, he]
    · exact empty b hb
  · exact (count g).trans (congrArg List.length (List.filter_congr fun b _ => (givesTo_congr (same b) g).symm))

theorem latchLoop_within {g : Group} (h : r.within e n) : (latchLoop g r).within e n := updDemand_within h fun _ => rfl

theorem stopDelay_within {a : Assign} (h : r.within e n) : (stopDelay a r).within e n :=
  updAssign_within h (fun _ => rfl) (.inr rfl)

/-- The Demand Unit when assignment `a`, of group `g`, has begun or stopped to give, with the count that goes with it. -/
def DemandUnit.giveSet (a : Assign) (g : Group) (on : Bool) (c : Nat → Nat) (d : DemandUnit) : DemandUnit :=
  { d with assigns := upd d.assigns a fun x => { x with giving := on }
           groups := upd d.groups g fun x => { x with nonLocking := c x.nonLocking } }

theorem startGiving_eq (a : Assign) (g : Group) (r : Rt) : startGiving a g r =
    if (r.demand.assigns.get a).giving then r else r.withDemand (DemandUnit.giveSet a g true (· + 1)) := rfl

theorem stopGiving_eq (a : Assign) (g : Group) (r : Rt) : stopGiving a g r =
    if (r.demand.assigns.get a).giving then r.withDemand (DemandUnit.giveSet a g false (· - 1)) else r := rfl

theorem giveSet_get (a b : Assign) (g : Group) (on : Bool) (c : Nat → Nat) (d : DemandUnit) :
    (d.giveSet a g on c).assigns.get b = if a = b then { d.assigns.get b with giving := on } else d.assigns.get b :=
  upd_get ..

theorem giveSet_nonLocking (a : Assign) (g k : Group) (on : Bool) (c : Nat → Nat) (d : DemandUnit) :
    ((d.giveSet a g on c).groups.get k).nonLocking =
      if g = k then c (d.groups.get k).nonLocking else (d.groups.get k).nonLocking := by
  simp only [DemandUnit.giveSet, upd_get]
  split <;> rfl

/-- The assignments that give to another group than that of `a` are as they were. -/
theorem givesTo_giveSet_other {t : Tables} {d : DemandUnit} {a : Assign} {x : AssignEntry} (hx : t.assigns.get a = some x)
    {on : Bool} {c : Nat → Nat} {k : Group} (hk : x.group ≠ k) :
    givesTo t (d.giveSet a x.group on c) k = givesTo t d k := by
  funext b
  by_cases hab : a = b
  · have other : (x.group == k) = false := by simpa using hk
    simp [givesTo, ← hab, hx, other]
  · exact givesTo_congr (by rw [giveSet_get, if_neg hab]) k

theorem giveSet_within {t : Tables} {d : DemandUnit} {a : Assign} {x : AssignEntry} (h : d.within t)
    (hx : t.assigns.get a = some x) {on : Bool} {c : Nat → Nat} (hon : on = true → x.function = .demandNonlocking)
    (hc : c (allAssigns.filter (givesTo t d x.group)).length =
      (allAssigns.filter (givesTo t (d.giveSet a x.group on c) x.group)).length) :
    (d.giveSet a x.group on c).within t := by
  obtain ⟨giving, empty, count⟩ := h
  refine ⟨fun b hb => ?_, fun b hb => ?_, fun k => ?_⟩
  · rw [giveSet_get] at hb
    by_cases hab : a = b
    · subst hab
      simp only [if_true] at hb
      simp [hx, hon hb]
    · exact giving b (by simpa [hab] using hb)
  · have hab : a ≠ b := fun hab => by
      subst hab
      cases hx.symm.trans hb
    rw [giveSet_get, if_neg hab, empty b hb]
  · rw [giveSet_nonLocking, count k]
    by_cases hk : x.group = k
    · subst hk
      rw [if_pos rfl, hc]
    · rw [if_neg hk, givesTo_giveSet_other hx hk]

theorem givesTo_giveSet_ne {t : Tables} {d : DemandUnit} {a b : Assign} {g k : Group} {on : Bool} {c : Nat → Nat} (hb : b ≠ a) :
    givesTo t (d.giveSet a g on c) k b = givesTo t d k b :=
  givesTo_congr (by rw [giveSet_get, if_neg (Ne.symm hb)]) k

theorem startGiving_within {a : Assign} {x : AssignEntry} (h : r.within e n) (hx : e.tab.assigns.get a = some x)
    (hf : x.function = .demandNonlocking) : (startGiving a x.group r).within e n := by
  rw [startGiving_eq]
  split
  · exact h
  · next idle =>
    refine withDemand_within h (giveSet_within h.demand hx (fun _ => hf) ?_)
    exact (length_filter_of_one_more (List.nodup_finRange 64) (mem_allAssigns a) (fun b hb => givesTo_giveSet_ne hb)
      (givesTo_of_not_giving (by simpa using idle) _) (by simp [givesTo, giveSet_get, hx])).symm

theorem stopGiving_within {a : Assign} {x : AssignEntry} (h : r.within e n) (hx : e.tab.assigns.get a = some x) :
    (stopGiving a x.group r).within e n := by
  rw [stopGiving_eq]
  split
  · next gives =>
    refine withDemand_within h (giveSet_within h.demand hx (by simp) ?_)
    have one := length_filter_of_one_more (List.nodup_finRange 64) (mem_allAssigns a)
      (q := givesTo e.tab r.demand x.group) (p := givesTo e.tab (r.demand.giveSet a x.group false (· - 1)) x.group)
      (fun b hb => (givesTo_giveSet_ne hb).symm) (givesTo_of_not_giving (by simp [giveSet_get]) _) (by simp [givesTo, gives, hx])
    exact Nat.sub_eq_of_eq_add one
  · exact h

/-! ### Evaluation of assignments (R114 to R120) -/

theorem delayRun_within {a : Assign} {x : AssignEntry} (h : r.within e n) (hx : e.tab.assigns.get a = some x) :
    (delayRun a x r).within e n := by
  unfold delayRun
  split
  · exact latchLoop_within (stopDelay_within h)
  · exact latchLoop_within (stopDelay_within h)
  · next function => exact startGiving_within (stopDelay_within h) hx function
  · exact stopDelay_within h

theorem startDelay_within {a : Assign} {x : AssignEntry} {stamp : Time} (h : r.within e n)
    (hx : e.tab.assigns.get a = some x) : (startDelay e a x stamp r).within e n := by
  unfold startDelay
  split
  · exact delayRun_within h hx
  · exact updAssign_within h (fun _ => rfl) (.inl ⟨x, hx⟩)

theorem demandPart_within {a : Assign} {x : AssignEntry} {v : LoopView} {stamp : Time} (h : r.within e n)
    (hx : e.tab.assigns.get a = some x) : (demandPart e a x v stamp r).within e n := by
  have stopped : (stopDelay a r).within e n := stopDelay_within h
  have started : (startDelay e a x stamp r).within e n := startDelay_within h hx
  unfold demandPart
  split
  · split
    · exact h
    · split
      · exact h
      · exact started
    · split
      · exact h
      · exact started
    · next function =>
      split
      · exact stopped
      · exact startGiving_within stopped hx function
    · split
      · exact stopped
      · exact latchLoop_within stopped
    · exact stopGiving_within stopped hx
    · exact stopped
  · exact h

theorem restartGap_within {t : Time} {g : Group} (h : r.within e n) : (restartGap t g r).within e n :=
  updDemand_within h fun _ => by split <;> rfl

theorem stopHolding_within {a : Assign} {g : Group} (h : r.within e n) : (stopHolding e a g r).within e n := by
  have released := updAssign_within (a := a) (f := fun x => { x with holding := false }) h (fun _ => rfl) (.inr rfl)
  simp only [stopHolding]
  split
  · split
    · exact released
    · exact updDemand_within released fun _ => rfl
  · exact h

theorem extendPart_within {a : Assign} {x : AssignEntry} {v : LoopView} {stamp : Time} (h : r.within e n)
    (hx : e.tab.assigns.get a = some x) : (extendPart e a x v stamp r).within e n := by
  unfold extendPart
  split
  · split
    · exact restartGap_within (stopHolding_within h)
    · exact updDemand_within (updAssign_within h (fun _ => rfl) (.inl ⟨x, hx⟩)) fun _ => rfl
    all_goals exact stopHolding_within h
  · exact h

theorem evalAssign_within {a : Assign} {x : AssignEntry} {stamp : Time} (h : r.within e n)
    (hx : e.tab.assigns.get a = some x) : (evalAssign e a x stamp r).within e n :=
  extendPart_within (demandPart_within h hx) hx

theorem foldl_evalAssign_within {q : AssignEntry → Bool} {stamp : Time} (h : r.within e n) :
    ((e.tab.assignsWhere q).foldl (fun r y => evalAssign e y.1 y.2 stamp r) r).within e n :=
  foldl_within (fun _ _ hy hr => evalAssign_within hr (mem_assignsWhere.mp hy).1) h

theorem demandLoop_within {l : Loop} {stamp : Time} (h : r.within e n) : (demandLoop e l stamp r).within e n := by
  unfold demandLoop
  split
  · exact foldl_evalAssign_within h
  · exact h

theorem occupiedSample_within {l : Loop} (h : r.within e n) : (occupiedSample e l r).within e n := by
  unfold occupiedSample
  split
  · exact foldl_within (fun _ _ _ => restartGap_within) h
  · exact h

theorem demandDepart_within {g : Group} (h : r.within e n) : (demandDepart e g r).within e n := by
  unfold demandDepart
  split
  · exact foldl_within (fun _ _ hy hr => demandPart_within hr (mem_assignsWhere.mp hy).1) h
  · exact h

theorem delayExpiry_within {a : Assign} (h : r.within e n) : (delayExpiry e a r).within e n := by
  unfold delayExpiry
  split
  · split
    · next x hx =>
      split
      · exact stopDelay_within h
      · exact delayRun_within h hx
    · exact stopDelay_within h
  · exact h

theorem gapExpiry_within {g : Group} (h : r.within e n) : (gapExpiry e g r).within e n := by
  unfold gapExpiry
  split
  · split
    · exact updDemand_within h fun _ => rfl
    · exact h
  · exact h

theorem setGapTimes_within {v : Vector Nat 24} (h : r.within e n) : (setGapTimes v r).within e n :=
  foldl_within (fun _ _ _ hr => updDemand_within hr fun _ => rfl) h

/-! ### Push buttons, activation, green (R119, R124 to R128) -/

theorem buttonLamp_within {x : ButtonEntry} {lit : Bool} (h : r.within e n) : (buttonLamp e x lit r).within e n :=
  pushAux_within h

theorem groupButtons_within {g : Group} {lit : Bool} (h : r.within e n) : (groupButtons e g lit r).within e n :=
  foldl_within (fun r b _ hr => by
    split
    · split
      · exact buttonLamp_within hr
      · exact hr
    · exact hr) h

theorem pressButton_within {x : ButtonEntry} (h : r.within e n) : (pressButton e x r).within e n := by
  unfold pressButton
  split
  · split
    · exact buttonLamp_within h
    · exact groupButtons_within (updDemand_within h fun _ => rfl)
  · exact h

theorem demandActivate_within (h : r.within e n) : (demandActivate e r).within e n := by
  have active : ∀ {u : Rt}, u.within e n → (u.withDemand fun d => { d with active := true }).within e n :=
    fun hu => withDemandGroups_within hu rfl fun _ => rfl
  unfold demandActivate
  refine foldl_evalAssign_within (active ?_)
  split
  · exact setGapTimes_within h
  · exact h

theorem demandClear_within (h : r.within e n) : (demandClear e r).within e n := by
  refine foldl_within (fun _ _ _ => groupButtons_within) (withDemand_within h ⟨fun a ha => ?_, fun a _ => ?_, fun g => ?_⟩)
  · simp at ha
  · simp
  · rw [List.filter_eq_nil_iff.mpr fun a _ => by simp [givesTo]]
    simp [Vector.get]

theorem demandDeactivate_within (h : r.within e n) : (demandDeactivate e r).within e n := by
  unfold demandDeactivate
  split
  · exact demandClear_within h
  · exact h

/-- The record of an assignment whose group enters GREEN (R119). -/
def AssignRec.silenced (x : AssignRec) : AssignRec := { x with delayDue := none, giving := false }

theorem foldl_updAssign_silenced (l : List (Assign × AssignEntry)) (r : Rt) :
    l.foldl (fun r y => updAssign y.1 AssignRec.silenced r) r =
      r.withDemand fun d => { d with assigns := l.foldl (fun v y => upd v y.1 AssignRec.silenced) d.assigns } := by
  induction l generalizing r with
  | nil => rfl
  | cons y l ih => exact ih (updAssign y.1 AssignRec.silenced r)

theorem foldl_upd_silenced_get (l : List (Assign × AssignEntry)) (v : Vector AssignRec 64) (b : Assign) :
    (l.foldl (fun v y => upd v y.1 AssignRec.silenced) v).get b =
      if b ∈ l.map Prod.fst then (v.get b).silenced else v.get b := by
  induction l generalizing v with
  | nil => simp
  | cons y l ih =>
    rw [List.foldl_cons, ih, upd_get]
    by_cases hb : y.1 = b
    · simp [hb, AssignRec.silenced]
    · have later : b ∈ (y :: l).map Prod.fst ↔ b ∈ l.map Prod.fst := by
        rw [List.map_cons, List.mem_cons, or_iff_right (Ne.symm hb)]
      simp only [if_neg hb, later]

/-- The Demand Unit once group `g` has entered GREEN: its sources are emptied, and none of its assignments gives (R119). -/
def greenDemand (t : Tables) (g : Group) (d : DemandUnit) : DemandUnit :=
  { d with
    groups := upd d.groups g fun x => { x with loop := false, button := false, soft := false, nonLocking := 0 }
    assigns := (t.assignsWhere fun x => x.group == g).foldl (fun v y => upd v y.1 AssignRec.silenced) d.assigns }

theorem demandGreen_eq (e : Env) (g : Group) (r : Rt) : demandGreen e g r =
    if (r.demand.groups.get g).button = true then groupButtons e g false (r.withDemand (greenDemand e.tab g))
    else r.withDemand (greenDemand e.tab g) := by
  have silenced := foldl_updAssign_silenced (e.tab.assignsWhere fun x => x.group == g)
    (updDemand g (fun x => { x with loop := false, button := false, soft := false, nonLocking := 0 }) r)
  show (if _ then groupButtons e g false ((e.tab.assignsWhere _).foldl (fun r (y : Assign × AssignEntry) => updAssign y.1 AssignRec.silenced r) _)
    else (e.tab.assignsWhere _).foldl (fun r (y : Assign × AssignEntry) => updAssign y.1 AssignRec.silenced r) _) = _
  rw [silenced]
  rfl

theorem greenDemand_get (t : Tables) (g : Group) (d : DemandUnit) (b : Assign) :
    (greenDemand t g d).assigns.get b =
      if (t.assigns.get b).any (fun x => x.group == g) = true then (d.assigns.get b).silenced else d.assigns.get b := by
  have listed : b ∈ (t.assignsWhere fun x => x.group == g).map Prod.fst ↔
      (t.assigns.get b).any (fun x => x.group == g) = true := by
    simp only [List.mem_map, mem_assignsWhere, Option.any_eq_true]
    exact ⟨fun ⟨y, hy, hb⟩ => ⟨y.2, hb ▸ hy.1, hy.2⟩, fun ⟨x, hx⟩ => ⟨(b, x), hx, rfl⟩⟩
  simp only [greenDemand, foldl_upd_silenced_get, listed]

theorem greenDemand_groups (t : Tables) (g : Group) (d : DemandUnit) : (greenDemand t g d).groups =
    upd d.groups g fun x => { x with loop := false, button := false, soft := false, nonLocking := 0 } := rfl

theorem greenDemand_within {t : Tables} {g : Group} {d : DemandUnit} (h : d.within t) : (greenDemand t g d).within t := by
  obtain ⟨giving, empty, count⟩ := h
  refine ⟨fun b hb => ?_, fun b hb => ?_, fun k => ?_⟩
  · rw [greenDemand_get] at hb
    split at hb
    · cases hb
    · exact giving b hb
  · rw [greenDemand_get, hb]
    exact empty b hb
  · simp only [greenDemand_groups, upd_get]
    by_cases hk : g = k
    · subst hk
      have idle : ∀ b ∈ allAssigns, ¬ givesTo t (greenDemand t g d) g b = true := fun b _ hb => by
        simp only [givesTo, Bool.and_eq_true, greenDemand_get] at hb
        obtain ⟨gives, own⟩ := hb
        rw [if_pos own] at gives
        cases gives
      rw [if_pos rfl, List.filter_eq_nil_iff.mpr idle]
      rfl
    · have same : ∀ b ∈ allAssigns, givesTo t d k b = givesTo t (greenDemand t g d) k b := fun b _ => by
        simp only [givesTo, greenDemand_get]
        cases hx : t.assigns.get b with
        | none => simp
        | some x =>
          by_cases hg : x.group = k
          · have other : ¬ k = g := Ne.symm hk
            simp [hg, other]
          · have other : (x.group == k) = false := by simpa using hg
            simp [other]
      rw [if_neg hk, count k, List.filter_congr same]

theorem demandGreen_within {g : Group} (h : r.within e n) : (demandGreen e g r).within e n := by
  have silenced : (r.withDemand (greenDemand e.tab g)).within e n := withDemand_within h (greenDemand_within h.demand)
  rw [demandGreen_eq]
  split
  · exact groupButtons_within silenced
  · exact silenced

/-! ### A stored assignment (R115) -/

theorem withdrawAssign_within {a : Assign} (h : r.within e n) : (withdrawAssign e a r).within e n := by
  unfold withdrawAssign
  split
  · next x hx => exact stopHolding_within (stopGiving_within (stopDelay_within h) hx)
  · exact h

theorem stopDelay_get (a : Assign) (r : Rt) :
    (stopDelay a r).demand.assigns.get a = { r.demand.assigns.get a with delayDue := none } := by
  simp [stopDelay, updAssign]

theorem stopGiving_get (a : Assign) (g : Group) (r : Rt) :
    (stopGiving a g r).demand.assigns.get a = { r.demand.assigns.get a with giving := false } := by
  rw [stopGiving_eq]
  split
  · simp [giveSet_get]
  · next idle => simp [← Bool.eq_false_iff.mpr idle]

theorem stopHolding_get (e : Env) (a : Assign) (g : Group) (r : Rt) :
    (stopHolding e a g r).demand.assigns.get a = { r.demand.assigns.get a with holding := false } := by
  simp only [stopHolding]
  split
  · split <;> simp [updAssign, updDemand]
  · next free => simp [← Bool.eq_false_iff.mpr free]

/-- Before the write of an assignment entry its record is as that of an empty one (R115). -/
theorem withdrawAssign_get {a : Assign} (h : r.within e n) : (withdrawAssign e a r).demand.assigns.get a = {} := by
  unfold withdrawAssign
  split
  · rw [stopHolding_get, stopGiving_get, stopDelay_get]
  · next hx => exact h.demand.empty a hx

/-- An entry whose record is empty can be stored anew. -/
theorem storedAssign_within {t : Tables} {d : DemandUnit} {a : Assign} {x : Option AssignEntry} (h : d.within t)
    (ha : d.assigns.get a = {}) : d.within { t with assigns := upd t.assigns a fun _ => x } := by
  obtain ⟨giving, empty, count⟩ := h
  refine ⟨fun b hb => ?_, fun b hb => ?_, fun k => ?_⟩
  · have hab : b ≠ a := fun hab => by
      subst hab
      rw [ha] at hb
      cases hb
    simpa only [upd_get_ne _ _ _ _ hab] using giving b hb
  · by_cases hab : b = a
    · rw [hab, ha]
    · exact empty b (by simpa only [upd_get_ne _ _ _ _ hab] using hb)
  · rw [count k]
    refine congrArg List.length (List.filter_congr fun b _ => ?_)
    by_cases hab : b = a
    · simp [givesTo, hab, ha]
    · simp only [givesTo, upd_get_ne _ _ _ _ hab]

end

end Sys2Proof.Machine

/-! SUPPORT. Proofs of the statements of the family 02_safety_tables_and_the_conflict_monitor: the operations of the Loop Unit keep
the bounds. -/

namespace Sys2Proof.Machine

section
variable {e : Env} {n : Nat} {r : Rt}

/-! ### Loop records and wait lists (R90, R102) -/

theorem LoopRec.within.cleared {y : LoopRec} (h : y.within) (s : LoopState) : (y.cleared s).within :=
  ⟨by simp [LoopRec.cleared], by simp [LoopRec.cleared], by simp [LoopRec.cleared], by simp [LoopRec.cleared],
    by simp [LoopRec.cleared], by simp [LoopRec.cleared], h.vehicles⟩

theorem LoopRec.within.settle {y : LoopRec} (h : y.within) (setting : Option Nat) (count : Nat) :
    (y.settle setting count).within := { h.cleared .settling with }

theorem ite_within {c : Prop} [Decidable c] {r' : Rt} (h : r.within e n) (h' : r'.within e n) :
    (if c then r else r').within e n := by
  split <;> assumption

theorem updLoop_within {l : Loop} {f : LoopRec → LoopRec} (h : r.within e n)
    (hf : (r.loops.recs.get l).within → (f (r.loops.recs.get l)).within) : (updLoop l f r).within e n := by
  refine withLoops_within h { h.loops with recs := fun k => ?_ }
  rw [upd_get]
  split
  · next hk =>
    subst hk
    exact hf (h.loops.recs l)
  · exact h.loops.recs k

theorem upd_upd {α : Type} {k : Nat} (v : Vector α k) (i : Fin k) (f g : α → α) :
    upd (upd v i f) i g = upd v i fun y => g (f y) := by
  show (upd v i f).set i.val (g ((upd v i f).get i)) i.isLt = v.set i.val (g (f (v.get i))) i.isLt
  rw [upd_get_self]
  exact Vector.set_set ..

theorem updLoop_updLoop (l : Loop) (f g : LoopRec → LoopRec) (r : Rt) :
    updLoop l g (updLoop l f r) = updLoop l (fun y => g (f y)) r :=
  congrArg (fun recs => r.withLoops fun u => { u with recs := recs }) (upd_upd r.loops.recs l f g)

theorem updCard_within {addr : Byte} {f : CardRec → CardRec} (h : r.within e n)
    (hf : ∀ c, c.addr = addr → c.within e.tab → (f c).within e.tab) : (updCard addr f r).within e n := by
  refine withLoops_within h { h.loops with cards := fun c hc => ?_ }
  obtain ⟨b, hb, rfl⟩ := List.mem_map.mp hc
  split
  · next ha => exact hf b ha (h.loops.cards b hb)
  · exact h.loops.cards b hb

theorem joinList_within {addr : Byte} {l : Loop} (h : r.within e n)
    (hl : (e.tab.loops.get l).map LoopEntry.card = some addr) : (joinList addr l r).within e n :=
  updCard_within h fun c ha hc => by
    split
    · exact hc
    · next out =>
      have new : l ∉ c.wait := by simpa using out
      refine ⟨List.concat_eq_append ▸ hc.nodup.concat new, fun k hk => ?_⟩
      obtain hk | rfl := by simpa using hk
      · exact hc.own k hk
      · rw [hl, ← ha]

theorem leaveList_within {addr : Byte} {l : Loop} (h : r.within e n) : (leaveList addr l r).within e n :=
  updCard_within h fun _ _ hc => ⟨hc.nodup.filter _, fun k hk => hc.own k (List.mem_of_mem_filter hk)⟩

theorem mem_cardLoops {t : Tables} {addr : Byte} {l : Loop} :
    l ∈ t.cardLoops addr ↔ (t.loops.get l).map LoopEntry.card = some addr := by
  simp only [Tables.cardLoops, allLoops, List.mem_filter, List.mem_finRange, true_and]
  cases t.loops.get l <;> simp

theorem cardLoops_nodup {t : Tables} {addr : Byte} : (t.cardLoops addr).Nodup :=
  List.Nodup.filter _ (List.nodup_finRange 32)

theorem faultLoop_within {l : Loop} {c : LoopCause} (h : r.within e n) : (faultLoop e l c r).within e n :=
  demandLoop_within (postLoopFault_within (updLoop_within h fun hy => { hy.cleared .fault with }))

/-! ### Sweeps (R102 to R106) -/

theorem trySetting_within {x : LoopEntry} {l : Loop} {k : Nat} (h : r.within e n) : (trySetting e x l k r).within e n :=
  updLoop_within (pushAux_within h) fun hy => { hy with discarded := fun w hw => by cases hw; exact Nat.zero_le 3 }

theorem sweepFailed_within {x : LoopEntry} {l : Loop} (h : r.within e n) : (sweepFailed e x l r).within e n :=
  demandLoop_within (postLoopFault_within (leaveList_within (updLoop_within h fun hy => { hy.cleared .fault with })))

theorem sweepFrom_within {x : LoopEntry} {l : Loop} {k : Nat} (h : r.within e n) : (sweepFrom e x l k r).within e n := by
  unfold sweepFrom
  split
  · exact trySetting_within h
  · exact sweepFailed_within h

theorem beginSweep_within {x : LoopEntry} {l : Loop} (h : r.within e n) : (beginSweep e x l r).within e n :=
  sweepFrom_within (demandLoop_within (updLoop_within h fun hy =>
    { hy with discarded := fun w hw => by cases hw; exact Nat.zero_le 3 }))

theorem kickCard_within {addr : Byte} {k : Nat} (h : r.within e n) : (kickCard e addr k r).within e n := by
  induction k generalizing r with
  | zero => exact h
  | succ k ih =>
    unfold kickCard
    split
    · exact h
    · split
      · exact ih (beginSweep_within h)
      · exact h

theorem kick_within {addr : Byte} (h : r.within e n) : (kick e addr r).within e n := kickCard_within h

/-! ### Samples (R93 to R99, R104, R105, R109, R110) -/

theorem invalidSample_within {l : Loop} {s : Sample} (h : r.within e n) : (invalidSample e l s r).within e n := by
  simp only [invalidSample]
  split
  · exact faultLoop_within h
  · next few =>
    have counted := updLoop_within (l := l) (f := fun y => { y with invalidRun := y.invalidRun + 1 }) h fun hy =>
      { hy with invalidRun := show (r.loopRec l).invalidRun + 1 ≤ 2 by omega }
    split
    · exact occupiedSample_within counted
    · exact counted

/-- Entry into CLEAR keeps the bounds when the record that it leaves does. -/
theorem enterClear_within {l : Loop} (h : (updLoop l (fun y => { y with
      state := .clear, onCount := 0, offCount := 0, settlingCount := 0, occupiedAt := none }) r).within e n) :
    (enterClear e l r).within e n := demandLoop_within (post_within h)

theorem cleared_counts_within {l : Loop} {f : LoopRec → LoopRec} (h : r.within e n)
    (hf : (r.loops.recs.get l).within → ({ f (r.loops.recs.get l) with settlingCount := 0 } : LoopRec).within) :
    (enterClear e l (updLoop l f r)).within e n := by
  refine enterClear_within ?_
  rw [updLoop_updLoop]
  exact updLoop_within h fun hy => { hf hy with onCount := Nat.zero_le 15, offCount := Nat.zero_le 15 }

theorem enterOccupied_within {l : Loop} (h : r.within e n) : (enterOccupied e l r).within e n :=
  demandLoop_within (post_within (updLoop_within h fun hy =>
    { hy with onCount := Nat.zero_le 15, offCount := Nat.zero_le 15, vehicles := Nat.min_le_right _ _ }))

theorem settlingSample_within {l : Loop} {bf : Nat} {s : Sample} (h : r.within e n) :
    (settlingSample e l bf s r).within e n := by
  simp only [settlingSample]
  split
  · exact cleared_counts_within h fun hy => { hy with settlingCount := Nat.zero_le 31 }
  · next few => exact updLoop_within h fun hy => { hy with
      settlingCount := show (r.loopRec l).settlingCount + 1 ≤ 31 by simp [Config.settleSamples] at few; omega }

theorem clearSample_within {l : Loop} {x : LoopEntry} {bf : Nat} {d : Int} {s : Sample} (h : r.within e n)
    (hx : e.tab.loops.get l = some x) : (clearSample e l x bf d s r).within e n := by
  obtain ⟨debounce, -, -⟩ := h.loops.fit.1 l x hx
  simp only [clearSample]
  split
  · split
    · exact enterOccupied_within h
    · exact updLoop_within h fun hy => { hy with onCount := show (r.loopRec l).onCount + 1 ≤ 15 by omega }
  · exact updLoop_within h fun hy => { hy with onCount := Nat.zero_le 15 }

theorem occupiedJudged_within {l : Loop} {x : LoopEntry} {d : Int} {s : Sample} (h : r.within e n)
    (hx : e.tab.loops.get l = some x) : (occupiedJudged e l x d s r).within e n := by
  obtain ⟨-, debounce, -⟩ := h.loops.fit.1 l x hx
  simp only [occupiedJudged]
  split
  · exact demandLoop_within (post_within (updLoop_within h fun hy => hy.settle _ _))
  · split
    · split
      · exact enterClear_within (updLoop_within h fun hy =>
          { hy with onCount := Nat.zero_le 15, offCount := Nat.zero_le 15, settlingCount := Nat.zero_le 31 })
      · exact occupiedSample_within (updLoop_within h fun hy => { hy with
          offCount := show (r.loopRec l).offCount + 1 ≤ 15 by omega })
    · exact occupiedSample_within (updLoop_within h fun hy => { hy with offCount := Nat.zero_le 15 })

theorem judgeSample_within {l : Loop} {x : LoopEntry} {s : Sample} (h : r.within e n) (hx : e.tab.loops.get l = some x) :
    (judgeSample e l x s r).within e n := by
  have judged := updLoop_within (l := l) (f := fun y => { y with invalidRun := 0 }) h fun hy =>
    { hy with invalidRun := Nat.zero_le 2 }
  simp only [judgeSample]
  split
  · exact faultLoop_within judged
  · split
    · exact settlingSample_within judged
    · exact clearSample_within judged hx
    · exact occupiedJudged_within judged hx
    all_goals exact judged

theorem sweepSample_within {l : Loop} {x : LoopEntry} {s : Sample} (h : r.within e n) :
    (sweepSample e l x s r).within e n := by
  unfold sweepSample
  split
  · exact h
  · split
    · split
      · exact updLoop_within h fun hy => { hy with discarded := fun w hw => by cases hw; exact Nat.zero_le 3 }
      · exact h
    · next k _ =>
      split
      · next few => exact updLoop_within h fun hy => { hy with discarded := fun w hw => by cases hw; exact few }
      · split
        · exact kick_within (demandLoop_within (post_within (leaveList_within (updLoop_within h fun hy => hy.settle _ _))))
        · exact kick_within (sweepFrom_within h)

theorem recoverySample_within {l : Loop} {x : LoopEntry} {good : Bool} {done : Rt → Rt} (h : r.within e n)
    (hx : e.tab.loops.get l = some x) (hd : (done r).within e n) : (recoverySample e l x good done r).within e n := by
  obtain ⟨-, -, recovery⟩ := h.loops.fit.1 l x hx
  simp only [recoverySample]
  split
  · split
    · exact demandLoop_within (post_within hd)
    · exact updLoop_within h fun hy => { hy with recoveryRun := show (r.loopRec l).recoveryRun + 1 ≤ 254 by omega }
  · exact updLoop_within h fun hy => { hy with recoveryRun := Nat.zero_le 254 }

theorem faultSample_within {l : Loop} {x : LoopEntry} {s : Sample} (h : r.within e n) (hx : e.tab.loops.get l = some x) :
    (faultSample e l x s r).within e n := by
  have own : (e.tab.loops.get l).map LoopEntry.card = some x.card := by simp [hx]
  unfold faultSample
  split
  · exact kick_within (recoverySample_within h hx (joinList_within (updLoop_within h fun hy => hy.cleared _) own))
  · exact kick_within (recoverySample_within h hx (joinList_within (updLoop_within h fun hy => hy.cleared _) own))
  · exact recoverySample_within h hx (updLoop_within h fun hy => hy.settle _ _)
  all_goals exact h

theorem loopSample_within {l : Loop} {x : LoopEntry} {s : Sample} (h : r.within e n) (hx : e.tab.loops.get l = some x) :
    (loopSample e l x s r).within e n := by
  have judged : (if validSample x (r.loopRec l).setting s = true then judgeSample e l x s r else invalidSample e l s r).within e n := by
    split
    · exact judgeSample_within h hx
    · exact invalidSample_within h
  unfold loopSample
  split
  · exact h
  · exact h
  · split
    · exact h
    · exact sweepSample_within h
  · exact judged
  · exact judged
  · exact judged
  · exact faultSample_within h hx

theorem endSilence_within {addr : Byte} (h : r.within e n) : (endSilence e addr r).within e n := by
  refine kick_within (foldl_within (fun u l hl hu => ?_) (updCard_within h fun c _ hc => { hc with }))
  split
  · exact demandLoop_within (post_within (joinList_within (updLoop_within hu fun hy => hy.cleared _) (mem_cardLoops.mp hl)))
  · exact hu

theorem takeLoopCounts_within {addr : Byte} {pl : List Byte} (h : r.within e n) :
    (takeLoopCounts e addr pl r).within e n := by
  unfold takeLoopCounts
  split
  · exact h
  · split
    · exact h
    · next c _ =>
      have heard := updCard_within (addr := addr) (f := fun c => { c with silenceDue := some (after e.now Config.second) }) h
        fun _ _ hc => { hc with }
      have ended := ite_within (c := c.silent = true) (endSilence_within (addr := addr) heard) heard
      refine foldl_within (fun u l _ hu => ?_) ended
      split
      · next hx => exact ite_within hu (loopSample_within hu hx)
      · exact hu

/-! ### Timers (R104, R106, R108) -/

theorem cardSilence_within {addr : Byte} (h : r.within e n) : (cardSilence e addr r).within e n := by
  unfold cardSilence
  split
  · exact h
  · split
    · refine foldl_within (fun u l _ hu => ?_) (updCard_within h fun c _ _ => ⟨.nil, by simp⟩)
      split
      · exact hu
      · exact demandLoop_within (postLoopFault_within (updLoop_within hu fun hy => { hy.cleared .fault with }))
    · exact h

theorem tuneEcho_within {l : Loop} (h : r.within e n) : (tuneEcho e l r).within e n := by
  unfold tuneEcho
  split
  · split
    · exact kick_within (sweepFrom_within h)
    · exact h
  · exact h

theorem tuneRetry_within {l : Loop} (h : r.within e n) : (tuneRetry e l r).within e n := by
  unfold tuneRetry
  split
  · next hx =>
    split
    · exact kick_within (demandLoop_within (joinList_within (updLoop_within h fun hy => hy.cleared _) (by simp [hx])))
    · exact h
  · exact h

/-! ### Writes, DARK, RESTART (R90, R111, R112) -/

theorem remapCards_within (h : r.within e n) : (remapCards e r).within e n := by
  refine withLoops_within h { h.loops with cards := fun c hc => ?_ }
  obtain ⟨a, -, rfl⟩ := List.mem_map.mp hc
  cases found : r.loops.cards.find? fun c => c.addr == a with
  | none => exact ⟨.nil, by simp [newCard]⟩
  | some c =>
    have kept := h.loops.cards c (List.mem_of_find?_eq_some found)
    exact ⟨by simpa using kept.nodup, by simpa using kept.own⟩

theorem rebuildLoops_within (h : r.within e n) : (rebuildLoops e r).within e n := by
  refine withLoops_within h ⟨h.loops.fit, fun c hc => ?_, fun l => ?_⟩
  · obtain ⟨b, -, rfl⟩ := List.mem_map.mp hc
    exact ⟨cardLoops_nodup, fun l hl => mem_cardLoops.mp hl⟩
  · have kept := (h.loops.recs l).cleared (if (e.tab.loops.get l).isSome then .waitingTune else .unused)
    exact (rebuildLoops_get e r l).symm ▸ kept

theorem loopsDark_within (h : r.within e n) : (loopsDark e r).within e n :=
  foldl_within (fun _ _ _ => demandLoop_within) (rebuildLoops_within h)

theorem loopsBegin_within (h : r.within e n) : (loopsBegin e r).within e n := by
  have heard : (r.withLoops fun u => { u with
      cards := u.cards.map fun c => { c with silenceDue := some (after e.now Config.second) } }).within e n := by
    refine withLoops_within h { h.loops with cards := fun c hc => ?_ }
    obtain ⟨b, hb, rfl⟩ := List.mem_map.mp hc
    exact { h.loops.cards b hb with }
  exact foldl_within (fun _ _ _ => kick_within) heard

theorem loopsRestart_within (h : r.within e n) : (loopsRestart e r).within e n := by
  have rebuilt := rebuildLoops_within (remapCards_within h)
  simp only [loopsRestart]
  split
  · exact rebuilt
  · exact loopsBegin_within rebuilt

end

/-! ### A stored loop entry (R89, R90) -/

section
variable {e : Env} {n : Nat} {r : Rt} {l : Loop} {x : Option LoopEntry}

/-- The environment in which a loop's entry has been stored. -/
abbrev Env.withLoop (e : Env) (l : Loop) (x : Option LoopEntry) : Env :=
  { e with tab := { e.tab with loops := upd e.tab.loops l fun _ => x } }

theorem withLoop_get_ne {k : Loop} (hk : k ≠ l) : (e.withLoop l x).tab.loops.get k = e.tab.loops.get k :=
  upd_get_ne _ _ _ _ hk

/-- The bounds carry over to the table with one loop's entry stored, once the loop is in no wait list. -/
theorem withLoop_within (h : r.within e n) (fit : (e.withLoop l x).tab.LoopsFit) (gone : ∀ c ∈ r.loops.cards, l ∉ c.wait) :
    r.within (e.withLoop l x) n where
  ring := h.ring
  events := h.events
  priority := h.priority
  loops := ⟨fit, fun c hc => ⟨(h.loops.cards c hc).nodup, fun k hk => by
    have other : k ≠ l := by
      rintro rfl
      exact gone c hc hk
    rw [withLoop_get_ne other]
    exact (h.loops.cards c hc).own k hk⟩, h.loops.recs⟩
  demand := ⟨h.demand.giving, h.demand.empty, h.demand.count⟩

/-- A loop is at most in the wait list of its own entry's card (R102). -/
theorem not_mem_wait {c : CardRec} {o : LoopEntry} (hc : c.within e.tab) (ho : e.tab.loops.get l = some o)
    (hne : c.addr ≠ o.card) : l ∉ c.wait := fun hl => hne (by simpa [ho] using (hc.own l hl).symm)

/-- A loop that has left the list of its replaced entry's card waits in none. -/
theorem oldLeft_within (h : r.within e n) (fit : (e.withLoop l x).tab.LoopsFit) :
    (match e.tab.loops.get l with | some o => leaveList o.card l r | none => r).within (e.withLoop l x) n := by
  cases ho : e.tab.loops.get l with
  | none =>
    refine withLoop_within h fit fun c hc hl => ?_
    simpa [ho] using (h.loops.cards c hc).own l hl
  | some o =>
    refine withLoop_within (leaveList_within h) fit fun c hc => ?_
    obtain ⟨b, hb, rfl⟩ := List.mem_map.mp hc
    split
    · simp
    · next other => exact not_mem_wait (h.loops.cards b hb) ho other

theorem loopWritten_within (h : r.within e n) (fit : (e.withLoop l x).tab.LoopsFit) :
    (loopWritten (e.withLoop l x) l (e.tab.loops.get l) r).within (e.withLoop l x) n := by
  have left := oldLeft_within h fit
  have entered : ∀ {u : Rt}, u.within (e.withLoop l x) n →
      (match (e.withLoop l x).tab.loops.get l with
        | none => remapCards (e.withLoop l x) (updLoop l (LoopRec.cleared .unused) u)
        | some y =>
          let u := remapCards (e.withLoop l x) (updLoop l (fun z => { z.cleared .waitingTune with writtenAt := some e.now }) u)
          if (match u.cardRec y.card with | some c => c.silent | none => false) then
            postLoopFault (e.withLoop l x) l .cardSilent
              (updLoop l (fun z => { z.cleared .fault with cause := some .cardSilent }) u)
          else joinList y.card l u).within (e.withLoop l x) n := fun {u} hu => by
    split
    · exact remapCards_within (updLoop_within hu fun hz => hz.cleared _)
    · next y hy =>
      have mapped := remapCards_within (updLoop_within (l := l)
        (f := fun z => { z.cleared .waitingTune with writtenAt := some e.now }) hu fun hz => { hz.cleared .waitingTune with })
      exact ite_within (postLoopFault_within (updLoop_within mapped fun hz => { hz.cleared .fault with }))
        (joinList_within mapped (by rw [hy]; rfl))
  have begun : ∀ {u : Rt} {o : Option LoopEntry}, u.within (e.withLoop l x) n →
      (match o with | some o => kick (e.withLoop l x) o.card u | none => u).within (e.withLoop l x) n := fun {u o} hu => by
    cases o
    exacts [hu, kick_within hu]
  exact begun (begun (demandLoop_within (entered left)))

/-- A loaded entry that a write carries is one that the parser reads and the table's relation admits (R189). -/
theorem relate_markedEntry {α : Type} {w : WriteOperand} {parse : List Byte → Option α} {ok : α → Bool} {y : α}
    (h : relate (markedEntry w parse) ok = some (some y)) : parse w.entry = some y ∧ ok y = true := by
  unfold relate at h
  split at h
  · next z marked =>
    obtain ⟨hok, rfl⟩ := by simpa using h
    refine ⟨?_, hok⟩
    unfold markedEntry at marked
    split at marked
    · split at marked <;> simp at marked
    · split at marked
      · simpa using marked
      · cases marked
  · next other => exact absurd h (other y)

theorem parseLoop_bounds {own : Byte} {bs : List Byte} {y : LoopEntry} (h : parseLoop own bs = some y) :
    y.debounceOn ≤ 15 ∧ y.debounceOff ≤ 15 ∧ y.recovery ≤ 255 := by
  have carried := h
  unfold parseLoop at h
  split at h
  · clear h
    obtain ⟨-, -, -, on, off, -, -, -, recovery, -, -, -, channel, -, rfl⟩ := parseLoop_iff.mp carried
    exact ⟨on.2, off.2, recovery.2⟩
  · cases h

/-- An accepted loop entry keeps the relations of R89. -/
theorem loopsFit_withLoop (fit : e.tab.LoopsFit)
    (hx : ∀ y, x = some y → (y.debounceOn ≤ 15 ∧ y.debounceOff ≤ 15 ∧ y.recovery ≤ 255) ∧ loopRelationsOk e.tab l y = true) :
    (e.withLoop l x).tab.LoopsFit := by
  have other : ∀ {y z : LoopEntry} {k : Loop}, k ≠ l → x = some y → e.tab.loops.get k = some z →
      z.card = y.card → z.channel ≠ y.channel := fun {y z k} hk hy hz hcard hchannel => by
    have unique := (hx y hy).2
    simp only [loopRelationsOk, Bool.and_eq_true, List.all_eq_true, List.mem_filterMap] at unique
    have apart := unique.1 z ⟨k, by simp [allLoops], by rw [if_neg hk, hz]⟩
    simp [hcard, hchannel] at apart
  refine ⟨fun k y hy => ?_, fun k m y hy z hz hcard hchannel => ?_⟩
  · by_cases hk : k = l
    · subst hk
      rw [Env.withLoop, upd_get_self] at hy
      exact (hx y hy).1
    · rw [withLoop_get_ne hk] at hy
      exact fit.1 k y hy
  · by_cases hk : k = l <;> by_cases hm : m = l
    · exact hk.trans hm.symm
    · subst hk
      rw [Env.withLoop, upd_get_self] at hy
      rw [withLoop_get_ne hm] at hz
      exact absurd hchannel.symm (other hm hy hz hcard.symm)
    · subst hm
      rw [withLoop_get_ne hk] at hy
      rw [Env.withLoop, upd_get_self] at hz
      exact absurd hchannel (other hk hz hy hcard)
    · rw [withLoop_get_ne hk] at hy
      rw [withLoop_get_ne hm] at hz
      exact fit.2 k m y hy z hz hcard hchannel

end

end Sys2Proof.Machine

/-! SUPPORT. Proofs of the statements of the family 02_safety_tables_and_the_conflict_monitor: the operations of the Group
Sequencer, the Mode Controller and the Stage Engine keep the bounds. -/

namespace Sys2Proof.Machine

section
variable {e : Env} {n : Nat} {r : Rt}

/-! ### Group Sequencer (R5 to R13) -/

theorem updGroup_within {g : Group} {f : GroupRec → GroupRec} (h : r.within e n) : (updGroup g f r).within e n :=
  withGroups_within h

theorem markGreen_within {g : Group} (h : r.within e n) : (markGreen g r).within e n := withStage_within h

theorem markRest_within {g : Group} (h : r.within e n) : (markRest g r).within e n := withStage_within h

theorem enterStarting_within {g : Group} (h : r.within e n) : (enterStarting e g r).within e n :=
  ite_within (groupFrame_within (updGroup_within h)) h

theorem enterGreen_within {g : Group} (h : r.within e n) : (enterGreen e g r).within e n := by
  unfold enterGreen
  split
  · exact markGreen_within (recomputeOffers_within (tramGreen_within (demandGreen_within (groupFrame_within (updGroup_within h)))))
  · exact h

theorem takeGreenStart_within {g : Group} {t : Time} (h : r.within e n) : (takeGreenStart e g t r).within e n :=
  ite_within (enterGreen_within (enterStarting_within (updGroup_within h))) h

theorem minGreenRun_within {g : Group} (h : r.within e n) : (minGreenRun e g r).within e n :=
  ite_within (updGroup_within h) h

theorem takeGreenEnd_within {g : Group} (h : r.within e n) : (takeGreenEnd e g r).within e n := by
  have ordered : ((createConfirm e g (updGroup g (GroupRec.endGreen e.now (e.tab.clearing g)) r))).within e n :=
    withLamp_within (updGroup_within h)
  have departed := demandDepart_within (g := g) (groupFrame_within (g := g) ordered)
  exact ite_within (ite_within departed (markRest_within departed)) h

theorem clearingRun_within {g : Group} (h : r.within e n) : (clearingRun e g r).within e n :=
  ite_within (markRest_within (groupFrame_within (updGroup_within h))) h

theorem orderGroup_within {target : GroupState} {g : Group} (h : r.within e n) : (orderGroup target g r).within e n :=
  ite_within h (withLamp_within (updGroup_within h))

theorem flashGroups_within (h : r.within e n) : (flashGroups e r).within e n :=
  foldl_within (fun _ _ _ => orderGroup_within) h

theorem darkGroups_within (h : r.within e n) : (darkGroups r).within e n :=
  foldl_within (fun _ _ _ => orderGroup_within) h

theorem flashOrder_within (h : r.within e n) : (flashOrder e r).within e n := frameAll_within (flashGroups_within h)

theorem darkOrder_within (h : r.within e n) : (darkOrder e r).within e n := frameAll_within (darkGroups_within h)

theorem restOrder_within (h : r.within e n) : (restOrder e r).within e n :=
  frameAll_within (foldl_within (fun _ _ _ hu => ite_within (updGroup_within hu) hu) h)

theorem groupWritten_within {g : Group} (h : r.within e n) : (groupWritten e g r).within e n :=
  ite_within (orderGroup_within h) h

/-! ### Mode Controller (R38, R47, R51, R58) -/

theorem stageNotice_within (h : r.within e n) : (stageNotice r).within e n := by
  unfold stageNotice
  split
  · exact withStage_within h
  · exact withStage_within h
  · exact withStage_within h
  · exact withStage_within h
  · exact h

theorem demandNotice_within (h : r.within e n) : (demandNotice e r).within e n := by
  unfold demandNotice
  split
  · exact demandDeactivate_within h
  · exact demandDeactivate_within h
  · exact ite_within h (demandActivate_within h)
  · exact h
  · exact h

theorem loopNotice_within {old : Mode} (h : r.within e n) : (loopNotice e old r).within e n := by
  unfold loopNotice
  split
  · exact h
  · exact loopsDark_within h
  · exact loopsBegin_within h
  · exact h

theorem tramNotice_within (h : r.within e n) : (tramNotice e r).within e n := ite_within (tramsEmpty_within h) h

theorem lampNotice_within {old : Mode} (h : r.within e n) : (lampNotice e old r).within e n := by
  unfold lampNotice
  split
  · exact withLamp_within h
  · exact lampLeaveDark_within h
  · exact lampStartup_within h
  · exact h

theorem setMode_within {mode : Mode} {sub : SubPhase} (h : r.within e n) : (setMode e mode sub r).within e n :=
  lampNotice_within (priorityNotice_within (tramNotice_within (loopNotice_within (demandNotice_within (stageNotice_within
    (post_within (withMode_within h)))))))

theorem giveSource_within {src : Source} (h : r.within e n) : (giveSource e src r).within e n :=
  recomputeOffers_within (post_within (withMode_within h))

theorem setSource_within {src : Source} (h : r.within e n) : (setSource e src r).within e n :=
  ite_within h (giveSource_within h)

theorem dropStep_within (h : r.within e n) : (dropStep r).within e n := withMode_within h

theorem takeNotice_within {x : FaultNotice} (h : r.within e n) : (takeNotice e x r).within e n :=
  ite_within (dropStep_within (giveSource_within (setMode_within (flashOrder_within (postFault_within (withMode_within h))))))
    (postFault_within h)

theorem takeFaults_within (h : r.within e n) : (takeFaults e r).within e n :=
  foldl_within (fun _ _ _ => takeNotice_within) (withNotices_within h)

theorem endDirected_within (h : r.within e n) : (endDirected e r).within e n :=
  ite_within (setSource_within (withStage_within h)) h

theorem lapse_within {c : LapseCause} (h : r.within e n) : (lapse e c r).within e n :=
  endDirected_within (post_within (withMode_within h))

theorem windowRun_within (h : r.within e n) : (windowRun e r).within e n := ite_within (lapse_within h) h

theorem armRun_within (h : r.within e n) : (armRun e r).within e n := by
  unfold armRun
  split
  · split
    · exact withMode_within h
    · exact lapse_within h
  · exact h

/-! ### Interstages (R79 to R82, R84) -/

theorem orderGreenEnd_within {g : Group} (h : r.within e n) : (orderGreenEnd e g r).within e n :=
  takeGreenEnd_within (withStage_within h)

theorem fixGreen_within {g : Group} {t : Time} (h : r.within e n) : (fixGreen e g t r).within e n :=
  takeGreenStart_within (withStage_within h)

theorem fixAtStart_within {x : Gaining} (h : r.within e n) : (fixAtStart e x r).within e n := by
  unfold fixAtStart
  split
  · split
    · exact fixGreen_within h
    · exact h
  · exact h

theorem fixAtConfirm_within {x : Gaining} (h : r.within e n) : (fixAtConfirm e x r).within e n := by
  unfold fixAtConfirm
  split
  · split
    · exact fixGreen_within h
    · exact h
  · exact h

theorem stageConfirm_within {g : Group} {t : Time} (h : r.within e n) : (stageConfirm e g t r).within e n := by
  unfold stageConfirm
  extract_lets u
  have confirmed : u.within e n := withStage_within h
  split
  · exact confirmed
  · exact foldl_within (fun _ _ _ => fixAtConfirm_within) confirmed

theorem endStage_within {s : Stage} {cause : EndCause} {truncated late : Bool} (h : r.within e n) :
    (endStage e s cause truncated late r).within e n := by
  unfold endStage
  split
  · exact h
  · exact foldl_within (fun _ _ _ => fixAtStart_within) (foldl_within (fun _ _ _ => orderGreenEnd_within)
      (withStage_within (stageEndNotice_within h)))

theorem firstInterstage_within {s : Stage} (h : r.within e n) : (firstInterstage e s r).within e n :=
  foldl_within (fun _ _ _ => fixGreen_within) (withStage_within h)

/-! ### Stage starts and end conditions (R65 to R77, R85 to R87) -/

theorem takePlan_within {s : Stage} (h : r.within e n) : (takePlan e s r).within e n := by
  unfold takePlan
  split
  · exact setGapTimes_within (withStage_within h)
  · exact h

theorem stageStart_within {k : Interstage} (h : r.within e n) : (stageStart e k r).within e n := by
  have posted : ∀ {f : StageUnit → StageUnit} {b : Byte} {bs : List Byte},
      (post e .stageStart b bs ((takePlan e k.toStage r).withStage f)).within e n :=
    post_within (withStage_within (takePlan_within h))
  have noted : ∀ {u : Rt}, u.within e n → (u.withPriority fun p => { p with extensionNoted := false }).within e n := fun hu =>
    withPriority_within hu { hu.priority with }
  exact recomputeOffers_within (ite_within (setMode_within (noted posted)) (noted posted))

theorem maxGreenCheck_within (h : r.within e n) : (maxGreenCheck e r).within e n := by
  unfold maxGreenCheck
  split
  · exact h
  · exact ite_within (recomputeOffers_within (withStage_within h)) h

theorem maxGreenLapse_within (h : r.within e n) : (maxGreenLapse e r).within e n :=
  recomputeOffers_within (withStage_within h)

theorem autonomousStep_within (h : r.within e n) : (autonomousStep e r).1.within e n := by
  simp only [autonomousStep]
  split
  · exact ite_within (extensionNotice_within h) h
  · split
    · exact endStage_within h
    · split
      · split
        · exact endStage_within h
        · split
          · exact maxGreenLapse_within h
          · exact h
      · split
        · exact maxGreenLapse_within h
        · exact h

theorem directedStep_within (h : r.within e n) : (directedStep e r).1.within e n := by
  simp only [directedStep]
  split
  · exact h
  · split
    · exact h
    · split
      · exact extensionNotice_within h
      · split
        · dsimp only
          exact withStage_within h
        · exact endStage_within (withStage_within h)

theorem manualStep_within (h : r.within e n) : (manualStep e r).1.within e n := by
  simp only [manualStep]
  split
  · split
    · exact endStage_within (dropStep_within h)
    · exact dropStep_within h
  · exact h

theorem clearingAll_within (h : r.within e n) : (clearingAll e r).within e n := by
  have entered := setMode_within (mode := .shutdown) (sub := .clearingAll) h
  simp only [clearingAll]
  exact withStage_within (foldl_within (fun _ _ _ => orderGreenEnd_within) entered)

theorem shutdownAllRed_within (h : r.within e n) : (shutdownAllRed e r).within e n := by
  simp only [shutdownAllRed]
  exact withMode_within (setMode_within (restOrder_within h))

theorem stageEval_within (h : r.within e n) : (stageEval e r).1.within e n := by
  unfold stageEval
  split
  · split
    · split
      · exact stageStart_within h
      · exact h
    · exact h
  · exact h
  · split
    · exact autonomousStep_within h
    · exact directedStep_within h
    · exact manualStep_within h
    · split
      · exact clearingAll_within h
      · exact h
    · exact h
  · split
    · exact shutdownAllRed_within h
    · exact h

theorem holdEnds_within (h : r.within e n) : (holdEnds e r).within e n := ite_within (withStage_within h) h

theorem noteGap_within (h : r.within e n) : (noteGap e r).within e n := ite_within (withStage_within h) h

theorem settleFor_within {k : Nat} (h : r.within e n) : (settleFor e k r).within e n := by
  induction k generalizing r with
  | zero => exact h
  | succ k ih =>
    have evaluated := stageEval_within (maxGreenCheck_within h)
    simp only [settleFor]
    split
    · next u hu => exact ih (by simpa [hu] using evaluated)
    · next u hu => exact noteGap_within (by simpa [hu] using evaluated)

theorem finish_within (h : r.within e n) : (finish e r).within e n :=
  takeFaults_within (settleFor_within (takeFaults_within h))

/-! ### Phases of STARTUP and SHUTDOWN, confirmations (R42 to R44, R68, R169, R170) -/

theorem startupAllRed_within (h : r.within e n) : (startupAllRed e r).within e n := by
  simp only [startupAllRed]
  exact withMode_within (setMode_within (restOrder_within h))

theorem firstStart_within (h : r.within e n) : (firstStart e r).within e n := by
  have entered := setMode_within (mode := .startup) (sub := .firstStart) h
  simp only [firstStart]
  split
  · exact firstInterstage_within entered
  · exact entered

theorem enterShutdown_within (h : r.within e n) : (enterShutdown e r).within e n :=
  dropStep_within (setSource_within (setMode_within h))

theorem minEndRun_within (h : r.within e n) : (minEndRun e r).within e n := by
  unfold minEndRun
  split
  · exact ite_within (withStage_within h) h
  · exact h

theorem updModule_within {addr : Byte} {f : ModuleRec → ModuleRec} (h : r.within e n) : (updModule addr f r).within e n :=
  withLamp_within h

theorem slotConfirm_within {addr : Byte} {pl : List Byte} {s : Slot} (h : r.within e n) :
    (slotConfirm e addr pl s r).within e n := by
  unfold slotConfirm
  split
  · exact h
  · exact ite_within (stageConfirm_within (withMonitor_within (withLamp_within h))) h

theorem takeLampStatus_within {addr : Byte} {pl : List Byte} (h : r.within e n) : (takeLampStatus e addr pl r).within e n := by
  have seen : (statusSeen e addr r).within e n := updModule_within h
  unfold takeLampStatus
  split
  · exact h
  · exact foldl_within (fun _ _ _ => slotOutputs_within) (foldl_within (fun _ _ _ => slotConfirm_within) seen)

end

end Sys2Proof.Machine

/-! SUPPORT. Proofs of the statements of the family 02_safety_tables_and_the_conflict_monitor: every command keeps the bounds and
leaves no fault notice. -/

namespace Sys2Proof.Machine

/-- The blocks keep the bounds, with `n` for the reply slots, and no fault notice waits (log entry 5). -/
abbrev Rt.settled (e : Env) (n : Nat) (r : Rt) : Prop := r.within e n ∧ r.notices = []

/-- The part's blocks keep the bounds, with `n` for the reply slots, and no fault notice waits. -/
abbrev Part.settled (n : Nat) (p : Part) : Prop := p.rt.settled p.env n

section
variable {e : Env} {n : Nat} {r : Rt}

/-! ### What ends with the fault notices taken -/

theorem takeFaults_settled (h : r.within e n) : (takeFaults e r).settled e n := ⟨takeFaults_within h, takeFaults_notices e r⟩

theorem finish_settled (h : r.within e n) : (finish e r).settled e n := ⟨finish_within h, takeFaults_notices e _⟩

theorem accept_settled (h : r.within e n) : (accept e r).1.settled e n := finish_settled h

theorem refuse_settled {c : ResultCode} (h : r.settled e n) : (refuse c r).1.settled e n := h

theorem withMode_settled {f : ModeUnit → ModeUnit} (h : r.settled e n) : (r.withMode f).settled e n := ⟨withMode_within h.1, h.2⟩

theorem withStage_settled {f : StageUnit → StageUnit} (h : r.settled e n) : (r.withStage f).settled e n :=
  ⟨withStage_within h.1, h.2⟩

theorem withLamp_settled {f : LampUnit → LampUnit} (h : r.settled e n) : (r.withLamp f).settled e n :=
  ⟨withLamp_within h.1, h.2⟩

theorem setOwnerViolation_settled (h : r.settled e n) : (setOwnerViolation r).settled e n := withMode_settled h

/-! ### Owners of junction commands (R39 to R50) -/

theorem flashOnOwner_settled (h : r.settled e n) : (flashOnOwner e r).1.settled e n := by
  unfold flashOnOwner
  split
  · split
    · exact refuse_settled h
    · exact accept_settled (setMode_within (flashOrder_within h.1))
  · exact h
  all_goals exact refuse_settled h

theorem darkOwner_settled (h : r.settled e n) : (darkOwner e r).1.settled e n := by
  unfold darkOwner
  split
  · exact h
  · exact accept_settled (setMode_within (darkOrder_within h.1))
  all_goals exact refuse_settled h

theorem startUp_within {p : PlanEntry} (h : r.within e n) : (startUp e p r).within e n := by
  have entered := takeFaults_within (withMode_within (f := fun m => { m with phaseDue := some (after e.now p.startFlash) })
    (setSource_within (src := .autonomous) (setMode_within (mode := .startup) (sub := .startFlash) (flashOrder_within
      (withMode_within (f := fun m => { m with startValues := some ⟨p.startStage, p.startFlash, p.allRed⟩ }) h)))))
  simp only [startUp]
  exact ite_within (startupAllRed_within entered) entered

theorem startOwner_settled (h : r.settled e n) : (startOwner e r).1.settled e n := by
  unfold startOwner
  split
  · split
    · exact refuse_settled h
    · split
      · exact h
      · exact accept_settled (startUp_within h.1)
      · exact refuse_settled h
  all_goals exact refuse_settled h

theorem stopOwner_settled (h : r.settled e n) : (stopOwner e r).1.settled e n := by
  unfold stopOwner
  split
  · exact accept_settled (enterShutdown_within h.1)
  · exact h
  all_goals exact refuse_settled h

theorem restartMode_within {mode : Mode} (h : r.within e n) : (restartMode e mode r).within e n :=
  setSource_within (post_within (withMode_within h))

theorem stageIdle_within (h : r.within e n) : (stageIdle r).within e n := withStage_within h

/-- RESTART empties the reply slots. -/
theorem restartOwner_settled (h : r.settled e n) : (restartOwner e r).1.settled e 0 := by
  have ordered : (if e.tab.mappedCount = 0 then darkGroups r else flashGroups e r).within e n :=
    ite_within (darkGroups_within h.1) (flashGroups_within h.1)
  simp only [restartOwner]
  refine takeFaults_settled (frameAll_within ?_)
  unfold lampRestart
  refine withLamp_within (withMonitor_within (loopsRestart_within (restartTrams_within (demandClear_within ?_))))
  exact stageIdle_within (restartMode_within (restartRing_within ordered))

theorem clearFaultOwner_settled (h : r.settled e n) : (clearFaultOwner e r).1.settled e n := by
  unfold clearFaultOwner
  split
  · exact refuse_settled h
  · exact ⟨within_congr h.1 rfl rfl rfl rfl rfl rfl rfl rfl, h.2⟩

/-! ### Owners of control commands and the keepalive (R52 to R64, R75, R77, R122, R141, R148) -/

theorem takeOwner_settled (h : r.settled e n) : (takeOwner e r).1.settled e n := by
  unfold takeOwner
  split
  · exact refuse_settled h
  · split
    · exact refuse_settled h
    · split
      · exact refuse_settled h
      · exact accept_settled (setSource_within h.1)

theorem releaseOwner_settled (h : r.settled e n) : (releaseOwner e r).1.settled e n := by
  unfold releaseOwner
  split
  · exact refuse_settled h
  · split
    · exact refuse_settled h
    · exact accept_settled (endDirected_within h.1)

theorem directedOwner_settled {tests : Env → Rt → Rt × Result} (ht : (tests e r).1.settled e n) (h : r.settled e n) :
    (directedOwner tests e r).1.settled e n := by
  unfold directedOwner
  split
  · exact refuse_settled h
  · split
    · exact refuse_settled (setOwnerViolation_settled h)
    · exact ht

theorem goStageTests_settled {b : Byte} (h : r.settled e n) : (goStageTests b e r).1.settled e n := by
  unfold goStageTests
  split
  · exact refuse_settled h
  · split
    · exact refuse_settled h
    · split
      · exact accept_settled (withStage_within h.1)
      · exact refuse_settled h

theorem holdTests_settled {b : Byte} (h : r.settled e n) : (holdTests b e r).1.settled e n := by
  unfold holdTests
  split
  · exact accept_settled (withStage_within h.1)
  · exact refuse_settled h

theorem planSelectOwner_settled {b : Byte} (h : r.settled e n) : (planSelectOwner b e r).1.settled e n := by
  unfold planSelectOwner
  split
  · exact refuse_settled h
  · split
    · exact refuse_settled h
    · split
      · exact h
      · dsimp only
        exact withStage_settled h

theorem softSet_within {g : Group} {on : Bool} (h : r.within e n) : (softSet g on r).within e n :=
  ite_within h (updDemand_within h fun _ => rfl)

theorem softDemandOwner_settled {b v : Byte} (h : r.settled e n) : (softDemandOwner b v e r).1.settled e n := by
  unfold softDemandOwner
  split
  · exact refuse_settled h
  · split
    · exact refuse_settled h
    · split
      · exact refuse_settled h
      · split
        · exact refuse_settled h
        · exact accept_settled (softSet_within h.1)

theorem priorityEnableOwner_settled {b : Byte} (h : r.settled e n) : (priorityEnableOwner b e r).1.settled e n := by
  unfold priorityEnableOwner
  split
  · exact refuse_settled h
  · exact accept_settled (setEnable_within h.1)

theorem cancelTramOwner_settled {line run : Nat} (h : r.settled e n) : (cancelTramOwner line run e r).1.settled e n := by
  unfold cancelTramOwner
  split
  · split
    · exact refuse_settled h
    · exact accept_settled (checkoutSlot_within h.1)
  · exact refuse_settled h

theorem keepaliveArmOwner_settled (h : r.settled e n) : (keepaliveArmOwner e r).1.settled e n := by
  simp only [keepaliveArmOwner]
  exact withMode_settled h

theorem keepaliveRefreshOwner_settled (h : r.settled e n) : (keepaliveRefreshOwner e r).1.settled e n := by
  unfold keepaliveRefreshOwner
  split
  · dsimp only
    exact withMode_settled h
  all_goals exact refuse_settled (setOwnerViolation_settled h)

/-! ### Owners of queries (R145, R190, R195, R196) -/

theorem readOwner_settled {pl : List Byte} (h : r.settled e n) : (readOwner pl e r).1.settled e n := by
  unfold readOwner
  split
  · exact h
  · exact refuse_settled h

theorem statusOwner_settled (h : r.settled e n) : (statusOwner e r).1.settled e n := by
  refine ⟨?_, h.2⟩
  simp only [statusOwner]
  have events : (r.withReport fun q => { q with summary := 0#21 }).within e n := withReport_within h.1 h.1.events
  have kept := (withMode_within (f := fun m => { m with ownerViolation := false }) events)
  exact withRing_within kept { kept.ring with }

theorem ofFn_get {α : Type} {k : Nat} (f : Fin k → α) (i : Fin k) : (Vector.ofFn f).get i = f i := by
  show (Vector.ofFn f)[i.val] = f i
  simp

theorem replicate_get {α : Type} {k : Nat} (x : α) (i : Fin k) : (Vector.replicate k x).get i = x := by
  show (Vector.replicate k x)[i.val] = x
  simp

theorem LoopUnit.within.uncounted {t : Tables} {u : LoopUnit} (h : u.within t) :
    LoopUnit.within t { u with recs := Vector.ofFn fun l => { u.recs.get l with vehicles := 0 } } := by
  refine ⟨h.fit, h.cards, fun l => ?_⟩
  have kept := h.recs l
  dsimp only
  rw [ofFn_get]
  exact ⟨kept.onCount, kept.offCount, kept.invalidRun, kept.settlingCount, kept.recoveryRun, kept.discarded, Nat.zero_le _⟩

theorem PriorityUnit.within.uncounted {trams : Vector (Option TramRec) 8} {x : PriorityUnit} (h : x.within trams) :
    PriorityUnit.within trams { x with served := Vector.replicate 3 0 } where
  nodup := h.nodup
  mem_iff := h.mem_iff
  served i := by
    rw [replicate_get]
    exact Nat.zero_le _

theorem countsOwner_settled (h : r.settled e n) : (countsOwner e r).1.settled e n := by
  simp only [countsOwner]
  have loops := withLoops_within
    (f := fun u => { u with recs := Vector.ofFn fun l => { u.recs.get l with vehicles := 0 } }) h.1 h.1.loops.uncounted
  exact ⟨withPriority_within loops loops.priority.uncounted, by simpa using h.2⟩

theorem tramTableOwner_settled {b : Byte} (h : r.settled e n) : (tramTableOwner b e r).1.settled e n := by
  unfold tramTableOwner
  split
  · exact refuse_settled h
  · exact h

/-! ### Panel keys, presses, readings, moments -/

theorem flashKeyRun_within (h : r.within e n) : (flashKeyRun e r).within e n := ite_within (enterShutdown_within h) h

theorem manualOnRun_within (h : r.within e n) : (manualOnRun e r).within e n :=
  ite_within (setSource_within (ite_within (withStage_within h) h)) h

theorem manualOffRun_within (h : r.within e n) : (manualOffRun e r).within e n :=
  ite_within (setSource_within (dropStep_within h)) h

theorem stepRun_within (h : r.within e n) : (stepRun e r).within e n := ite_within (withMode_within h) h

theorem pushRun_within {src index : Byte} (h : r.within e n) : (pushRun src index e r).within e n := by
  unfold pushRun
  split
  · exact pressButton_within h
  · exact h

theorem sensorRun_settled {src : Byte} {value : Nat} (h : r.settled e n) : (sensorRun src value e r).settled e n := by
  unfold sensorRun
  split
  · exact withLamp_settled h
  · exact h

theorem tramBlock_within {type : TelegramType} {src : Byte} {pl : List Byte} (h : r.within e n) :
    (if r.mode.mode = .dark then r else takeTelegram e src type pl r).within e n := ite_within h (takeTelegram_within h)

theorem lockoutRun_within (h : r.within e n) : (lockoutRun e r).within e n :=
  recomputeOffers_within (withPriority_within h { h.priority with })

theorem settlingEnd_settled (h : r.settled e n) : (settlingEnd e r).settled e n := by
  refine ⟨?_, by simpa using h.2⟩
  exact within_congr h.1 (by simp) (by simp) (by simp) (by simp) (by simp) (by simp) (by simp) (by simp)

end

/-! ### Stores of table writes (R188 to R191) -/

section
variable {n : Nat} {p : Part}

/-- A store that touches neither the loop nor the assignment table keeps the bounds. -/
theorem storeOnly_settled {f : Tables → Tables} (hl : ∀ t, (f t).loops = t.loops) (ha : ∀ t, (f t).assigns = t.assigns)
    (h : p.settled n) : (storeOnly f p).settled n := by
  obtain ⟨⟨ring, events, priority, ⟨fit, cards, recs⟩, giving, empty, count⟩, notices⟩ := h
  refine ⟨⟨ring, events, priority, ⟨?_, fun c hc => ⟨(cards c hc).nodup, ?_⟩, recs⟩, ?_, ?_, ?_⟩, notices⟩
  · simpa only [storeOnly, Tables.LoopsFit, hl] using fit
  · simpa only [storeOnly, hl] using (cards c hc).own
  · simpa only [storeOnly, ha] using giving
  · simpa only [storeOnly, ha] using empty
  · have gives : givesTo (f p.env.tab) = givesTo p.env.tab := by simp only [funext_iff, givesTo, ha, implies_true]
    simpa only [storeOnly, gives] using count

theorem storeGroup_settled {g : Group} {x : Option GroupEntry} (h : p.settled n) : (storeGroup g x p).settled n := by
  have stored : p.rt.within { p.env with tab := { p.env.tab with groups := upd p.env.tab.groups g fun _ => x } } n :=
    (storeOnly_settled (f := fun t => { t with groups := upd t.groups g fun _ => x }) (fun _ => rfl) (fun _ => rfl) h).1
  have noted : ∀ {e : Env} {m : Option Mapping} {r : Rt}, r.within e n → (clearNoted m r).within e n := fun {e m r} hr => by
    unfold clearNoted
    split
    · exact updModule_within hr
    · exact hr
  have unslotted : ∀ {e : Env} {r : Rt}, r.within e n → (monitorUnslotted e r).within e n := fun hr =>
    foldl_within (fun _ _ _ hu => ite_within hu (withMonitor_within hu)) hr
  have mapped : ∀ {e : Env} {r : Rt}, r.within e n → (remapModules e r).within e n := fun hr => withLamp_within hr
  simp only [storeGroup]
  refine takeFaults_settled (foldl_frameModule_within (unslotted ?_))
  have remapped := mapped (groupWritten_within (g := g) stored)
  exact ite_within remapped (noted (noted remapped))

theorem storeLoop_settled {l : Loop} {x : Option LoopEntry} (fit : (p.env.withLoop l x).tab.LoopsFit) (h : p.settled n) :
    (storeLoop l x p).settled n := finish_settled (loopWritten_within h.1 fit)

theorem storeAssign_settled {a : Assign} {x : Option AssignEntry} (h : p.settled n) : (storeAssign a x p).settled n := by
  have withdrawn := withdrawAssign_within (a := a) h.1
  have stored : (withdrawAssign p.env a p.rt).within
      { p.env with tab := { p.env.tab with assigns := upd p.env.tab.assigns a fun _ => x } } n :=
    ⟨withdrawn.ring, withdrawn.events, withdrawn.priority, ⟨withdrawn.loops.fit, fun c hc =>
      ⟨(withdrawn.loops.cards c hc).nodup, (withdrawn.loops.cards c hc).own⟩, withdrawn.loops.recs⟩,
      storedAssign_within withdrawn.demand (withdrawAssign_get h.1)⟩
  simp only [storeAssign]
  refine finish_settled ?_
  split
  · exact ite_within (evalAssign_within stored (upd_get_self _ _ _)) stored
  · exact stored

theorem storeButton_settled {k : Entry} {x : Option ButtonEntry} (h : p.settled n) : (storeButton k x p).settled n := by
  have stored := storeOnly_settled (f := fun t => { t with buttons := upd t.buttons k fun _ => x }) (fun _ => rfl)
    (fun _ => rfl) h
  have shown : ∀ {e : Env} {o : Option ButtonEntry} {lit : Bool} {r : Rt}, r.settled e n → (indicatorFrame e o lit r).settled e n :=
    fun {e o lit r} hr => by
      refine ⟨?_, by simpa using hr.2⟩
      unfold indicatorFrame
      split
      · exact ite_within (buttonLamp_within hr.1) hr.1
      · exact hr.1
  simp only [storeButton]
  split
  · exact stored
  · exact shown (shown stored)

theorem storeSettings_settled {u : Unit} {x : Option Settings} (h : p.settled n) : (storeSettings u x p).settled n := by
  unfold storeSettings
  split
  · next y => exact withLamp_settled (storeOnly_settled (f := fun t => { t with settings := y }) (fun _ => rfl) (fun _ => rfl) h)
  · exact h

end

end Sys2Proof.Machine

/-! SUPPORT. Proofs of the statements of the family 02_safety_tables_and_the_conflict_monitor: every step keeps the bounds. -/

namespace Sys2Proof.Machine

/-! ### Dispositions of frames and moments -/

/-- The change of the part keeps the bounds, whatever number of reply slots it finds taken. -/
def KeepsSettled (f : Part → Part) : Prop := ∀ {n : Nat} {p : Part}, p.settled n → (f p).settled n

section
variable {n : Nat} {p : Part}

theorem onRt_keepsSettled {f : Env → Rt → Rt} (hf : ∀ {e : Env} {n : Nat} {r : Rt}, r.settled e n → (f e r).settled e n) :
    KeepsSettled fun p => p.onRt f := fun h => hf h

theorem act_keepsSettled {f : Env → Rt → Rt} (hf : ∀ {e : Env} {n : Nat} {r : Rt}, r.within e n → (f e r).within e n) :
    KeepsSettled fun p => p.act f := fun h => finish_settled (hf h.1)

theorem actQuiet_keepsSettled {f : Env → Rt → Rt} (hf : ∀ {e : Env} {n : Nat} {r : Rt}, r.within e n → (f e r).within e n) :
    KeepsSettled fun p => p.actQuiet f := fun h => takeFaults_settled (hf h.1)

theorem whenDue_keepsSettled (i : Instr) {f : Part → Part} (hf : KeepsSettled f) : KeepsSettled (Part.whenDue i f) := by
  intro n p h
  unfold Part.whenDue
  split
  · exact hf h
  · exact h

theorem linkUp_settled {port : Port} (h : p.settled n) : (p.onRt fun e r => linkUp e port r).settled n :=
  ⟨linkUp_within h.1, by simp [Part.onRt, h.2]⟩

theorem forwardTo_settled {port : Port} {f : Frame} (h : p.settled n) : (p.onRt fun e r => forwardTo e port f r).settled n :=
  ⟨forwardTo_within h.1, by simp [Part.onRt, h.2]⟩

theorem setCrcFlag_settled (h : p.settled n) : (p.onRt fun _ r => setCrcFlag r).settled n :=
  ⟨setCrcFlag_within h.1, by simp [Part.onRt, h.2]⟩

theorem postRefused_settled {f : Frame} {c : Nat} (h : p.settled n) : (p.onRt fun e r => postRefused e f c r).settled n :=
  ⟨post_within h.1, by simp [Part.onRt, h.2]⟩

/-! ### The Command Unit (R185, R186) -/

/-- What an owner does keeps the bounds and the part's ring address. -/
structure OwnerKeeps (owner : Owner) (p : Part) : Prop where
  settled : ∀ {n : Nat}, p.settled n → (owner p).1.settled n
  own : (owner p).1.env.own = p.env.own

theorem onBlocks_keeps {f : Env → Rt → Rt × Result}
    (hf : ∀ {e : Env} {n : Nat} {r : Rt}, r.settled e n → (f e r).1.settled e n) (p : Part) : OwnerKeeps (onBlocks f) p :=
  ⟨fun h => hf h, rfl⟩

/-- An answer that is asked for takes one more slot, one that is not asked for none (R185). -/
theorem answer_settled {f : Frame} {x : Result} {m : Nat} (h : p.settled n) (hm : n ≤ m) (ha : asks p.env f = true → n + 1 ≤ m) :
    (p.onRt fun e r => answer e f x r).settled m := by
  refine ⟨?_, by simp [Part.onRt, h.2]⟩
  cases asked : asks p.env f with
  | true => exact within_mono (ha asked) (answer_within h.1)
  | false => exact within_mono hm (answer_within_of_not_asks asked h.1)

theorem asks_congr {e e' : Env} (f : Frame) (h : e'.own = e.own) : asks e' f = asks e f := by simp [asks, h]

/-- The Command Unit takes a frame that asks for an answer only when a slot is free, or when it is RESTART, whose owner
leaves them all free (R186 step 2). -/
theorem commandUnit_settled {f : Frame} {d : Decoding} {owner : Owner} (ho : OwnerKeeps owner p)
    (hr : d.isRestart = true → d.refusal = none ∧ (owner p).1.settled 0) (h : p.settled Config.replySlots) :
    (commandUnit f d owner p).settled Config.replySlots := by
  unfold commandUnit
  split
  · exact h
  · split
    · exact postRefused_settled h
    · next admitted =>
      have room : d.isRestart = false → asks p.env f = true → p.settled 3 := fun hd ha => by
        have free : p.rt.ring.replies.length < Config.replySlots := by simpa [hd, ha] using admitted
        exact ⟨{ h.1 with ring := { h.1.ring with replies := Nat.le_of_lt_succ free } }, h.2⟩
      have answered : ∀ {q : Part} {x : Result}, q.env.own = p.env.own → q.settled Config.replySlots →
          (asks p.env f = true → q.settled 3) → (q.onRt fun e r => answer e f x r).settled Config.replySlots :=
        fun {q x} own hq hq' => by
          cases asked : asks p.env f with
          | true => exact answer_settled (hq' asked) (by decide) fun _ => Nat.le_refl _
          | false =>
            refine answer_settled hq (Nat.le_refl _) fun ha => ?_
            rw [asks_congr f own, asked] at ha
            cases ha
      split
      · next c hc =>
        refine answered rfl h (room ?_)
        by_contra restart
        rw [(hr (by simpa using restart)).1] at hc
        cases hc
      · split
        · exact h
        · refine answered ho.own (ho.settled h) fun ha => ?_
          cases restart : d.isRestart with
          | true => exact ⟨within_mono (Nat.zero_le 3) (hr restart).2.1, (hr restart).2.2⟩
          | false => exact ho.settled (room restart ha)

theorem headFrame_settled {f : Frame} {d : Decoding} {owner : Owner} (ho : ∀ r, OwnerKeeps owner { p with rt := r })
    (hr : d.isRestart = true → d.refusal = none ∧ ∀ r, Rt.settled p.env Config.replySlots r →
      (owner { p with rt := r }).1.settled 0) (h : p.settled Config.replySlots) :
    (headFrame f d owner p).settled Config.replySlots := by
  have arrived := linkUp_settled (port := .head) h
  have taken := commandUnit_settled (f := f) (ho _) (fun hd => ⟨(hr hd).1, (hr hd).2 _ arrived⟩) arrived
  simp only [headFrame]
  split
  · split
    · exact taken
    · split
      · exact forwardTo_settled taken
      · exact forwardTo_settled arrived
  · exact setCrcFlag_settled h

/-- A management frame other than RESTART whose owner changes blocks alone. -/
theorem headFrame_onBlocks_settled {f : Frame} {d : Decoding} {owner : Env → Rt → Rt × Result}
    (ho : ∀ {e : Env} {n : Nat} {r : Rt}, r.settled e n → (owner e r).1.settled e n) (hd : d.isRestart = false)
    (h : p.settled Config.replySlots) : (headFrame f d (onBlocks owner) p).settled Config.replySlots :=
  headFrame_settled (fun _ => onBlocks_keeps ho _) (by simp [hd]) h

theorem headFrame_restart_settled {f : Frame} {rest : List Byte} (h : p.settled Config.replySlots) :
    (headFrame f { lengthIs 0 rest with isRestart := rest.isEmpty } (onBlocks restartOwner) p).settled Config.replySlots :=
  headFrame_settled
    (fun _ => onBlocks_keeps (fun h => ⟨within_mono (Nat.zero_le _) (restartOwner_settled h).1, (restartOwner_settled h).2⟩) _)
    (fun hd => ⟨by simpa [lengthIs] using hd, fun _ hr => restartOwner_settled hr⟩) h

/-- A table write whose store, at an index and an entry that the write carries, keeps the bounds. -/
theorem tableOwner_keeps {ι α : Type} {safety : Bool} {index : Option ι} {entry : ι → Option (Option α)}
    {check : Rt → ι → Option α → Option Inconsistency} {store : ι → Option α → Part → Part}
    (hs : ∀ {i x n}, entry i = some x → p.settled n → (store i x p).settled n)
    (hown : ∀ i x, (store i x p).env.own = p.env.own) : OwnerKeeps (tableOwner safety index entry check store) p := by
  refine ⟨fun h => ?_, ?_⟩ <;> unfold tableOwner <;> split
  · exact h
  · split
    · exact h
    · split
      · exact h
      · next entered =>
        split
        · exact h
        · exact hs entered h
  · rfl
  · split
    · rfl
    · split
      · rfl
      · split
        · rfl
        · exact hown _ _

theorem write_settled {ι α : Type} {f : Frame} {len : Nat} {rest : List Byte} {w : Option WriteOperand} {safety : Bool}
    {index : WriteOperand → Option ι} {entry : WriteOperand → ι → Option (Option α)}
    {check : Rt → ι → Option α → Option Inconsistency} {store : ι → Option α → Part → Part}
    (hs : ∀ {w i x n r}, entry w i = some x → Part.settled n { p with rt := r } → (store i x { p with rt := r }).settled n)
    (hown : ∀ i x q, (store i x q).env.own = q.env.own) (h : p.settled Config.replySlots) :
    (headFrame f (lengthIs len rest) (match w with
      | some w => tableOwner safety (index w) (entry w) check store
      | none => fun p => (p, ⟨.badLength, []⟩)) p).settled Config.replySlots := by
  refine headFrame_settled (fun r => ?_) (fun hd => by simp [lengthIs] at hd) h
  split
  · exact tableOwner_keeps hs fun i x => hown i x _
  · exact ⟨fun h => h, rfl⟩

/-! ### Frames at the field port and frames that no block takes -/

theorem fieldFrame_keepsSettled (f : Frame) {block : Part → Part} (hb : KeepsSettled block) (forwarded : Bool) :
    KeepsSettled (fieldFrame f block forwarded) := by
  intro n p h
  have arrived := linkUp_settled (port := .field) h
  simp only [fieldFrame]
  split
  · split
    · split
      · exact forwardTo_settled (hb arrived)
      · exact hb arrived
    · exact forwardTo_settled arrived
  · exact setCrcFlag_settled h

theorem forwardOnly_keepsSettled (port : Port) (f : Frame) : KeepsSettled (forwardOnly port f) := by
  intro n p h
  have arrived := linkUp_settled (port := port) h
  simp only [forwardOnly]
  split
  · split
    · exact forwardTo_settled arrived
    · split
      · exact arrived
      · exact forwardTo_settled arrived
  · exact setCrcFlag_settled h

theorem dropForeign_keepsSettled (port : Port) (f : Frame) : KeepsSettled (dropForeign port f) := by
  intro n p h
  unfold dropForeign
  split
  · exact ⟨post_within (linkUp_within h.1), by simp [Part.onRt, h.2]⟩
  · exact setCrcFlag_settled h

theorem telegramFrame_keepsSettled (type : TelegramType) (h : Header) (pl : List Byte) :
    KeepsSettled (telegramFrame type h pl) := by
  intro n p hp
  unfold telegramFrame
  split
  · exact fieldFrame_keepsSettled _ (act_keepsSettled tramBlock_within) true hp
  · exact hp

theorem lampBlock_keepsSettled (src : Byte) (pl : List Byte) : KeepsSettled (lampBlock src pl) := by
  intro n p h
  unfold lampBlock
  split
  · exact act_keepsSettled takeLampStatus_within h
  · exact actQuiet_keepsSettled takeLampStatus_within h

/-! ### Every command -/

theorem storeButton_own (k : Entry) (x : Option ButtonEntry) (q : Part) : (storeButton k x q).env.own = q.env.own := by
  simp only [storeButton]
  split <;> rfl

theorem storeSettings_own (u : Unit) (x : Option Settings) (q : Part) : (storeSettings u x q).env.own = q.env.own := by
  unfold storeSettings
  split <;> rfl

theorem readDecoding_isRestart (pl : List Byte) : (readDecoding pl).isRestart = false := by
  unfold readDecoding
  split
  · rfl
  · split <;> rfl

theorem execBadKindFrame_settled {h : Header} {kind : Byte} {pl : List Byte} {s : State} (hs : s.part.settled Config.replySlots) :
    ∃ q, execBadKindFrame h kind pl s = .next { s with part := q } ∧ q.settled Config.replySlots := by
  refine ⟨_, rfl, ?_⟩
  dsimp only
  split
  · exact headFrame_settled (fun _ => ⟨fun h => h, rfl⟩) (by simp) hs
  · exact hs

theorem execForwardFrame_settled {port : Port} {h : Header} {kind : Byte} {pl : List Byte} {s : State}
    (hs : s.part.settled Config.replySlots) :
    ∃ q, execForwardFrame port h kind pl s = .next { s with part := q } ∧ q.settled Config.replySlots := by
  refine ⟨_, rfl, ?_⟩
  dsimp only
  split
  · exact forwardOnly_keepsSettled _ _ hs
  · exact hs

theorem execCrcErrorFrame_settled {port : Port} {bytes : List Byte} {s : State} (hs : s.part.settled Config.replySlots) :
    ∃ q, execCrcErrorFrame port bytes s = .next { s with part := q } ∧ q.settled Config.replySlots := by
  refine ⟨_, rfl, ?_⟩
  dsimp only
  split
  · exact setCrcFlag_settled hs
  · exact hs

/-- The part at POWER_ON keeps every bound: its queues and lists are empty, its counts 0 (R61, R192, R198). -/
theorem powerOn_settled (strap : BitVec 3) : Part.settled Config.replySlots { env := { strap := strap } } := by
  obtain ⟨bounded, -⟩ := invariantsAtReset
  exact ⟨{ ((bounded_iff _).mp bounded).1 with }, rfl⟩

/-- A loop entry that a write carries keeps the loop table's relations (R89). -/
theorem loopsFit_of_written {e : Env} {w : WriteOperand} {l : Loop} {x : Option LoopEntry} (fit : e.tab.LoopsFit)
    (h : relate (markedEntry w (parseLoop e.own)) (loopRelationsOk e.tab l) = some x) : (e.withLoop l x).tab.LoopsFit :=
  loopsFit_withLoop fit fun y hy => by
    subst hy
    obtain ⟨read, related⟩ := relate_markedEntry h
    exact ⟨parseLoop_bounds read, related⟩

/-- Every command leaves the part within the bounds. -/
theorem exec_settled (i : Instr) (s : State) (hs : s.part.settled Config.replySlots) :
    ∃ q, exec i s = .next { s with part := q } ∧ q.settled Config.replySlots := by
  cases i with
  | powerOn strap => exact ⟨_, rfl, powerOn_settled strap⟩
  | flashOn => exact ⟨_, rfl, headFrame_onBlocks_settled flashOnOwner_settled rfl hs⟩
  | dark => exact ⟨_, rfl, headFrame_onBlocks_settled darkOwner_settled rfl hs⟩
  | start => exact ⟨_, rfl, headFrame_onBlocks_settled startOwner_settled rfl hs⟩
  | stop => exact ⟨_, rfl, headFrame_onBlocks_settled stopOwner_settled rfl hs⟩
  | restart => exact ⟨_, rfl, headFrame_restart_settled hs⟩
  | clearFault => exact ⟨_, rfl, headFrame_onBlocks_settled clearFaultOwner_settled rfl hs⟩
  | take => exact ⟨_, rfl, headFrame_onBlocks_settled takeOwner_settled rfl hs⟩
  | release => exact ⟨_, rfl, headFrame_onBlocks_settled releaseOwner_settled rfl hs⟩
  | goStage =>
    exact ⟨_, rfl, headFrame_onBlocks_settled (fun h => directedOwner_settled (goStageTests_settled h) h) rfl hs⟩
  | hold => exact ⟨_, rfl, headFrame_onBlocks_settled (fun h => directedOwner_settled (holdTests_settled h) h) rfl hs⟩
  | planSelect => exact ⟨_, rfl, headFrame_onBlocks_settled planSelectOwner_settled rfl hs⟩
  | softDemand => exact ⟨_, rfl, headFrame_onBlocks_settled softDemandOwner_settled rfl hs⟩
  | priorityEnable => exact ⟨_, rfl, headFrame_onBlocks_settled priorityEnableOwner_settled rfl hs⟩
  | cancelTram => exact ⟨_, rfl, headFrame_onBlocks_settled cancelTramOwner_settled rfl hs⟩
  | keepaliveArm => exact ⟨_, rfl, headFrame_onBlocks_settled keepaliveArmOwner_settled rfl hs⟩
  | keepaliveRefresh => exact ⟨_, rfl, headFrame_onBlocks_settled keepaliveRefreshOwner_settled rfl hs⟩
  | tableWriteGroup => exact ⟨_, rfl, write_settled (fun _ h => storeGroup_settled h) (fun _ _ _ => rfl) hs⟩
  | tableWriteConflict | tableWriteIntergreen | tableWriteStage | tableWritePermitted | tableWritePlan | tableWriteRoute =>
    exact ⟨_, rfl, write_settled (fun _ h => storeOnly_settled (fun _ => rfl) (fun _ => rfl) h) (fun _ _ _ => rfl) hs⟩
  | tableWriteLoop =>
    exact ⟨_, rfl, write_settled (fun written h => storeLoop_settled (loopsFit_of_written hs.1.loops.fit written) h)
      (fun _ _ _ => rfl) hs⟩
  | tableWriteAssignment => exact ⟨_, rfl, write_settled (fun _ h => storeAssign_settled h) (fun _ _ _ => rfl) hs⟩
  | tableWriteButton => exact ⟨_, rfl, write_settled (fun _ h => storeButton_settled h) storeButton_own hs⟩
  | tableWriteSettings => exact ⟨_, rfl, write_settled (fun _ h => storeSettings_settled h) storeSettings_own hs⟩
  | tableRead => exact ⟨_, rfl, headFrame_onBlocks_settled readOwner_settled (readDecoding_isRestart _) hs⟩
  | queryStatus => exact ⟨_, rfl, headFrame_onBlocks_settled statusOwner_settled rfl hs⟩
  | queryCounts => exact ⟨_, rfl, headFrame_onBlocks_settled countsOwner_settled rfl hs⟩
  | queryFaultRecord => exact ⟨_, rfl, headFrame_onBlocks_settled (fun h => h) rfl hs⟩
  | queryTramTable => exact ⟨_, rfl, headFrame_onBlocks_settled tramTableOwner_settled rfl hs⟩
  | badKindFrame => exact execBadKindFrame_settled hs
  | loopCounts => exact ⟨_, rfl, fieldFrame_keepsSettled _ (act_keepsSettled takeLoopCounts_within) _ hs⟩
  | telegramCheckIn | telegramDoorClosed | telegramCheckOut | telegramCancel =>
    exact ⟨_, rfl, telegramFrame_keepsSettled _ _ _ hs⟩
  | lampStatus => exact ⟨_, rfl, fieldFrame_keepsSettled _ (lampBlock_keepsSettled _ _) _ hs⟩
  | flashKey => exact ⟨_, rfl, fieldFrame_keepsSettled _ (act_keepsSettled flashKeyRun_within) _ hs⟩
  | manualOn => exact ⟨_, rfl, fieldFrame_keepsSettled _ (act_keepsSettled manualOnRun_within) _ hs⟩
  | manualOff => exact ⟨_, rfl, fieldFrame_keepsSettled _ (act_keepsSettled manualOffRun_within) _ hs⟩
  | stepKey => exact ⟨_, rfl, fieldFrame_keepsSettled _ (act_keepsSettled stepRun_within) _ hs⟩
  | pushButton => exact ⟨_, rfl, fieldFrame_keepsSettled _ (act_keepsSettled pushRun_within) _ hs⟩
  | sensorReading => exact ⟨_, rfl, fieldFrame_keepsSettled _ (onRt_keepsSettled sensorRun_settled) _ hs⟩
  | foreignAspect => exact ⟨_, rfl, dropForeign_keepsSettled _ _ hs⟩
  | forwardFrame => exact execForwardFrame_settled hs
  | crcErrorFrame port => exact execCrcErrorFrame_settled (port := port) hs
  | headPortGrant =>
    exact ⟨_, rfl, onRt_keepsSettled (fun h => ⟨headGrant_within h.1, by simpa using h.2⟩) hs⟩
  | fieldPortGrant =>
    exact ⟨_, rfl, onRt_keepsSettled (fun h => ⟨fieldGrant_within h.1, by simpa using h.2⟩) hs⟩
  | linkTimeout =>
    exact ⟨_, rfl, whenDue_keepsSettled _ (onRt_keepsSettled fun h => ⟨linkDown_within h.1, by simpa using h.2⟩) hs⟩
  | forwardAgeDiscard =>
    exact ⟨_, rfl, whenDue_keepsSettled _ (onRt_keepsSettled fun h => ⟨ageDiscard_within h.1, by simpa using h.2⟩) hs⟩
  | minGreenMet =>
    exact ⟨_, rfl, whenDue_keepsSettled _ (onRt_keepsSettled fun h => ⟨minGreenRun_within h.1, by simpa using h.2⟩) hs⟩
  | sensorFreshnessExpiry => exact ⟨_, rfl, whenDue_keepsSettled _ (onRt_keepsSettled withLamp_settled) hs⟩
  | settlingWindowEnd => exact ⟨_, rfl, whenDue_keepsSettled _ (onRt_keepsSettled settlingEnd_settled) hs⟩
  | startFlashEnd => exact ⟨_, rfl, whenDue_keepsSettled _ (act_keepsSettled startupAllRed_within) hs⟩
  | startupAllRedEnd => exact ⟨_, rfl, whenDue_keepsSettled _ (act_keepsSettled firstStart_within) hs⟩
  | shutdownAllRedEnd =>
    exact ⟨_, rfl, whenDue_keepsSettled _ (act_keepsSettled fun h => setMode_within (flashOrder_within h)) hs⟩
  | keepaliveWindowExpiry => exact ⟨_, rfl, whenDue_keepsSettled _ (act_keepsSettled windowRun_within) hs⟩
  | keepaliveArmExpiry => exact ⟨_, rfl, whenDue_keepsSettled _ (act_keepsSettled armRun_within) hs⟩
  | minEnd => exact ⟨_, rfl, whenDue_keepsSettled _ (act_keepsSettled minEndRun_within) hs⟩
  | maxOut | truncationPointReached => exact ⟨_, rfl, whenDue_keepsSettled _ (act_keepsSettled fun h => h) hs⟩
  | extensionHoldEnd => exact ⟨_, rfl, whenDue_keepsSettled _ (act_keepsSettled holdEnds_within) hs⟩
  | gapTimerExpiry => exact ⟨_, rfl, whenDue_keepsSettled _ (act_keepsSettled gapExpiry_within) hs⟩
  | demandDelayExpiry => exact ⟨_, rfl, whenDue_keepsSettled _ (act_keepsSettled delayExpiry_within) hs⟩
  | cardSilenceExpiry => exact ⟨_, rfl, whenDue_keepsSettled _ (act_keepsSettled cardSilence_within) hs⟩
  | tuneEchoExpiry => exact ⟨_, rfl, whenDue_keepsSettled _ (act_keepsSettled tuneEcho_within) hs⟩
  | tuneRetryExpiry => exact ⟨_, rfl, whenDue_keepsSettled _ (act_keepsSettled tuneRetry_within) hs⟩
  | stopLimitExpiry => exact ⟨_, rfl, whenDue_keepsSettled _ (act_keepsSettled stopLimitRun_within) hs⟩
  | windowEndExpiry => exact ⟨_, rfl, whenDue_keepsSettled _ (act_keepsSettled windowEndRun_within) hs⟩
  | guardEndExpiry => exact ⟨_, rfl, whenDue_keepsSettled _ (act_keepsSettled guardEndRun_within) hs⟩
  | lockoutExpiry => exact ⟨_, rfl, whenDue_keepsSettled _ (act_keepsSettled lockoutRun_within) hs⟩
  | groupEnterStarting => exact ⟨_, rfl, whenDue_keepsSettled _ (actQuiet_keepsSettled enterStarting_within) hs⟩
  | groupEnterGreen => exact ⟨_, rfl, whenDue_keepsSettled _ (act_keepsSettled enterGreen_within) hs⟩
  | clearingEnd => exact ⟨_, rfl, whenDue_keepsSettled _ (act_keepsSettled clearingRun_within) hs⟩
  | refreshTimerExpiry => exact ⟨_, rfl, whenDue_keepsSettled _ (actQuiet_keepsSettled refreshExpiry_within) hs⟩
  | moduleSilenceExpiry => exact ⟨_, rfl, whenDue_keepsSettled _ (actQuiet_keepsSettled silenceExpiry_within) hs⟩
  | confirmTimeout => exact ⟨_, rfl, whenDue_keepsSettled _ (actQuiet_keepsSettled confirmExpiry_within) hs⟩
  | qualificationTimerExpiry => exact ⟨_, rfl, whenDue_keepsSettled _ (actQuiet_keepsSettled qualifyExpiry_within) hs⟩

/-- Settles O7: every command keeps the bounds by `exec_settled`, and a tick changes junction time alone. -/
theorem capacitiesKeptByStep : Obligations.CapacitiesKeptByStep := by
  intro s t h hst
  rw [step] at hst
  have hs := (bounded_iff _).mp h
  cases hp : s.pending with
  | nil =>
    rw [hp] at hst
    cases hst
    exact h
  | cons i rest =>
    rw [hp] at hst
    obtain ⟨q, hq, settled⟩ := exec_settled i { s with pending := rest } hs
    obtain rfl : _ = t := Host.Outcome.next.inj (hq.symm.trans hst)
    exact (bounded_iff _).mpr settled

end

end Sys2Proof.Machine

/-! SUPPORT. Proofs of the statements of the family 02_safety_tables_and_the_conflict_monitor: a row's frame is decoded from its
bytes as that row. -/

namespace Sys2Proof.Machine

/-! ### Gathering a frame from its bytes (R178, R180) -/

theorem crcBytes_length (bs : List Byte) : (crcBytes bs).length = 2 := rfl

/-- The bytes of a frame that passes the checks are gathered as that frame. -/
theorem gather_encodeFrame {f : Frame} (h : frameOk f = true) : gather (encodeFrame f) = .valid f := by
  have bound : f.payload.length ≤ 240 := by
    simp only [frameOk, Bool.and_eq_true, decide_eq_true_eq] at h
    exact h.2
  have length : (b8 f.payload.length).toNat = f.payload.length := by
    simp only [b8, BitVec.toNat_ofNat]
    exact Nat.mod_eq_of_lt (by omega)
  simp only [gather, encodeFrame, afterPreamble, frameBody, List.cons_append, checkBody, length, List.take_left, List.drop_left,
    List.length_append, crcBytes_length, h, and_self, if_true]

theorem decodeRing_encodeFrame {own : Byte} {p : Port} {f : Frame} (h : frameOk f = true) :
    decodeRing own p (encodeFrame f) = some (frameCommand own p f) := by
  rw [decodeRing, gather_encodeFrame h]

/-! ### Management rows (R181, R186, R187) -/

/-- `f` is the frame of row `i` with header `h` and at most `n` payload bytes, and is no field row's and no aspect frame. -/
structure ManagementFrame (h : Header) (n : Nat) (i : Instr) (f : Frame) : Prop where
  frame : frameOf i = some (.head, f)
  header : f.header = h
  length : f.payload.length ≤ n
  aspect : (f.kind == kindAspectSet) = false
  field : fieldKindLength f.kind = none
  row : commandOf f = i

theorem managementRows_frames (h : Header) (rest : List Byte) :
    ∀ i ∈ managementRows h rest, ∃ f, ManagementFrame h (rest.length + 1) i f := by
  simp only [managementRows, List.forall_mem_cons, List.not_mem_nil, IsEmpty.forall_iff, implies_true, and_true]
  and_intros <;> exact ⟨_, rfl, rfl, by simp [Header.frame], rfl, rfl, rfl⟩

theorem wholePayloadRows_frames (h : Header) (pl : List Byte) :
    ∀ i ∈ [Instr.keepaliveArm h pl, .keepaliveRefresh h pl, .tableRead h pl], ∃ f, ManagementFrame h pl.length i f := by
  simp only [List.forall_mem_cons, List.not_mem_nil, IsEmpty.forall_iff, implies_true, and_true]
  and_intros <;> exact ⟨_, rfl, rfl, Nat.le_refl _, rfl, rfl, rfl⟩

/-- A management frame for the part, or broadcast, is decoded as its row. -/
theorem ManagementFrame.decoded {h : Header} {n : Nat} {i : Instr} {f : Frame} {own : Byte} (hf : ManagementFrame h n i f)
    (hn : n ≤ 240) (hdst : dstOk h.dst = true) (hown : h.dst = own ∨ h.dst = 127#8) :
    ∃ f, frameOf i = some (.head, f) ∧ decodeRing own .head (encodeFrame f) = some i := by
  have dst : f.dst = h.dst := congrArg Header.dst hf.header
  have ok : frameOk f = true := by simp [frameOk, dst, hdst, hf.length.trans hn]
  refine ⟨f, hf.frame, ?_⟩
  rw [decodeRing_encodeFrame ok]
  simp [frameCommand, beq_eq_false_iff_ne.mp hf.aspect, hf.field, dst, hown, hf.row]

/-! ### Field rows (R181) -/

/-- A frame of a field kind and its length is decoded at the field port as the row that `fieldCommandOf` names. -/
theorem fieldFrame_decoded {own kind : Byte} {h : Header} {pl : List Byte} {i : Instr} (hdst : dstOk h.dst = true)
    (hl : pl.length ≤ 240) (frame : frameOf i = some (.field, h.frame kind pl)) (hk : kind ≠ kindAspectSet)
    (row : fieldCommandOf (h.frame kind pl) = i) :
    ∃ f, frameOf i = some (.field, f) ∧ decodeRing own .field (encodeFrame f) = some i := by
  have ok : frameOk (h.frame kind pl) = true := by simp [frameOk, Header.frame, hdst, hl]
  refine ⟨_, frame, ?_⟩
  rw [decodeRing_encodeFrame ok, frameCommand, if_neg (show (h.frame kind pl).kind ≠ kindAspectSet from hk), row]

/-- The telegram row that `fieldRows` lists is the one that `fieldCommandOf` names by the type byte. -/
theorem fieldCommandOf_telegram {h : Header} {pl : List Byte} (hl : pl.length = 9) :
    fieldCommandOf (h.frame kindTramTelegram pl) =
      match (pl.getD 1 0#8).toNat with
      | 1 => .telegramDoorClosed h pl
      | 2 => .telegramCheckOut h pl
      | 3 => .telegramCancel h pl
      | _ => .telegramCheckIn h pl := by
  have fits : fieldKindLength kindTramTelegram = some pl.length := by rw [hl]; rfl
  simp only [fieldCommandOf, Header.frame, if_pos fits]
  rfl

theorem fieldRows_decoded {own : Byte} {h : Header} {pl : List Byte} (hdst : dstOk h.dst = true) :
    ∀ i ∈ fieldRows h pl, ∃ f, frameOf i = some (.field, f) ∧ decodeRing own .field (encodeFrame f) = some i := by
  intro i hi
  simp only [fieldRows, List.mem_append, List.mem_ite_nil_right] at hi
  obtain (((⟨hl, hi⟩ | ⟨hl, hi⟩) | ⟨hl, hi⟩) | ⟨hl, hi⟩) | ⟨hl, hi⟩ := hi
  · have fits : ∀ {k : Byte}, fieldKindLength k = some 16 → fieldKindLength k = some pl.length := fun hk => by rw [hl]; exact hk
    obtain rfl | rfl := by simpa using hi
    · exact fieldFrame_decoded hdst (by omega) rfl (by decide) (if_pos (fits rfl))
    · exact fieldFrame_decoded hdst (by omega) rfl (by decide) (if_pos (fits rfl))
  · have named : frameOf i = some (.field, h.frame kindTramTelegram pl) ∧ fieldCommandOf (h.frame kindTramTelegram pl) = i := by
      rw [fieldCommandOf_telegram hl]
      generalize pl.getD 1 0#8 = code at hi
      split at hi
      iterate 3
        · obtain rfl := List.mem_singleton.mp hi
          exact ⟨rfl, rfl⟩
      · next one two three =>
        have other : ∀ {b : Byte}, code ≠ b → code.toNat ≠ b.toNat := fun hb hn => hb (BitVec.eq_of_toNat_eq hn)
        have no1 : code.toNat ≠ 1 := other one
        have no2 : code.toNat ≠ 2 := other two
        have no3 : code.toNat ≠ 3 := other three
        obtain rfl := List.mem_singleton.mp hi
        refine ⟨rfl, ?_⟩
        split
        iterate 3 · contradiction
        rfl
    exact fieldFrame_decoded hdst (by omega) named.1 (by decide) named.2
  · obtain rfl := List.length_eq_zero_iff.mp hl
    obtain rfl | rfl | rfl | rfl := by simpa using hi
    all_goals exact fieldFrame_decoded hdst (by decide) rfl (by decide) rfl
  · obtain rfl := by simpa using hi
    exact fieldFrame_decoded hdst (by omega) rfl (by decide) (if_pos (by rw [Header.frame, hl]; rfl))
  · obtain rfl := by simpa using hi
    exact fieldFrame_decoded hdst (by omega) rfl (by decide) (if_pos (by rw [Header.frame, hl]; rfl))

/-- Settles O5: a frame that passes the checks is gathered from its bytes, and each row's kind and codes name that row. -/
theorem frameRowsRoundTrip : Obligations.FrameRowsRoundTrip := by
  refine ⟨fun own h rest hdst hown => ⟨fun hl i hi => ?_, fun hl i hi => ?_⟩,
    fun own h pl hdst hl => ⟨fieldRows_decoded hdst, fun p => ?_⟩⟩
  · obtain ⟨f, hf⟩ := managementRows_frames h rest i hi
    exact hf.decoded (by omega) hdst hown
  · obtain ⟨f, hf⟩ := wholePayloadRows_frames h rest i hi
    exact hf.decoded hl hdst hown
  · rw [decodeRing_encodeFrame (by simp [frameOk, Header.frame, hdst, hl])]
    rfl

end Sys2Proof.Machine

/-! SUPPORT. Proofs of the statements of the family 02_safety_tables_and_the_conflict_monitor: the steps of the consistency check
report the first failing subject. -/

namespace Sys2Proof.Machine

/-! ### The first element of an ordered list that fails a test -/

section
variable {α β : Type} [LinearOrder α] {l : List α} {x : β}

/-- In a strictly ascending list the elements before a split are those below the element at it. -/
theorem split_iff_of_ascending (hl : l.Pairwise (· < ·)) {P Q : α → Prop} :
    (∃ l₁ a l₂, l = l₁ ++ a :: l₂ ∧ P a ∧ ∀ y ∈ l₁, Q y) ↔ ∃ a ∈ l, P a ∧ ∀ y ∈ l, y < a → Q y := by
  constructor
  · rintro ⟨l₁, a, l₂, rfl, ha, before⟩
    obtain ⟨-, tail, -⟩ := List.pairwise_append.mp hl
    refine ⟨a, by simp, ha, fun y hy hya => before y ?_⟩
    obtain hy | rfl | hy := by simpa using hy
    · exact hy
    · exact absurd hya (lt_irrefl _)
    · exact absurd hya (lt_asymm ((List.pairwise_cons.mp tail).1 y hy))
  · rintro ⟨a, mem, ha, below⟩
    obtain ⟨l₁, l₂, rfl⟩ := List.append_of_mem mem
    obtain ⟨-, -, across⟩ := List.pairwise_append.mp hl
    exact ⟨l₁, a, l₂, rfl, ha, fun y hy => below y (by simp [hy]) (across y hy a (.head _))⟩

theorem findSome?_ascending (hl : l.Pairwise (· < ·)) {f : α → Option β} :
    l.findSome? f = some x ↔ ∃ a ∈ l, f a = some x ∧ ∀ y ∈ l, y < a → f y = none :=
  List.findSome?_eq_some_iff.trans (split_iff_of_ascending hl)

theorem find?_ascending (hl : l.Pairwise (· < ·)) {p : α → Bool} {a : α} :
    l.find? p = some a ↔ a ∈ l ∧ p a = true ∧ ∀ y ∈ l, y < a → p y = false := by
  rw [List.find?_eq_findSome?_guard, findSome?_ascending hl]
  simp only [Option.guard_eq_some_iff, Option.guard_eq_none_iff]
  constructor
  · rintro ⟨b, mem, ⟨rfl, hp⟩, below⟩
    exact ⟨mem, hp, below⟩
  · rintro ⟨mem, hp, below⟩
    exact ⟨a, mem, ⟨rfl, hp⟩, below⟩

/-- A search for a pair in an ascending list: by first component, then by second. -/
theorem pairSearch_ascending (hl : l.Pairwise (· < ·)) {q : α → α → Bool} {make : α → α → β} :
    l.findSome? (fun g => (l.find? (q g)).map (make g)) = some x ↔
      ∃ g ∈ l, ∃ h ∈ l, q g h = true ∧ (∀ g' ∈ l, ∀ h' ∈ l, g' < g ∨ g' = g ∧ h' < h → q g' h' = false) ∧ x = make g h := by
  simp only [findSome?_ascending hl, Option.map_eq_some_iff, Option.map_eq_none_iff, find?_ascending hl, List.find?_eq_none,
    Bool.not_eq_true]
  constructor
  · rintro ⟨g, hg, ⟨h, ⟨hh, hq, second⟩, rfl⟩, first⟩
    refine ⟨g, hg, h, hh, hq, fun g' hg' h' hh' before => ?_, rfl⟩
    obtain below | ⟨rfl, below⟩ := before
    · exact first g' hg' below h' hh'
    · exact second h' hh' below
  · rintro ⟨g, hg, h, hh, hq, first, rfl⟩
    exact ⟨g, hg, ⟨h, ⟨hh, hq, fun h' hh' below => first g hg h' hh' (.inr ⟨rfl, below⟩)⟩, rfl⟩,
      fun g' hg' below h' hh' => first g' hg' h' hh' (.inl below)⟩

end

theorem findSome?_flatMap {α β γ : Type} (l : List α) (k : α → List β) (f : β → Option γ) :
    (l.flatMap k).findSome? f = l.findSome? fun a => (k a).findSome? f := by
  induction l with
  | nil => rfl
  | cons a l ih =>
    rw [List.flatMap_cons, List.findSome?_append, ih, List.findSome?_cons]
    cases (k a).findSome? f <;> rfl

theorem findSome?_finRange {n : Nat} {β : Type} {f : Fin n → Option β} {x : β} :
    (List.finRange n).findSome? f = some x ↔ ∃ i, f i = some x ∧ ∀ j < i, f j = none := by
  simp [findSome?_ascending (List.pairwise_lt_finRange n)]

/-! ### Steps 1 and 2: pairs of groups, row by row (R25, R26) -/

/-- A test of the pairs marked conflicting. -/
def markedTest (t : Tables) (f : Group → Group → Option Inconsistency) (p : Group × Group) : Option Inconsistency :=
  if t.conflicts p.1 p.2 then f p.1 p.2 else none

theorem markedTest_eq_none {t : Tables} {f : Group → Group → Option Inconsistency} {i j : Group} :
    markedTest t f (i, j) = none ↔ (t.conflicts i j = true → f i j = none) := by
  simp [markedTest]

theorem markedTest_eq_some {t : Tables} {f : Group → Group → Option Inconsistency} {i j : Group} {x : Inconsistency} :
    markedTest t f (i, j) = some x ↔ t.conflicts i j = true ∧ f i j = some x := by
  simp [markedTest]

theorem markedPairs_first {t : Tables} {f : Group → Group → Option Inconsistency} {x : Inconsistency} :
    groupPairs.findSome? (markedTest t f) = some x ↔ ∃ i j : Group, t.conflicts i j = true ∧ f i j = some x ∧
      ∀ i' j' : Group, t.conflicts i' j' = true → i' < i ∨ (i' = i ∧ j' < j) → f i' j' = none := by
  simp only [groupPairs, findSome?_flatMap, List.findSome?_map, allGroups, findSome?_finRange, List.findSome?_eq_none_iff,
    List.mem_finRange, true_imp_iff, Function.comp_apply, markedTest_eq_none, markedTest_eq_some]
  constructor
  · rintro ⟨i, ⟨j, ⟨marked, hf⟩, row⟩, rows⟩
    refine ⟨i, j, marked, hf, fun i' j' marked' before => ?_⟩
    obtain below | ⟨rfl, below⟩ := before
    · exact rows i' below j' marked'
    · exact row j' below marked'
  · rintro ⟨i, j, marked, hf, first⟩
    exact ⟨i, ⟨j, ⟨marked, hf⟩, fun j' below marked' => first i j' marked' (.inr ⟨rfl, below⟩)⟩,
      fun i' below j' marked' => first i' j' marked' (.inl below)⟩

theorem markedPairs_none {t : Tables} {f : Group → Group → Option Inconsistency} :
    groupPairs.findSome? (markedTest t f) = none ↔ ∀ i j : Group, t.conflicts i j = true → f i j = none := by
  simp only [groupPairs, findSome?_flatMap, List.findSome?_map, allGroups, List.findSome?_eq_none_iff, List.mem_finRange,
    true_imp_iff, Function.comp_apply, markedTest_eq_none]

/-- Step 1's tests of a pair that is marked conflicting (R25). -/
def conflictTest (t : Tables) (i j : Group) : Option Inconsistency :=
  if i = j then some ⟨1, .selfConflict, i.val + 1, 0, 0⟩
  else if t.isDefined i = false ∨ t.isDefined j = false then some ⟨1, .conflictUndefined, i.val + 1, j.val + 1, 0⟩
  else if t.conflicts j i = false then some ⟨1, .asymmetric, i.val + 1, j.val + 1, 0⟩ else none

theorem checkConflicts_eq (t : Tables) : checkConflicts t = groupPairs.findSome? (markedTest t (conflictTest t)) := by
  simp only [checkConflicts, Bool.or_eq_true, Bool.not_eq_true']
  rfl

/-- Step 2's test of a pair that is marked conflicting (R26). -/
def intergreenTest (t : Tables) (i j : Group) : Option Inconsistency :=
  match (t.intergreen.get i).get j with
  | none => some ⟨2, .igMissing, i.val + 1, j.val + 1, 0⟩
  | some n => if n < t.clearing i + t.ra j then some ⟨2, .igTooShort, i.val + 1, j.val + 1, t.clearing i + t.ra j⟩ else none

theorem checkIntergreens_eq (t : Tables) : checkIntergreens t = groupPairs.findSome? (markedTest t (intergreenTest t)) := rfl

/-! ### Step 3: the green sets (R27) -/

theorem mem_greenSet {t : Tables} {s : Stage} {g : Group} : g ∈ t.greenSet s ↔ t.inStage s g = true := by
  unfold Tables.greenSet Tables.inStage
  split <;> simp [allGroups]

theorem greenSet_ascending (t : Tables) (s : Stage) : (t.greenSet s).Pairwise (· < ·) := by
  unfold Tables.greenSet
  split
  · exact (List.pairwise_lt_finRange 24).filter _
  · exact .nil

/-- What steps 3 and 4 do with a list of groups: the first that fails a test, or else the first pair that fails one. -/
def firstFlaw (l : List Group) (p : Group → Bool) (one : Group → Inconsistency) (q : Group → Group → Bool)
    (two : Group → Group → Inconsistency) : Option Inconsistency :=
  match l.find? p with
  | some g => some (one g)
  | none => l.findSome? fun g => (l.find? (q g)).map (two g)

section
variable {l : List Group} {p : Group → Bool} {one : Group → Inconsistency} {q : Group → Group → Bool}
  {two : Group → Group → Inconsistency} {x : Inconsistency} {flawed : Group → Prop} {clash : Group → Group → Prop}

theorem firstFlaw_eq_none (hf : ∀ g, flawed g ↔ g ∈ l ∧ p g = true) (hc : ∀ g h, clash g h ↔ g ∈ l ∧ h ∈ l ∧ q g h = true) :
    firstFlaw l p one q two = none ↔ (∀ g, ¬ flawed g) ∧ ∀ g h, ¬ clash g h := by
  simp only [hf, hc]
  unfold firstFlaw
  split
  · next g found =>
    refine ⟨nofun, fun ⟨clean, _⟩ => ?_⟩
    exact absurd ⟨List.mem_of_find?_eq_some found, List.find?_some found⟩ (clean g)
  · next clean =>
    simp only [List.find?_eq_none] at clean
    simp only [List.findSome?_eq_none_iff, Option.map_eq_none_iff, List.find?_eq_none, not_and]
    exact ⟨fun h => ⟨clean, fun g k hg hk => h g hg k hk⟩, fun h g hg k hk => h.2 g k hg hk⟩

theorem firstFlaw_eq_some (hl : l.Pairwise (· < ·)) (hf : ∀ g, flawed g ↔ g ∈ l ∧ p g = true)
    (hc : ∀ g h, clash g h ↔ g ∈ l ∧ h ∈ l ∧ q g h = true) : firstFlaw l p one q two = some x ↔
    (∃ g, flawed g ∧ (∀ g' : Group, g' < g → ¬ flawed g') ∧ x = one g) ∨
      (∀ g, ¬ flawed g) ∧ ∃ g h, clash g h ∧ (∀ g' h' : Group, g' < g ∨ (g' = g ∧ h' < h) → ¬ clash g' h') ∧
        x = two g h := by
  simp only [hf, hc]
  unfold firstFlaw
  split
  · next g found =>
    obtain ⟨mem, hit, first⟩ := (find?_ascending hl).mp found
    constructor
    · rintro ⟨⟩
      exact .inl ⟨g, ⟨mem, hit⟩, fun g' below ⟨mem', hit'⟩ => by simp [first g' mem' below] at hit', rfl⟩
    · rintro (⟨g', ⟨mem', hit'⟩, first', rfl⟩ | ⟨clean, -⟩)
      · obtain below | rfl | above := lt_trichotomy g' g
        · simp [first g' mem' below] at hit'
        · rfl
        · exact absurd ⟨mem, hit⟩ (first' g above)
      · exact absurd ⟨mem, hit⟩ (clean g)
  · next clean =>
    simp only [List.find?_eq_none] at clean
    rw [pairSearch_ascending hl]
    constructor
    · rintro ⟨g, hg, h, hh, hit, first, rfl⟩
      exact .inr ⟨fun k ⟨hk, hit'⟩ => clean k hk hit', g, h, ⟨hg, hh, hit⟩,
        fun g' h' before ⟨hg', hh', hit'⟩ => by simp [first g' hg' h' hh' before] at hit', rfl⟩
    · rintro (⟨g, ⟨hg, hit⟩, -⟩ | ⟨-, g, h, ⟨hg, hh, hit⟩, first, rfl⟩)
      · exact absurd hit (clean g hg)
      · exact ⟨g, hg, h, hh, hit, fun g' hg' h' hh' before =>
          Bool.not_eq_true _ ▸ fun hit' => first g' h' before ⟨hg', hh', hit'⟩, rfl⟩

end

/-- Step 3's look at one stage (R27). -/
def stageFlaw (t : Tables) (s : Stage) : Option Inconsistency :=
  firstFlaw (t.greenSet s) (fun g => !t.isDefined g) (fun g => ⟨3, .stageGroupUndefined, number s, number g, 0⟩)
    (fun g h => decide (g.val < h.val) && t.conflicts g h) (fun g h => ⟨3, .stageConflict, number s, number g, number h⟩)

theorem checkStages_eq (t : Tables) : checkStages t = allStages.findSome? (stageFlaw t) := rfl

section
variable {t : Tables} {s : Stage} {g h : Group}

theorem undefined_iff : t.inStage s g = true ∧ t.isDefined g = false ↔ g ∈ t.greenSet s ∧ (!t.isDefined g) = true := by
  simp [mem_greenSet]

theorem clash_iff : g < h ∧ t.inStage s g = true ∧ t.inStage s h = true ∧ t.conflicts g h = true ↔
    g ∈ t.greenSet s ∧ h ∈ t.greenSet s ∧ (decide (g.val < h.val) && t.conflicts g h) = true := by
  simp only [mem_greenSet, Bool.and_eq_true, decide_eq_true_eq, Fin.lt_def]
  tauto

/-- A stage passes step 3 when it has neither an undefined group nor a conflicting pair in its green set. -/
theorem stageFlaw_eq_none : stageFlaw t s = none ↔ ¬ ((∃ g, t.inStage s g = true ∧ t.isDefined g = false) ∨
    ∃ g h : Group, g < h ∧ t.inStage s g = true ∧ t.inStage s h = true ∧ t.conflicts g h = true) := by
  rw [stageFlaw, firstFlaw_eq_none (fun _ => undefined_iff) fun _ _ => clash_iff, not_or, not_exists, not_exists]
  simp only [not_exists]

end

/-! ### Step 4: the lamp mappings (R28) -/

theorem checkMappings_eq (t : Tables) : checkMappings t =
    firstFlaw (allGroups.filter t.isDefined) (fun g => (t.mapping g).isNone) (fun g => ⟨4, .groupUnmapped, number g, 0, 0⟩)
      (fun g h => decide (g.val < h.val) && t.mapping g == t.mapping h)
      (fun g h => ⟨4, .mappingShared, number g, number h, 0⟩) := rfl

theorem bare_iff {t : Tables} {g : Group} : t.isDefined g = true ∧ t.mapping g = none ↔
    g ∈ allGroups.filter t.isDefined ∧ (t.mapping g).isNone = true := by
  simp [allGroups]

theorem shared_iff {t : Tables} {g h : Group} :
    g < h ∧ t.isDefined g = true ∧ t.isDefined h = true ∧ t.mapping g = t.mapping h ↔
      g ∈ allGroups.filter t.isDefined ∧ h ∈ allGroups.filter t.isDefined ∧
        (decide (g.val < h.val) && t.mapping g == t.mapping h) = true := by
  simp only [allGroups, List.mem_filter, List.mem_finRange, true_and, Bool.and_eq_true, decide_eq_true_eq, beq_iff_eq, Fin.lt_def]
  tauto

/-! ### Steps 5 and 6: a plan's stages and transitions (R29, R30) -/

/-- The first empty stage of a sequence, by its place. -/
theorem firstEmpty_eq_some {t : Tables} {l : List Stage} {s : Stage} : l.find? (fun s => (t.stages.get s).isNone) = some s ↔
    ∃ pre post, l = pre ++ s :: post ∧ t.stages.get s = none ∧ ∀ s' ∈ pre, t.stages.get s' ≠ none := by
  simp only [List.find?_eq_some_iff_append, Option.isNone_iff_eq_none, Bool.not_eq_true', Option.isNone_eq_false_iff,
    Option.isSome_iff_ne_none]
  exact ⟨fun ⟨empty, pre, post, split, loaded⟩ => ⟨pre, post, split, empty, loaded⟩,
    fun ⟨pre, post, split, empty, loaded⟩ => ⟨empty, pre, post, split, loaded⟩⟩

theorem firstEmpty_eq_none {t : Tables} {l : List Stage} :
    l.find? (fun s => (t.stages.get s).isNone) = none ↔ ∀ s ∈ l, t.stages.get s ≠ none := by
  simp [List.find?_eq_none]

theorem checkPlanStages_eq_some {t : Tables} {p : Plan} {entry : Option PlanEntry} {x : Inconsistency} :
    checkPlanStages t p entry = some x ↔
      (entry = none ∧ x = ⟨5, .planEmpty, p.val + 1, 0, 0⟩) ∨ ∃ q, entry = some q ∧
        ((∃ pre s post, q.sequence = pre ++ s :: post ∧ t.stages.get s = none ∧ (∀ s' ∈ pre, t.stages.get s' ≠ none) ∧
            x = ⟨5, .planStageUndefined, p.val + 1, s.val + 1, 0⟩) ∨
          (∀ s ∈ q.sequence, t.stages.get s ≠ none) ∧ t.stages.get q.startStage = none ∧
            x = ⟨5, .startStageUndefined, p.val + 1, q.startStage.val + 1, 0⟩) := by
  cases entry with
  | none => simp [checkPlanStages, number, eq_comm]
  | some q =>
    simp only [checkPlanStages, number, reduceCtorEq, false_and, false_or, Option.some.injEq, exists_eq_left']
    cases found : q.sequence.find? fun s => (t.stages.get s).isNone with
    | some s =>
      obtain ⟨pre, post, split, empty, loaded⟩ := firstEmpty_eq_some.mp found
      constructor
      · rintro ⟨⟩
        exact .inl ⟨pre, s, post, split, empty, loaded, rfl⟩
      · rintro (⟨pre', s', post', split', empty', loaded', rfl⟩ | ⟨clean, -⟩)
        · obtain rfl : s = s' :=
            Option.some.inj (found.symm.trans (firstEmpty_eq_some.mpr ⟨pre', post', split', empty', loaded'⟩))
          rfl
        · exact absurd empty (clean s (by simp [split]))
    | none =>
      have clean := firstEmpty_eq_none.mp found
      simp only [Option.ite_none_right_eq_some, Option.isNone_iff_eq_none, Option.some.injEq]
      constructor
      · rintro ⟨empty, rfl⟩
        exact .inr ⟨clean, empty, rfl⟩
      · rintro (⟨pre, s, post, split, empty, -⟩ | ⟨-, empty, rfl⟩)
        · exact absurd empty (clean s (by simp [split]))
        · exact ⟨empty, rfl⟩

/-- The first hit of a search, by its place in the list. -/
theorem findSome?_getElem {α β : Type} {l : List α} {f : α → Option β} {x : β} : l.findSome? f = some x ↔
    ∃ (k : Nat) (a : α), l[k]? = some a ∧ f a = some x ∧ ∀ (j : Nat) (b : α), j < k → l[j]? = some b → f b = none := by
  rw [List.findSome?_eq_some_iff]
  constructor
  · rintro ⟨l₁, a, l₂, rfl, hit, before⟩
    refine ⟨l₁.length, a, by simp, hit, fun j b hj hb => before b ?_⟩
    rw [List.getElem?_append_left hj] at hb
    exact List.mem_of_getElem? hb
  · rintro ⟨k, a, ha, hit, before⟩
    obtain ⟨hk, rfl⟩ := List.getElem?_eq_some_iff.mp ha
    refine ⟨l.take k, l[k], l.drop (k + 1), by simp, hit, fun b hb => ?_⟩
    obtain ⟨j, hj, rfl⟩ := List.mem_take_iff_getElem.mp hb
    exact before j _ (by omega) (List.getElem?_eq_getElem _)

/-- The stage after place `k`, cyclically. -/
theorem rotated_getElem {l : List Stage} {k : Nat} (hk : k < l.length) :
    (l.drop 1 ++ l.take 1)[k]? = l[(k + 1) % l.length]? := by
  by_cases last : k + 1 < l.length
  · rw [Nat.mod_eq_of_lt last, List.getElem?_append_left (by simp; omega)]
    simp
  · have length : l.length = k + 1 := by omega
    rw [length, Nat.mod_self]
    cases l with
    | nil => cases hk
    | cons a l =>
      obtain rfl : l.length = k := by simpa using length
      simp

theorem cyclicPairs_getElem {l : List Stage} {k : Nat} {s s' : Stage} :
    (cyclicPairs l)[k]? = some (s, s') ↔ l[k]? = some s ∧ l[(k + 1) % l.length]? = some s' := by
  rw [cyclicPairs, List.getElem?_zip_eq_some]
  refine and_congr_right fun hs => ?_
  rw [rotated_getElem (List.getElem?_eq_some_iff.mp hs).1]

theorem checkTransitions_eq_some {t : Tables} {p : Plan} {entry : Option PlanEntry} {x : Inconsistency} :
    checkTransitions t p entry = some x ↔ ∃ q k s s', entry = some q ∧ q.sequence[k]? = some s ∧
      q.sequence[(k + 1) % q.sequence.length]? = some s' ∧ t.permits s s' = false ∧
      (∀ j a b, j < k → q.sequence[j]? = some a → q.sequence[j + 1]? = some b → t.permits a b = true) ∧
      x = ⟨6, .transitionNotPermitted, p.val + 1, s.val + 1, s'.val + 1⟩ := by
  cases entry with
  | none => simp [checkTransitions]
  | some q =>
    have next : ∀ {j k : Nat} {s : Stage}, q.sequence[k]? = some s → j < k → (j + 1) % q.sequence.length = j + 1 :=
      fun hs hj => Nat.mod_eq_of_lt (by have := (List.getElem?_eq_some_iff.mp hs).1; omega)
    simp only [checkTransitions, findSome?_getElem, Prod.exists, Prod.forall, cyclicPairs_getElem, Option.some.injEq,
      number, Option.ite_none_left_eq_some, Bool.not_eq_true, ite_eq_left_iff, reduceCtorEq, imp_false, Bool.not_eq_false]
    constructor
    · rintro ⟨k, s, s', ⟨hs, hs'⟩, ⟨barred, rfl⟩, before⟩
      exact ⟨q, k, s, s', rfl, hs, hs', barred, fun j a b hj ha hb => before j a b hj ⟨ha, (next hs hj).symm ▸ hb⟩, rfl⟩
    · rintro ⟨_, k, s, s', rfl, hs, hs', barred, before, rfl⟩
      exact ⟨k, s, s', ⟨hs, hs'⟩, ⟨barred, rfl⟩, fun j a b hj ⟨ha, hb⟩ => before j a b hj ha (next hs hj ▸ hb)⟩

/-! ### The steps in turn (R24) -/

theorem findSome?_id_cons {β : Type} (o : Option β) (os : List (Option β)) : (o :: os).findSome? id = o.or (os.findSome? id) := by
  cases o <;> rfl

/-- Settles O41: each step is a search in order, and each search's order is that of the groups, stages or places. -/
theorem conflictStepFindsFirst : Obligations.ConflictStepFindsFirst := by
  refine ⟨fun t p entry x => ⟨?_, ?_, ?_, checkPlanStages_eq_some, checkTransitions_eq_some, ?_, ?_⟩, fun t => ?_⟩
  · exact (checkIntergreens_eq t).symm ▸ markedPairs_first
  · rw [checkStages_eq, allStages, findSome?_finRange]
    refine exists_congr fun s => and_comm.trans (and_congr (forall₂_congr fun s' _ => stageFlaw_eq_none) ?_)
    exact firstFlaw_eq_some (greenSet_ascending t s) (fun _ => undefined_iff) fun _ _ => clash_iff
  · rw [checkMappings_eq]
    exact firstFlaw_eq_some ((List.pairwise_lt_finRange 24).filter _) (fun _ => bare_iff) fun _ _ => shared_iff
  · simp [checkPlan, findSome?_id_cons]
  · simp [consistency, checkPlan, findSome?_id_cons]
  · rw [checkConflicts_eq]
    exact ⟨markedPairs_none, fun x => markedPairs_first⟩

end Sys2Proof.Machine

/-! SUPPORT. Proofs of the statements of the family 02_safety_tables_and_the_conflict_monitor: the Conflict Monitor's records and
its check of a frame. -/

namespace Sys2Proof.Machine

/-! ### What a passed frame makes of a record (R32) -/

section
variable {now : Time} {clearing : Nat} {c : AspectClass} {m : MonitorRec}

theorem monitorUpdate_same (h : m.passed = some c) : monitorUpdate now clearing c m = m := if_pos h

theorem monitorUpdate_entering (hc : c = .starting ∨ c = .green) (h : m.passed ≠ some c) :
    monitorUpdate now clearing c m = ⟨some c, true, none, none, false, none⟩ := by
  obtain rfl | rfl := hc <;> simp [monitorUpdate, h]

theorem monitorUpdate_clearing_of_green (h : m.passed = some .green) : monitorUpdate now clearing .clearing m = { m with
    passed := some .clearing, clearingSeen := some now, clearingEnd := some (after now clearing), awaiting := true } := by
  simp [monitorUpdate, h]

theorem monitorUpdate_clearing_of_other (h : m.passed ≠ some .clearing) (hg : m.passed ≠ some .green) :
    monitorUpdate now clearing .clearing m = { m with passed := some .clearing } := by
  simp [monitorUpdate, h, hg]

theorem monitorUpdate_rest_of_green (h : m.passed = some .green) : monitorUpdate now clearing .rest m = { m with
    passed := some .rest, rightOfWay := false, clearingSeen := some now, clearingEnd := none, awaiting := true } := by
  simp [monitorUpdate, h]

theorem monitorUpdate_rest_of_other (h : m.passed ≠ some .rest) (hg : m.passed ≠ some .green) :
    monitorUpdate now clearing .rest m = { m with passed := some .rest, rightOfWay := false } := by
  simp [monitorUpdate, h, hg]

theorem monitorUpdate_off (h : m.passed ≠ some .off) :
    monitorUpdate now clearing .off m = ⟨some .off, false, none, none, false, none⟩ := by
  simp [monitorUpdate, h]

/-- A rest aspect makes the record of a green group await its confirmation, and no other record. -/
theorem monitorUpdate_rest_awaiting :
    (monitorUpdate now clearing .rest m).awaiting = true ↔ m.awaiting = true ∨ m.passed = some .green := by
  by_cases green : m.passed = some .green
  · simp [monitorUpdate_rest_of_green green, green]
  · by_cases rest : m.passed = some .rest
    · simp [monitorUpdate_same rest, green]
    · simp [monitorUpdate_rest_of_other rest green, green]

theorem monitorUpdate_rest_confirmed : (monitorUpdate now clearing .rest m).confirmed = m.confirmed := by
  by_cases green : m.passed = some .green
  · rw [monitorUpdate_rest_of_green green]
  · by_cases rest : m.passed = some .rest
    · rw [monitorUpdate_same rest]
    · rw [monitorUpdate_rest_of_other rest green]

end

section
variable {e : Env} {r : Rt} {f : AspectFrame}

/-! ### The test of an entering group (R34, R35) -/

theorem isEntering_iff {g : Group} : isEntering e r f g = true ↔
    (shownClass e f g = some .starting ∨ shownClass e f g = some .green) ∧ shownClass e f g ≠ (r.monitor.get g).passed := by
  unfold isEntering
  cases shownClass e f g with
  | none => simp
  | some c =>
    rw [Bool.and_eq_true, Bool.or_eq_true, beq_iff_eq, beq_iff_eq, bne_iff_ne, ne_comm, Option.some_inj, Option.some_inj]

theorem isDue_eq_false {now : Time} {d : Option Time} : isDue now d = false ↔ ∀ t, d = some t → reached now t = false := by
  cases d <;> simp [isDue]

/-- Group `i` holds right of way: it enters with this frame, or it holds it by its record (R34). -/
theorem holdsWay_iff {i : Group} : holdsWay e r f i = true ↔ isEntering e r f i = true ∨
    (e.tab.slotOf i ≠ none ∧ (r.monitor.get i).rightOfWay = true ∧ shownClass e f i ≠ some .rest ∧
      shownClass e f i ≠ some .off ∧ ∀ t, (r.monitor.get i).clearingEnd = some t → reached e.now t = false) := by
  simp only [holdsWay, Bool.or_eq_true, Bool.and_eq_true, bne_iff_ne, Bool.not_eq_true', isDue_eq_false,
    Option.isSome_iff_ne_none, and_assoc]

/-- A rest aspect of the same frame is taken as passed first (log entry 40). -/
theorem recordAgainst_awaiting {i : Group} : (recordAgainst e r f i).awaiting = true ↔
    (r.monitor.get i).awaiting = true ∨ (shownClass e f i = some .rest ∧ (r.monitor.get i).passed = some .green) := by
  unfold recordAgainst
  split
  · next rest => rw [monitorUpdate_rest_awaiting, and_iff_right rest]
  · next other => simp [other]

theorem recordAgainst_confirmed {i : Group} : (recordAgainst e r f i).confirmed = (r.monitor.get i).confirmed := by
  unfold recordAgainst
  split
  · exact monitorUpdate_rest_confirmed
  · rfl

theorem elapsed_eq_false {now c : Time} {d : Nat} : elapsed now c d = false ↔ (now - c).toNat < d := by
  rw [elapsed, decide_eq_false_iff_not, not_le]

theorem intergreenShort_iff {j i : Group} : intergreenShort e r f j i = true ↔ e.tab.slotOf i ≠ none ∧
    ((r.monitor.get i).awaiting = true ∨ (shownClass e f i = some .rest ∧ (r.monitor.get i).passed = some .green) ∨
      ∃ c, (r.monitor.get i).confirmed = some c ∧
        (e.now - c).toNat < e.tab.ig i j - if shownClass e f j = some .starting then e.tab.ra j else 0) := by
  simp only [intergreenShort, Bool.and_eq_true, Bool.or_eq_true, Option.isSome_iff_ne_none, recordAgainst_awaiting, or_assoc,
    recordAgainst_confirmed]
  refine and_congr_right fun _ => or_congr_right (or_congr_right ?_)
  cases (r.monitor.get i).confirmed with
  | none => simp
  | some c => simp only [Bool.not_eq_true', elapsed_eq_false, Option.some.injEq, exists_eq_left']

/-! ### The check of a frame, slot by slot (R34, R35) -/

/-- The failure of an entering group `j` against a conflicting group `i`, right of way first. -/
def pairFailure (e : Env) (r : Rt) (f : AspectFrame) (j i : Group) : Option (FaultKind × Group × Group) :=
  if holdsWay e r f i then some (.conflictCommand, j, i)
  else if intergreenShort e r f j i then some (.intergreenShort, j, i)
  else none

theorem pairFailure_eq_none {j i : Group} : pairFailure e r f j i = none ↔
    ¬ holdsWay e r f i = true ∧ ¬ intergreenShort e r f j i = true := by
  unfold pairFailure
  split
  · next way => simp [way]
  · next free => simp [free]

theorem pairFailure_eq_some {j i j' i' : Group} {kind : FaultKind} : pairFailure e r f j i = some (kind, j', i') ↔
    (j' = j ∧ i' = i) ∧ ((kind = .conflictCommand ∧ holdsWay e r f i = true) ∨
      (kind = .intergreenShort ∧ ¬ holdsWay e r f i = true ∧ intergreenShort e r f j i = true)) := by
  unfold pairFailure
  split
  · next way => simp [way]; tauto
  · next free =>
    split
    · next short => simp [free, short]; tauto
    · next clear => simp [free, clear]

/-- Slot `k` of the frame holds the entering group `j`, which conflicts with `i`. -/
def meetsAt (e : Env) (r : Rt) (f : AspectFrame) (k : Slot) (j i : Group) : Prop :=
  e.tab.holder f.addr k = some j ∧ isEntering e r f j = true ∧ i ≠ j ∧ e.tab.conflicts j i = true

/-- The check of slot `k` against group `i`. -/
def slotFailure (e : Env) (r : Rt) (f : AspectFrame) (k : Slot) (i : Group) : Option (FaultKind × Group × Group) :=
  match e.tab.holder f.addr k with
  | some j => if isEntering e r f j ∧ i ≠ j ∧ e.tab.conflicts j i = true then pairFailure e r f j i else none
  | none => none

theorem slotFailure_of_meetsAt {k : Slot} {j i : Group} (h : meetsAt e r f k j i) : slotFailure e r f k i = pairFailure e r f j i := by
  simp [slotFailure, h.1, h.2.1, h.2.2.1, h.2.2.2]

theorem slotFailure_of_not_meetsAt {k : Slot} {i : Group} (h : ∀ j, ¬ meetsAt e r f k j i) : slotFailure e r f k i = none := by
  unfold slotFailure
  split
  · next j held => exact if_neg fun met => h j ⟨held, met⟩
  · rfl

theorem monitorCheck_eq : monitorCheck e r f = allSlots.findSome? fun k => allGroups.findSome? fun i => slotFailure e r f k i := by
  have nothing : (allGroups.findSome? fun _ => (none : Option (FaultKind × Group × Group))) = none :=
    List.findSome?_eq_none_iff.mpr fun _ _ => rfl
  unfold monitorCheck
  congr 1
  funext k
  unfold slotFailure
  cases e.tab.holder f.addr k with
  | none => exact nothing.symm
  | some j =>
    cases entering : isEntering e r f j with
    | false => simpa [entering] using nothing.symm
    | true => simp [entering, enteringFailure, pairFailure]

theorem slotFailure_eq_none {k : Slot} {i : Group} : slotFailure e r f k i = none ↔
    ∀ j, meetsAt e r f k j i → ¬ holdsWay e r f i = true ∧ ¬ intergreenShort e r f j i = true := by
  by_cases met : ∃ j, meetsAt e r f k j i
  · obtain ⟨j, hj⟩ := met
    rw [slotFailure_of_meetsAt hj, pairFailure_eq_none]
    refine ⟨fun clear j' hj' => ?_, fun clear => clear j hj⟩
    obtain rfl : j = j' := Option.some.inj (hj.1.symm.trans hj'.1)
    exact clear
  · have none_met := not_exists.mp met
    exact iff_of_true (slotFailure_of_not_meetsAt none_met) fun j hj => absurd hj (none_met j)

theorem slotFailure_eq_some {k : Slot} {i j' i' : Group} {kind : FaultKind} (h : slotFailure e r f k i = some (kind, j', i')) :
    i' = i ∧ meetsAt e r f k j' i ∧ ((kind = .conflictCommand ∧ holdsWay e r f i = true) ∨
      (kind = .intergreenShort ∧ ¬ holdsWay e r f i = true ∧ intergreenShort e r f j' i = true)) := by
  by_cases met : ∃ j, meetsAt e r f k j i
  · obtain ⟨j, hj⟩ := met
    rw [slotFailure_of_meetsAt hj, pairFailure_eq_some] at h
    obtain ⟨⟨rfl, rfl⟩, failure⟩ := h
    exact ⟨rfl, hj, failure⟩
  · rw [slotFailure_of_not_meetsAt (not_exists.mp met)] at h
    cases h

/-- The frame passes when no entering slot meets a conflicting group (R34, R35). -/
theorem monitorCheck_eq_none : monitorCheck e r f = none ↔ ∀ (k : Slot) (j i : Group), meetsAt e r f k j i →
    ¬ holdsWay e r f i = true ∧ ¬ intergreenShort e r f j i = true := by
  simp only [monitorCheck_eq, List.findSome?_eq_none_iff, allSlots, allGroups, List.mem_finRange, true_imp_iff, slotFailure_eq_none]
  exact forall_congr' fun k => forall_comm

/-- A frame that fails is reported with its first failure, slot by slot and group by group (R34, R35). -/
theorem monitorCheck_eq_some {kind : FaultKind} {j i : Group} (h : monitorCheck e r f = some (kind, j, i)) :
    ∃ k : Slot, meetsAt e r f k j i ∧ ((kind = .conflictCommand ∧ holdsWay e r f i = true) ∨
        (kind = .intergreenShort ∧ ¬ holdsWay e r f i = true ∧ intergreenShort e r f j i = true)) ∧
      ∀ (k' : Slot) (j' i' : Group), meetsAt e r f k' j' i' → k' < k ∨ (k' = k ∧ i' < i) →
        ¬ holdsWay e r f i' = true ∧ ¬ intergreenShort e r f j' i' = true := by
  rw [monitorCheck_eq, allSlots, findSome?_finRange] at h
  obtain ⟨k, found, slots⟩ := h
  rw [allGroups, findSome?_finRange] at found
  obtain ⟨i₀, failed, groups⟩ := found
  obtain ⟨rfl, met, failure⟩ := slotFailure_eq_some failed
  refine ⟨k, met, failure, fun k' j' i' met' before => ?_⟩
  obtain below | ⟨rfl, below⟩ := before
  · have clear := List.findSome?_eq_none_iff.mp (slots k' below) i' (by simp [allGroups])
    exact slotFailure_eq_none.mp clear j' met'
  · exact slotFailure_eq_none.mp (groups i' below) j' met'

end

end Sys2Proof.Machine

/-! SUPPORT. Proofs of the statements of the family 02_safety_tables_and_the_conflict_monitor: what the Conflict Monitor lets pass,
and refreshes. -/

namespace Sys2Proof.Machine

section
variable {e : Env} {r : Rt} {f : AspectFrame}

/-! ### A frame that passes, a frame that is stopped (R32, R36, R166, R184) -/

theorem handFrame_monitor_get (h : monitorCheck e r f = none) (g : Group) :
    (handFrame e f r).monitor.get g = (r.monitor.get g).seen e f g := by
  rw [handFrame_passed h]
  simpa using monitorPass_get e f r g

theorem seen_of_hidden {g : Group} {x : MonitorRec} (h : shownClass e f g = none ∨ shownClass e f g = x.passed) :
    x.seen e f g = x := by
  unfold MonitorRec.seen
  split
  · next c shown => exact monitorUpdate_same (by rcases h with h | h <;> simp_all)
  · rfl

theorem seen_of_shown {g : Group} {x : MonitorRec} {c : AspectClass} (h : shownClass e f g = some c) :
    x.seen e f g = monitorUpdate e.now (e.tab.clearing g) c x := by
  simp [MonitorRec.seen, h]

theorem handFrame_aspects (h : monitorCheck e r f = none) :
    (handFrame e f r).ring.aspects = classTake 48 r.ring.aspects (f.frame e) := by
  rw [handFrame_passed h]
  simp [pushAspect_aspects]

theorem handFrame_notices_of_passed (h : monitorCheck e r f = none) : (handFrame e f r).notices = r.notices := by
  rw [handFrame_passed h]
  simp

/-- A frame that passes posts what a full class gives, and nothing else. -/
theorem handFrame_report (h : monitorCheck e r f = none) :
    (handFrame e f r).report = (postClassOverflow e 2 48 r.ring.aspects r).report := by
  rw [handFrame_passed h]
  simp only [updModule, pushAspect, Rt.withLamp_fields, Rt.withRing_fields, postClassOverflow, monitorPass_frame, Config.aspectCap]
  split
  · simp
  · split
    · exact post_report_congr (by simp)
    · simp

theorem shownClass_eq (e : Env) (f : AspectFrame) (g : Group) : shownClass e f g =
    (e.tab.slotOf g).bind fun m => if m.addr = f.addr then some (f.aspects.get m.slot).cls else none := by
  unfold shownClass
  cases e.tab.slotOf g <;> rfl

theorem handFrame_moduleRec {x : ModuleRec} (h : monitorCheck e r f = none) (hx : r.moduleRec f.addr = some x) :
    (handFrame e f r).moduleRec f.addr = some (x.sent e.now f) := by
  have addr : x.addr = f.addr := by simpa using List.find?_some hx
  have same : (pushAspect e (f.frame e) (monitorPass e f r)).moduleRec f.addr = r.moduleRec f.addr := by simp [Rt.moduleRec]
  rw [handFrame_passed h, moduleRec_updModule _ _ _ (ModuleRec.sent_addr _ _), same, hx]
  simp [addr]

/-! ### Refresh timers (R168) -/

theorem moduleRec_updModule_self {a : Byte} {m : ModuleRec} {g : ModuleRec → ModuleRec} (hm : r.moduleRec a = some m)
    (hg : ∀ m, (g m).addr = m.addr) : (updModule a g r).moduleRec a = some (g m) := by
  have addr : m.addr = a := by simpa using List.find?_some hm
  rw [moduleRec_updModule _ _ _ hg, hm]
  simp [addr]

theorem owedNow_eq (now : Time) (m : ModuleRec) : m.owedNow now = m.refreshOwed.filter fun o => o.at' = now := by
  unfold ModuleRec.owedNow
  cases m.refreshOwed with
  | none => rfl
  | some o => simp only [Option.filter, decide_eq_true_eq]

theorem refreshes_iff {now : Time} {m : ModuleRec} : m.refreshes now = true ↔
    isDue now m.refreshDue = true ∨ (m.refreshOwed.filter fun o => o.at' = now) ≠ none := by
  rw [ModuleRec.refreshes, Bool.or_eq_true, owedNow_eq, Option.isSome_iff_ne_none]

theorem earlierWaiting_iff {now : Time} {m : ModuleRec} {a : Byte} (ha : m.addr = a) : earlierWaiting now r m = true ↔
    match m.refreshOwed.filter fun o => o.at' = now with
    | some o => o.frames < (r.ring.aspects.filter fun f => f.dst == a).length
    | none => 0 < (r.ring.aspects.filter fun f => f.dst == a).length := by
  rw [earlierWaiting, owedNow_eq, ha]
  cases m.refreshOwed.filter fun o => o.at' = now with
  | some o => simp
  | none => simp [frameWaiting, List.length_pos_iff_exists_mem]

section
variable {a : Byte} {m : ModuleRec}

theorem refreshExpiry_of_earlier (hm : r.moduleRec a = some m) (hr : m.refreshes e.now = true)
    (he : earlierWaiting e.now r m = true) : refreshExpiry e a r =
      updModule a (fun m => { m with refreshOwed := none, refreshDue := some (after e.now Config.refreshTime) }) r := by
  simp [refreshExpiry, hm, hr, he]

theorem refreshExpiry_of_free (hm : r.moduleRec a = some m) (hr : m.refreshes e.now = true)
    (he : earlierWaiting e.now r m = false) : refreshExpiry e a r =
      refreshFrame e a m (updModule a (fun m => { m with refreshOwed := none, refreshDue := none }) r) := by
  simp [refreshExpiry, hm, hr, he]

/-- A refresh timer's command, when no fault notice waits: the blocks as `refreshExpiry` leaves them. -/
theorem exec_refreshTimerExpiry {s : State} (hm : s.part.rt.moduleRec a = some m) (hr : m.refreshes s.part.env.now = true) :
    exec (.refreshTimerExpiry a) s = .next (s.withRt (takeFaults s.part.env (refreshExpiry s.part.env a s.part.rt))) :=
  whenDue_onPart s (.refreshTimerExpiry a) (fun p => p.actQuiet fun e r => refreshExpiry e a r) (by simp [timeDue, hm, hr])

/-- A refresh while an earlier frame waits restarts the timer and hands no frame. -/
theorem refresh_of_earlier (hm : r.moduleRec a = some m) (hn : r.notices = []) (hr : m.refreshes e.now = true)
    (he : earlierWaiting e.now r m = true) :
    (takeFaults e (refreshExpiry e a r)).ring = r.ring ∧
      ((takeFaults e (refreshExpiry e a r)).moduleRec a).map ModuleRec.refreshDue = some (some (e.now + 2#32)) := by
  rw [refreshExpiry_of_earlier hm hr he, takeFaults_nil _ _ (by simpa [updModule] using hn)]
  refine ⟨by simp [updModule], ?_⟩
  rw [moduleRec_updModule_self hm]
  · simp [after, Config.refreshTime]
  · exact fun _ => rfl

/-- A refresh with no earlier frame waiting hands the sent record again, which passes, and restarts the timer. -/
theorem refresh_of_free {v : Vector Aspect 4} {b : Brightness} (hm : r.moduleRec a = some m) (hn : r.notices = [])
    (hr : m.refreshes e.now = true) (he : earlierWaiting e.now r m = false) (hv : m.sentAspects = some v)
    (hb : m.sentBrightness = some b) (hc : monitorCheck e r ⟨a, v, b⟩ = none) :
    (takeFaults e (refreshExpiry e a r)).ring.aspects = classTake 48 r.ring.aspects (AspectFrame.frame e ⟨a, v, b⟩) ∧
      (takeFaults e (refreshExpiry e a r)).mode = r.mode ∧ (takeFaults e (refreshExpiry e a r)).groups = r.groups ∧
      ((takeFaults e (refreshExpiry e a r)).moduleRec a).map ModuleRec.refreshDue = some (some (e.now + 2#32)) := by
  obtain ⟨u, hu⟩ : ∃ u, u = updModule a (fun m => { m with refreshOwed := none, refreshDue := none }) r := ⟨_, rfl⟩
  have handed : refreshExpiry e a r = handFrame e ⟨a, v, b⟩ u := by
    rw [refreshExpiry_of_free hm hr he, refreshFrame, hv, hb, hu]
  have monitor : u.monitor = r.monitor := by simp [hu, updModule]
  have passes : monitorCheck e u ⟨a, v, b⟩ = none := (monitorCheck_congr _ monitor).trans hc
  have quiet : (handFrame e ⟨a, v, b⟩ u).notices = [] := by
    rw [handFrame_notices_of_passed passes]
    simpa [hu, updModule] using hn
  have stopped : u.moduleRec a = some { m with refreshOwed := none, refreshDue := none } := by
    rw [hu, moduleRec_updModule_self hm]
    exact fun _ => rfl
  rw [handed, takeFaults_nil _ _ quiet]
  refine ⟨by rw [handFrame_aspects passes]; simp [hu, updModule], by simp [hu, updModule], by simp [hu, updModule], ?_⟩
  rw [handFrame_moduleRec (f := ⟨a, v, b⟩) passes stopped]
  simp [ModuleRec.sent, after, Config.refreshTime]

end

end

/-- Settles O59: the Monitor's check is a search over the slots and groups in order (`monitorCheck_eq`), and what it lets pass is
handed on by `handFrame`. -/
theorem monitorGuardsEveryFrame : Obligations.MonitorGuardsEveryFrame := by
  refine ⟨fun e r f => ⟨?_, ?_, ?_⟩, ?_⟩
  · intro shown entering way short meets
    have shows : ∀ g, shownClass e f g = shown g := shownClass_eq e f
    have enters : ∀ g, isEntering e r f g = true ↔ entering g := fun g => by simp only [isEntering_iff, shows, entering]
    have ways : ∀ i, holdsWay e r f i = true ↔ way i := fun i => by simp only [holdsWay_iff, enters, shows, way]
    have shorts : ∀ j i, intergreenShort e r f j i = true ↔ short j i := fun j i => by
      simp only [intergreenShort_iff, shows, short]
    have meeting : ∀ k j i, meetsAt e r f k j i ↔ meets k j i := fun k j i => by simp only [meetsAt, enters, meets]
    have none_fails := monitorCheck_eq_none (e := e) (r := r) (f := f)
    have first_fails := fun kind j i => monitorCheck_eq_some (e := e) (r := r) (f := f) (kind := kind) (j := j) (i := i)
    simp only [ways, shorts, meeting] at none_fails first_fails
    refine ⟨none_fails, first_fails, fun passed g => ?_⟩
    intro x z
    have seen : z = x.seen e f g := handFrame_monitor_get passed g
    refine ⟨fun hidden => ?_, fun cls shown_cls other => ?_⟩
    · rw [seen, seen_of_hidden (by rw [shows]; exact hidden)]
    · rw [seen, seen_of_shown ((shows g).trans shown_cls)]
      refine ⟨fun hc => monitorUpdate_entering hc other, ?_, ?_, ?_, ?_, ?_⟩
      · rintro rfl green
        exact monitorUpdate_clearing_of_green green
      · rintro rfl notGreen
        exact monitorUpdate_clearing_of_other other notGreen
      · rintro rfl green
        exact monitorUpdate_rest_of_green green
      · rintro rfl notGreen
        exact monitorUpdate_rest_of_other other notGreen
      · rintro rfl
        exact monitorUpdate_off other
  · intro passed
    refine ⟨?_, handFrame_notices_of_passed passed, fun room => ?_, fun old rest full cap => ?_, fun x hx => ?_⟩
    · rw [handFrame_aspects passed, ← frame_eq_aspectSet]
    · rw [handFrame_report passed, postClassOverflow, if_pos room]
    · rw [handFrame_report passed, postClassOverflow, if_neg (by omega), full]
      rfl
    · exact ⟨_, handFrame_moduleRec passed hx, rfl⟩
  · intro kind j i failed
    rw [handFrame_failed failed]
    exact ⟨rfl, rfl, rfl, rfl, rfl⟩
  · intro s a m hm hn owed count earlier due
    have refreshes : m.refreshes s.part.env.now = true := refreshes_iff.mpr due
    have addr : m.addr = a := by simpa using List.find?_some hm
    have waits : earlierWaiting s.part.env.now s.part.rt m = true ↔ earlier := earlierWaiting_iff addr
    refine ⟨_, exec_refreshTimerExpiry hm refreshes, rfl, rfl, fun he => ?_, fun v b hne hv hb hc => ?_⟩
    · exact refresh_of_earlier hm hn refreshes (waits.mpr he)
    · exact refresh_of_free hm hn refreshes (Bool.eq_false_iff.mpr fun he => hne (waits.mp he)) hv hb hc

end Sys2Proof.Machine

/-! SUPPORT. Proofs of the statements of the family 02_safety_tables_and_the_conflict_monitor: the address lists of the tables, the
events that a command posts, and the class of LOOP_TUNE and BUTTON_LAMP. -/

namespace Sys2Proof.Machine

/-! ### Ascending lists of addresses (R90, R164) -/

/-- Addresses in strictly ascending order. -/
abbrev ascendingAddrs (l : List Byte) : Prop := l.Pairwise fun a b => a.toNat < b.toNat

theorem mem_insertAddr {a b : Byte} {l : List Byte} : b ∈ insertAddr a l ↔ b = a ∨ b ∈ l := by
  induction l with
  | nil => simp [insertAddr]
  | cons c l ih =>
    simp only [insertAddr]
    split
    · simp
    · split
      · next same => simp [same]
      · simp only [List.mem_cons, ih]
        tauto

theorem insertAddr_ascending {a : Byte} {l : List Byte} (h : ascendingAddrs l) : ascendingAddrs (insertAddr a l) := by
  induction l with
  | nil => exact List.pairwise_singleton _ _
  | cons c l ih =>
    obtain ⟨least, rest⟩ := List.pairwise_cons.mp h
    simp only [insertAddr]
    split
    · next below =>
      refine List.pairwise_cons.mpr ⟨fun b hb => ?_, h⟩
      obtain rfl | hb := List.mem_cons.mp hb
      · exact below
      · exact below.trans (least b hb)
    · split
      · exact h
      · next notBelow other =>
        refine List.pairwise_cons.mpr ⟨fun b hb => ?_, ih rest⟩
        obtain rfl | hb := mem_insertAddr.mp hb
        · exact lt_of_le_of_ne (not_lt.mp notBelow) fun same => other (BitVec.eq_of_toNat_eq same.symm)
        · exact least b hb

theorem insertAddr_length (a : Byte) (l : List Byte) : (insertAddr a l).length ≤ l.length + 1 := by
  induction l with
  | nil => simp [insertAddr]
  | cons c l ih =>
    simp only [insertAddr]
    split
    · simp
    · split
      · simp
      · simpa using ih

/-- The addresses that the elements of a list have, gathered. -/
def gatherAddrs {ι : Type} (o : ι → Option Byte) (l : List ι) (acc : List Byte) : List Byte :=
  l.foldl (fun acc i => match o i with | some a => insertAddr a acc | none => acc) acc

section
variable {ι : Type} {o : ι → Option Byte} {l : List ι} {acc : List Byte}

theorem gatherAddrs_ascending (h : ascendingAddrs acc) : ascendingAddrs (gatherAddrs o l acc) := by
  induction l generalizing acc with
  | nil => exact h
  | cons i l ih =>
    refine ih ?_
    dsimp only
    split
    · exact insertAddr_ascending h
    · exact h

theorem mem_gatherAddrs {a : Byte} : a ∈ gatherAddrs o l acc ↔ a ∈ acc ∨ ∃ i ∈ l, o i = some a := by
  induction l generalizing acc with
  | nil => simp [gatherAddrs]
  | cons i l ih =>
    rw [gatherAddrs, List.foldl_cons, ← gatherAddrs, ih]
    cases h : o i with
    | none => simp [h]
    | some b =>
      simp only [mem_insertAddr, List.mem_cons, exists_eq_or_imp, h, Option.some.injEq]
      rw [eq_comm (a := a), or_comm (a := b = a), or_assoc]

theorem gatherAddrs_length : (gatherAddrs o l acc).length ≤ acc.length + l.length := by
  induction l generalizing acc with
  | nil => simp [gatherAddrs]
  | cons i l ih =>
    rw [gatherAddrs, List.foldl_cons, ← gatherAddrs]
    refine ih.trans ?_
    cases o i with
    | none => simp
    | some b =>
      have := insertAddr_length b acc
      simp
      omega

end

theorem ascendingAddrs.nodup {l : List Byte} (h : ascendingAddrs l) : l.Nodup :=
  h.imp fun {_ _} hab heq => absurd hab (by simp [heq])

theorem mappedModules_eq (t : Tables) : t.mappedModules = gatherAddrs (fun g => (t.mapping g).map Mapping.addr) allGroups [] := by
  unfold Tables.mappedModules gatherAddrs
  congr 1
  funext acc g
  cases h : t.mapping g <;> simp [h]

theorem cardAddrs_eq (t : Tables) : t.cardAddrs = gatherAddrs (fun l => (t.loops.get l).map LoopEntry.card) allLoops [] := by
  unfold Tables.cardAddrs gatherAddrs
  congr 1
  funext acc l
  cases h : t.loops.get l <;> simp [h]

theorem mem_mappedModules {t : Tables} {a : Byte} : a ∈ t.mappedModules ↔ ∃ g, (t.mapping g).map Mapping.addr = some a := by
  simp [mappedModules_eq, mem_gatherAddrs, allGroups]

theorem mappedModules_length (t : Tables) : t.mappedModules.length ≤ 24 := by
  rw [mappedModules_eq]
  simpa [allGroups] using gatherAddrs_length (o := fun g => (t.mapping g).map Mapping.addr) (l := allGroups) (acc := [])

/-- Without a mapped group there is no module. -/
theorem mappedModules_eq_nil {t : Tables} (h : t.mappedCount = 0) : t.mappedModules = [] := by
  rw [List.eq_nil_iff_forall_not_mem]
  intro a ha
  obtain ⟨g, hg⟩ := mem_mappedModules.mp ha
  have unmapped := List.length_eq_zero_iff.mp h
  rw [List.filter_eq_nil_iff] at unmapped
  exact unmapped g (by simp [allGroups]) (by
    obtain ⟨m, hm, -⟩ := Option.map_eq_some_iff.mp hg
    simp [hm])

theorem mem_cardAddrs {t : Tables} {a : Byte} : a ∈ t.cardAddrs ↔ ∃ l, (t.loops.get l).map LoopEntry.card = some a := by
  simp [cardAddrs_eq, mem_gatherAddrs, allLoops]

theorem cardAddrs_nodup (t : Tables) : t.cardAddrs.Nodup := by
  rw [cardAddrs_eq]
  exact (gatherAddrs_ascending .nil).nodup

/-! ### Reports that grow (R193) -/

/-- From `r` to `r'` the event queue has grown at its end, the lost flag and the summary's bits have stayed set. -/
structure reportGrows (r r' : Rt) : Prop where
  queue : r.report.queue <+: r'.report.queue
  lost : r.report.lost = true → r'.report.lost = true
  summary : ∀ i : Nat, r.report.summary.getLsbD i = true → r'.report.summary.getLsbD i = true

theorem reportGrows.trans {r r' r'' : Rt} (h : reportGrows r r') (h' : reportGrows r' r'') : reportGrows r r'' :=
  ⟨h.queue.trans h'.queue, fun hl => h'.lost (h.lost hl), fun i hi => h'.summary i (h.summary i hi)⟩

theorem reportGrows_of_eq {r r' : Rt} (h : r'.report = r.report) : reportGrows r r' := by
  constructor <;> simp [h]

theorem reportGrows.of_start {r r' r'' : Rt} (h : reportGrows r' r'') (hr : r'.report = r.report) : reportGrows r r'' :=
  (reportGrows_of_eq hr).trans h

theorem reportGrows_foldl {α : Type} {f : Rt → α → Rt} (hf : ∀ r a, reportGrows r (f r a)) (l : List α) (r : Rt) :
    reportGrows r (l.foldl f r) :=
  foldl_inv (reportGrows r) f (fun r' a h => h.trans (hf r' a)) l r (reportGrows_of_eq rfl)

section
variable (e : Env) (r : Rt)

theorem post_grows (kind : EventKind) (subject : Byte) (detail : List Byte) : reportGrows r (post e kind subject detail r) := by
  refine ⟨?_, fun hl => ?_, fun i hi => by simp [post_summary, hi]⟩
  · rw [post_queue]
    split
    · exact List.prefix_append _ _
    · exact List.prefix_refl _
  · simp only [post, ReportUnit.take, Rt.withReport_fields]
    split
    · split
      · exact hl
      · rfl
    · exact hl

theorem fillRecord_grows (kind : RecordKind) (g1 g2 : Option Group) (l : Option Loop) (a : Option Byte) :
    reportGrows r (fillRecord e kind g1 g2 l a r) := by
  constructor <;> simp

theorem postFault_grows (n : FaultNotice) : reportGrows r (postFault e n r) := by
  simp only [postFault]
  exact (post_grows e r _ _ _).trans (fillRecord_grows e _ _ _ _ _ _)

theorem postClassOverflow_grows (cls cap : Nat) (q : List Frame) : reportGrows r (postClassOverflow e cls cap q r) := by
  unfold postClassOverflow
  split
  · exact reportGrows_of_eq rfl
  · split
    · exact post_grows e r _ _ _
    · exact reportGrows_of_eq rfl

theorem pushAux_grows (f : Frame) : reportGrows r (pushAux e f r) :=
  (postClassOverflow_grows e r 3 Config.auxCap r.ring.aux).trans (reportGrows_of_eq rfl)

theorem handFrame_grows (f : AspectFrame) : reportGrows r (handFrame e f r) := by
  unfold handFrame
  split
  · exact reportGrows_of_eq rfl
  · have passed : reportGrows r (monitorPass e f r) := reportGrows_of_eq (by simp)
    exact passed.trans ((postClassOverflow_grows e _ 2 Config.aspectCap _).trans (reportGrows_of_eq rfl))

theorem frameAll_grows : reportGrows r (frameAll e r) := reportGrows_foldl (fun r _ => handFrame_grows e r _) _ r

theorem groupButtons_grows (g : Group) (lit : Bool) : reportGrows r (groupButtons e g lit r) :=
  reportGrows_foldl (fun r n => by
    split
    · split
      · exact pushAux_grows e r _
      · exact reportGrows_of_eq rfl
    · exact reportGrows_of_eq rfl) _ r

theorem demandClear_grows : reportGrows r (demandClear e r) := by
  simp only [demandClear]
  exact (reportGrows_foldl (fun r g => groupButtons_grows e r g false) _ _).of_start rfl

theorem setSource_grows (src : Source) : reportGrows r (setSource e src r) := by
  unfold setSource
  split
  · exact reportGrows_of_eq rfl
  · have posted := (post_grows e (r.withMode fun m => { m with source := src }) .sourceChange noSubject (enc1 src.code)).of_start
      (r := r) rfl
    exact posted.trans (reportGrows_of_eq (by simp [giveSource]))

theorem restartMode_grows (mode : Mode) : reportGrows r (restartMode e mode r) := by
  simp only [restartMode]
  exact ((post_grows e _ _ _ _).trans (setSource_grows e _ _)).of_start rfl

theorem linkUp_grows (p : Port) : reportGrows r (linkUp e p r) := by
  simp only [linkUp]
  split
  · exact reportGrows_of_eq rfl
  · exact (post_grows e _ _ _ _).of_start rfl

/-- In DARK and FLASH the fault notices are reported, and nothing else (R48). -/
theorem takeFaults_grows (h : stagesRun r.mode.mode = false) : reportGrows r (takeFaults e r) := by
  have taken : reportGrows r (takeFaults e r) ∧ stagesRun (takeFaults e r).mode.mode = false :=
    foldl_inv (fun r' => reportGrows r r' ∧ stagesRun r'.mode.mode = false) _ (fun r' n ⟨grown, quiet⟩ => by
      have reported : takeNotice e n r' = postFault e n r' := by simp [takeNotice, quiet]
      rw [reported]
      exact ⟨grown.trans (postFault_grows e r' n), by simpa using quiet⟩) _ _ ⟨reportGrows_of_eq rfl, h⟩
  exact taken.1

end

/-! ### The class of LOOP_TUNE and BUTTON_LAMP (R184) -/

/-- The frames that wait in the class are the part's own LOOP_TUNE and BUTTON_LAMP (R104, R125). -/
def auxOwn (e : Env) (r : Rt) : Prop := ∀ k ∈ r.ring.aux, k.src = e.own ∧ (k.kind = kindButtonLamp ∨ k.kind = kindLoopTune)

section
variable {e : Env} {r : Rt}

theorem pushAux_own {f : Frame} (h : auxOwn e r) (hf : f.src = e.own ∧ (f.kind = kindButtonLamp ∨ f.kind = kindLoopTune)) :
    auxOwn e (pushAux e f r) := by
  have queue : (pushAux e f r).ring.aux = classTake Config.auxCap r.ring.aux f := by simp [pushAux]
  intro k hk
  rw [queue, classTake, List.mem_append, List.mem_singleton] at hk
  obtain hk | rfl := hk
  · split at hk
    · exact h k hk
    · exact h k (List.mem_of_mem_tail hk)
  · exact hf

theorem groupButtons_own {g : Group} {lit : Bool} (h : auxOwn e r) : auxOwn e (groupButtons e g lit r) :=
  foldl_inv (auxOwn e) _ (fun r n h => by
    split
    · split
      · exact pushAux_own h ⟨rfl, .inl rfl⟩
      · exact h
    · exact h) _ _ h

theorem demandClear_own (h : auxOwn e r) : auxOwn e (demandClear e r) :=
  foldl_inv (auxOwn e) _ (fun _ _ h => groupButtons_own h) _ _ h

theorem trySetting_own {x : LoopEntry} {l : Loop} {k : Nat} (h : auxOwn e r) : auxOwn e (trySetting e x l k r) :=
  pushAux_own h ⟨rfl, .inr rfl⟩

end

end Sys2Proof.Machine

/-! SUPPORT. Proofs of the statements of the family 02_safety_tables_and_the_conflict_monitor: the Loop Unit at RESTART. -/

namespace Sys2Proof.Machine

/-! ### The first sweep of a card (R103, R104, R112) -/

section
variable {e : Env} {r : Rt} {a : Byte} {c : CardRec} {l : Loop} {x : LoopEntry}

theorem demandLoop_inactive (h : r.demand.active = false) (stamp : Time) : demandLoop e l stamp r = r := by
  simp [demandLoop, h]

/-- With no setting held by another loop of the card, a sweep tries setting 0. -/
theorem sweepFrom_unheld (h : ∀ m ∈ e.tab.cardLoops x.card, m ≠ l → (r.loopRec m).setting = none) :
    sweepFrom e x l 0 r = trySetting e x l 0 r := by
  have free : settingHeld e r x.card l 0 = false := by
    rw [settingHeld, List.any_eq_false]
    intro m hm
    by_cases hml : m = l
    · simp [hml]
    · simp [h m hm hml]
  have first : nextSetting e r x.card l 0 = some 0 := by simp [nextSetting, List.range_succ_eq_map, free]
  rw [sweepFrom, first]

theorem waitingHead_of_head (hc : r.cardRec a = some c) (hl : c.wait.head? = some l) (hx : e.tab.loops.get l = some x) :
    waitingHead e r a = if (r.loopRec l).state = .waitingTune then some (l, x) else none := by
  simp [waitingHead, hc, hl, hx]

/-- The head of a card's list begins its sweep with setting 0. -/
def headBegun (e : Env) (x : LoopEntry) (l : Loop) (r : Rt) : Rt :=
  trySetting e x l 0 (updLoop l (fun y => { y with state := .tuning, sweep := some {} }) r)

theorem headBegun_cards : (headBegun e x l r).loops.cards = r.loops.cards := by simp [headBegun, updLoop]

theorem headBegun_demand : (headBegun e x l r).demand = r.demand := by simp [headBegun, updLoop]

theorem headBegun_mode : (headBegun e x l r).mode = r.mode := by simp [headBegun, updLoop]

theorem headBegun_record : (headBegun e x l r).report.record = r.report.record := by simp [headBegun, updLoop]

theorem headBegun_own (h : auxOwn e r) : auxOwn e (headBegun e x l r) := trySetting_own h

theorem headBegun_grows : reportGrows r (headBegun e x l r) :=
  have pushed := pushAux_grows e (updLoop l (fun y => { y with state := .tuning, sweep := some {} }) r)
    (ownFrame e x.card kindLoopTune [b8 x.channel.val, b8 0])
  (pushed.of_start (r := r) rfl).trans (reportGrows_of_eq rfl)

/-- The record of a loop whose sweep tries setting 0 (R103, R104). -/
def LoopRec.firstTried (now : Time) (y : LoopRec) : LoopRec :=
  { y with state := .tuning, sweep := some ⟨some 0, .awaitingEcho, some (after now Config.second)⟩ }

theorem headBegun_get (k : Loop) : (headBegun e x l r).loops.recs.get k =
    if l = k then (r.loops.recs.get k).firstTried e.now else r.loops.recs.get k := by
  simp only [headBegun, trySetting, updLoop, Rt.withLoops_fields, pushAux_frame, upd_get]
  split <;> rfl

/-- A card's head begins when its loops are fresh: it waits for its sweep, and no loop of the card holds a setting. -/
theorem kick_begins (hm : r.mode.mode ≠ .dark) (hd : r.demand.active = false) (hc : r.cardRec a = some c)
    (hl : c.wait.head? = some l) (hx : e.tab.loops.get l = some x) (ha : x.card = a) (waits : (r.loopRec l).state = .waitingTune)
    (unheld : ∀ m ∈ e.tab.cardLoops a, (r.loopRec m).setting = none) : kick e a r = headBegun e x l r := by
  have begun : beginSweep e x l r = headBegun e x l r := by
    rw [beginSweep, demandLoop_inactive (by simpa [updLoop] using hd)]
    refine sweepFrom_unheld fun m hm hml => ?_
    have other := upd_get_ne r.loops.recs l m (fun y => { y with state := .tuning, sweep := some {} }) hml
    exact (congrArg LoopRec.setting other).trans (unheld m (ha ▸ hm))
  have kept : (headBegun e x l r).cardRec a = some c := by rw [Rt.cardRec, headBegun_cards]; exact hc
  have tuning : ((headBegun e x l r).loopRec l).state = .tuning := by
    rw [Rt.loopRec, headBegun_get, if_pos rfl]
    rfl
  have rest : kickCard e a 3 (headBegun e x l r) = headBegun e x l r := by
    rw [kickCard, headBegun_mode, if_neg hm, waitingHead_of_head kept hl hx, tuning]
    rfl
  rw [kick, kickCard, if_neg hm, waitingHead_of_head hc hl hx, if_pos waits]
  exact (congrArg (kickCard e a 3) begun).trans rest

/-- Nothing begins at a card whose list is empty. -/
theorem kick_of_empty (hc : r.cardRec a = some c) (hl : c.wait.head? = none) : kick e a r = r := by
  simp [kick, kickCard, waitingHead, hc, hl]

end

/-! ### Every card begins (R112) -/

/-- The Loop Unit as rebuilt, with the Demand Unit inactive: each card's list holds its loops, and no loop holds a setting. -/
structure LoopsFresh (e : Env) (v : Rt) : Prop where
  inactive : v.demand.active = false
  wait : ∀ c ∈ v.loops.cards, c.wait = e.tab.cardLoops c.addr
  setting : ∀ l, (v.loops.recs.get l).setting = none
  state : ∀ l x, e.tab.loops.get l = some x → (v.loops.recs.get l).state = .waitingTune

/-- Loop `l` is the head of one of these cards. -/
def headOf (e : Env) (cards : List Byte) (l : Loop) : Prop := ∃ a ∈ cards, (e.tab.cardLoops a).head? = some l

/-- From `v` the heads of the cards in `done` have begun, and the blocks are otherwise as they were. -/
structure HeadsBegun (e : Env) (v : Rt) (done : List Byte) (r : Rt) : Prop where
  cards : r.loops.cards = v.loops.cards
  demand : r.demand = v.demand
  mode : r.mode = v.mode
  record : r.report.record = v.report.record
  grows : reportGrows v r
  own : auxOwn e v → auxOwn e r
  begun : ∀ l, headOf e done l → r.loops.recs.get l = (v.loops.recs.get l).firstTried e.now
  waiting : ∀ l, ¬ headOf e done l → r.loops.recs.get l = v.loops.recs.get l

section
variable {e : Env} {v r : Rt} {done : List Byte} {a : Byte}

theorem card_of_head {l : Loop} (h : (e.tab.cardLoops a).head? = some l) : ∃ x, e.tab.loops.get l = some x ∧ x.card = a := by
  have mem := mem_cardLoops.mp (List.mem_of_mem_head? h)
  simpa [Option.map_eq_some_iff] using mem

/-- A loop of a card whose turn has not come heads none of the cards that have begun. -/
theorem not_headOf_of_mem {l : Loop} (hl : l ∈ e.tab.cardLoops a) (ha : a ∉ done) : ¬ headOf e done l := by
  rintro ⟨b, hb, head⟩
  have own := mem_cardLoops.mp hl
  rw [mem_cardLoops.mp (List.mem_of_mem_head? head)] at own
  exact ha (Option.some.inj own ▸ hb)

theorem headOf_append {l : Loop} : headOf e (done ++ [a]) l ↔ headOf e done l ∨ (e.tab.cardLoops a).head? = some l := by
  simp [headOf, or_and_right, exists_or]

theorem HeadsBegun.kicked (h : HeadsBegun e v done r) (fresh : LoopsFresh e v) (hm : v.mode.mode ≠ .dark)
    (known : a ∈ v.loops.cards.map CardRec.addr) (ha : a ∉ done) : HeadsBegun e v (done ++ [a]) (kick e a r) := by
  obtain ⟨c, hc⟩ : ∃ c, r.cardRec a = some c := by
    obtain ⟨c, hc, rfl⟩ := List.mem_map.mp known
    rw [← Option.isSome_iff_exists, Rt.cardRec, List.find?_isSome]
    exact ⟨c, h.cards ▸ hc, by simp⟩
  have addr : c.addr = a := by simpa using List.find?_some hc
  have wait : c.wait = e.tab.cardLoops a := addr ▸ fresh.wait c (h.cards ▸ List.mem_of_find?_eq_some hc)
  have kept : ∀ {l}, l ∈ e.tab.cardLoops a → r.loops.recs.get l = v.loops.recs.get l := fun hl =>
    h.waiting _ (not_headOf_of_mem hl ha)
  cases head : (e.tab.cardLoops a).head? with
  | none =>
    have same : ∀ l, headOf e (done ++ [a]) l ↔ headOf e done l := fun l => by simp [headOf_append, head]
    rw [kick_of_empty hc (by rw [wait, head])]
    exact { h with begun := fun l hl => h.begun l ((same l).mp hl), waiting := fun l hl => h.waiting l fun hd => hl ((same l).mpr hd) }
  | some l =>
    obtain ⟨x, hx, card⟩ := card_of_head head
    have own : l ∈ e.tab.cardLoops a := List.mem_of_mem_head? head
    have begins : kick e a r = headBegun e x l r :=
      kick_begins (h.mode ▸ hm) (h.demand ▸ fresh.inactive) hc (by rw [wait, head]) hx card
        ((congrArg LoopRec.state (kept own)).trans (fresh.state l x hx))
        fun m hm => (congrArg LoopRec.setting (kept hm)).trans (fresh.setting m)
    rw [begins]
    refine ⟨headBegun_cards.trans h.cards, headBegun_demand.trans h.demand, headBegun_mode.trans h.mode,
      headBegun_record.trans h.record, h.grows.trans headBegun_grows, fun hv => headBegun_own (h.own hv), fun k hk => ?_,
      fun k hk => ?_⟩
    · rw [headBegun_get]
      split
      · next same =>
        subst same
        rw [kept own]
      · next other =>
        rw [headOf_append, head] at hk
        exact h.begun k (hk.resolve_right fun same => other (Option.some.inj same))
    · rw [headOf_append, head, not_or] at hk
      rw [headBegun_get, if_neg fun same => hk.2 (congrArg some same)]
      exact h.waiting k hk.1

theorem headsBegun_foldl (fresh : LoopsFresh e v) (hm : v.mode.mode ≠ .dark) (l : List Byte)
    (known : ∀ a ∈ l, a ∈ v.loops.cards.map CardRec.addr) (h : HeadsBegun e v done r) (hn : (done ++ l).Nodup) :
    HeadsBegun e v (done ++ l) (l.foldl (fun r a => kick e a r) r) := by
  induction l generalizing done r with
  | nil => simpa using h
  | cons a l ih =>
    have out : a ∉ done := fun ha => (List.nodup_append.mp hn).2.2 a ha a (.head l) rfl
    have next := ih (fun b hb => known b (.tail a hb)) (h.kicked fresh hm (known a (.head l)) out) (by simpa using hn)
    simpa using next

end

/-! ### The Loop Unit at RESTART (R112) -/

theorem remapCards_addrs (e : Env) (r : Rt) : (remapCards e r).loops.cards.map CardRec.addr = e.tab.cardAddrs := by
  simp only [remapCards, Rt.withLoops_fields, List.map_map]
  refine (List.map_congr_left fun a _ => ?_).trans (List.map_id _)
  cases found : r.loops.cards.find? fun c => c.addr == a with
  | none => simp [newCard, found]
  | some c => simpa [found] using List.find?_some found

theorem remapCards_forward {e : Env} {r : Rt} {c : CardRec} (h : c ∈ (remapCards e r).loops.cards) :
    c.forward = e.tab.cardForward c.addr := by
  obtain ⟨a, -, rfl⟩ := List.mem_map.mp h
  cases found : r.loops.cards.find? fun c => c.addr == a with
  | none => simp [newCard]
  | some c =>
    have addr : c.addr = a := by simpa using List.find?_some found
    simp [addr]

/-- The Loop Unit at RESTART, before the cards begin: the lists rebuilt, every record cleared but for its count. -/
def loopsRebuilt (e : Env) (r : Rt) : Rt := rebuildLoops e (remapCards e r)

section
variable {e : Env} {r : Rt}

theorem loopsRebuilt_get (l : Loop) : (loopsRebuilt e r).loops.recs.get l =
    (r.loops.recs.get l).cleared (if (e.tab.loops.get l).isSome then .waitingTune else .unused) := by
  rw [loopsRebuilt, rebuildLoops_get]
  simp

/-- A rebuilt card record: its list, and no timer (R112). -/
theorem loopsRebuilt_card {c : CardRec} (h : c ∈ (loopsRebuilt e r).loops.cards) : c.wait = e.tab.cardLoops c.addr ∧
    c.silent = false ∧ c.forward = e.tab.cardForward c.addr ∧ c.silenceDue = none := by
  obtain ⟨b, hb, rfl⟩ := List.mem_map.mp h
  have forward := remapCards_forward hb
  exact ⟨rfl, rfl, forward, rfl⟩

theorem loopsRebuilt_addrs : (loopsRebuilt e r).loops.cards.map CardRec.addr = e.tab.cardAddrs := by
  rw [← remapCards_addrs e r]
  simp [loopsRebuilt, rebuildLoops]

/-- What the Loop Unit is after RESTART, and what it leaves of the blocks (R112). -/
structure LoopsRestarted (e : Env) (r u : Rt) : Prop where
  addrs : u.loops.cards.map CardRec.addr = e.tab.cardAddrs
  card : ∀ c ∈ u.loops.cards, c.wait = e.tab.cardLoops c.addr ∧ c.silent = false ∧ c.forward = e.tab.cardForward c.addr ∧
    c.silenceDue = if r.mode.mode = .dark then none else some (after e.now Config.second)
  unused : ∀ l, e.tab.loops.get l = none → u.loops.recs.get l = { state := .unused, vehicles := (r.loops.recs.get l).vehicles }
  loaded : ∀ l x, e.tab.loops.get l = some x → u.loops.recs.get l =
    if r.mode.mode ≠ .dark ∧ (e.tab.cardLoops x.card).head? = some l then
      { state := .tuning, sweep := some ⟨some 0, .awaitingEcho, some (after e.now Config.second)⟩
        vehicles := (r.loops.recs.get l).vehicles }
    else { state := .waitingTune, vehicles := (r.loops.recs.get l).vehicles }
  demand : u.demand = r.demand
  record : u.report.record = r.report.record
  grows : reportGrows r u
  own : auxOwn e r → auxOwn e u
  dark : r.mode.mode = .dark → u.ring = r.ring

theorem loopsRestart_dark (hm : r.mode.mode = .dark) : LoopsRestarted e r (loopsRestart e r) := by
  have rebuilt : loopsRestart e r = loopsRebuilt e r := by simp [loopsRestart, loopsRebuilt, hm]
  have ring : (loopsRebuilt e r).ring = r.ring := by simp [loopsRebuilt]
  rw [rebuilt]
  refine ⟨loopsRebuilt_addrs, fun c hc => by rw [if_pos hm]; exact loopsRebuilt_card hc, fun l hl => ?_, fun l x hx => ?_,
    by simp [loopsRebuilt], by simp [loopsRebuilt], reportGrows_of_eq (by simp [loopsRebuilt]), fun h => ?_, fun _ => ring⟩
  · rw [loopsRebuilt_get, hl]
    rfl
  · rw [loopsRebuilt_get, hx, if_neg (fun lit => lit.1 hm : ¬ (r.mode.mode ≠ .dark ∧ _))]
    rfl
  · rw [auxOwn, ring]
    exact h

theorem loopsRestart_lit (hm : r.mode.mode ≠ .dark) (hd : r.demand.active = false) :
    LoopsRestarted e r (loopsRestart e r) := by
  obtain ⟨v, hv⟩ : ∃ v, v = (loopsRebuilt e r).withLoops fun u => { u with
      cards := u.cards.map fun c => { c with silenceDue := some (after e.now Config.second) } } := ⟨_, rfl⟩
  have recs : ∀ l, v.loops.recs.get l =
      (r.loops.recs.get l).cleared (if (e.tab.loops.get l).isSome then .waitingTune else .unused) := fun l => by
    rw [← loopsRebuilt_get, hv]
    rfl
  have card : ∀ c ∈ v.loops.cards, c.wait = e.tab.cardLoops c.addr ∧ c.silent = false ∧ c.forward = e.tab.cardForward c.addr ∧
      c.silenceDue = some (after e.now Config.second) := fun c hc => by
    rw [hv] at hc
    obtain ⟨b, hb, rfl⟩ := List.mem_map.mp hc
    obtain ⟨wait, silent, forward, -⟩ := loopsRebuilt_card hb
    exact ⟨wait, silent, forward, rfl⟩
  have addrs : v.loops.cards.map CardRec.addr = e.tab.cardAddrs := by
    rw [← loopsRebuilt_addrs (r := r), hv]
    simp
  have demand : v.demand = r.demand := by simp [hv, loopsRebuilt]
  have mode : v.mode = r.mode := by simp [hv, loopsRebuilt]
  have fresh : LoopsFresh e v := ⟨demand ▸ hd, fun c hc => (card c hc).1, fun l => by rw [recs]; rfl, fun l x hx => by
    rw [recs, hx]
    rfl⟩
  have started : HeadsBegun e v [] v := ⟨rfl, rfl, rfl, rfl, reportGrows_of_eq rfl, id, fun l hl => by simp [headOf] at hl,
    fun _ _ => rfl⟩
  have begun := headsBegun_foldl fresh (mode ▸ hm) e.tab.cardAddrs (by simp [addrs]) started (by simpa using cardAddrs_nodup e.tab)
  have restarted : loopsRestart e r = e.tab.cardAddrs.foldl (fun r a => kick e a r) v := by
    have lit : (loopsRebuilt e r).mode.mode ≠ .dark := by simpa [loopsRebuilt] using hm
    have begins : loopsRestart e r = loopsBegin e (loopsRebuilt e r) := if_neg lit
    rw [begins, loopsBegin, loopsRebuilt_addrs, hv]
  rw [List.nil_append, ← restarted] at begun
  have headed : ∀ l x, e.tab.loops.get l = some x → (headOf e e.tab.cardAddrs l ↔ (e.tab.cardLoops x.card).head? = some l) :=
    fun l x hx => by
      refine ⟨fun ⟨a, _, head⟩ => ?_, fun head => ⟨x.card, mem_cardAddrs.mpr ⟨l, by simp [hx]⟩, head⟩⟩
      obtain ⟨y, hy, rfl⟩ := card_of_head head
      rw [hx] at hy
      cases hy
      exact head
  refine ⟨begun.cards ▸ addrs, fun c hc => ?_, fun l hl => ?_, fun l x hx => ?_, begun.demand.trans demand,
    begun.record.trans (by simp [hv, loopsRebuilt]), begun.grows.of_start (by simp [hv, loopsRebuilt]), fun h => ?_,
    fun dark => absurd dark hm⟩
  · rw [if_neg hm]
    exact card c (begun.cards ▸ hc)
  · rw [begun.waiting l, recs, hl]
    · rfl
    · rintro ⟨a, -, head⟩
      obtain ⟨x, hx, -⟩ := card_of_head head
      rw [hl] at hx
      cases hx
  · by_cases head : (e.tab.cardLoops x.card).head? = some l
    · rw [begun.begun l ((headed l x hx).mpr head), if_pos ⟨hm, head⟩, recs, hx]
      rfl
    · rw [begun.waiting l fun h => head ((headed l x hx).mp h), if_neg fun h => head h.2, recs, hx]
      rfl
  · refine begun.own ?_
    have ring : v.ring = r.ring := by simp [hv, loopsRebuilt]
    rw [auxOwn, ring]
    exact h

theorem loopsRestart_restarted (hd : r.demand.active = false) : LoopsRestarted e r (loopsRestart e r) := by
  by_cases hm : r.mode.mode = .dark
  · exact loopsRestart_dark hm
  · exact loopsRestart_lit hm hd

end

end Sys2Proof.Machine

/-! SUPPORT. Proofs of the statements of the family 02_safety_tables_and_the_conflict_monitor: the frames that RESTART gives, one for
each module, with every group unlit. -/

namespace Sys2Proof.Machine

/-- The junction is unlit: every group is in DARK or FLASHING. -/
abbrev Rt.unlit (r : Rt) : Prop := ∀ g, (r.groups.get g).state.unlit

/-- The record of a module whose frame of this moment shows no group lit (R166). -/
structure ModuleRec.framedUnlit (now : Time) (b : Brightness) (m : ModuleRec) : Prop where
  refreshDue : m.refreshDue = some (after now Config.refreshTime)
  sentBrightness : m.sentBrightness = some b
  sentAspects : ∃ v, m.sentAspects = some v ∧ ∀ k : Slot, (v.get k).cls = .off

section
variable {e : Env} {v r : Rt} {a : Byte} {done : List Byte}

theorem slotAspects_of_unlit (h : r.unlit) (a : Byte) (k : Slot) : ((slotAspects e r a).get k).cls = .off := by
  rw [slotAspects_get]
  split
  · next g _ => exact groupAspect_of_unlit (h g)
  · rfl

theorem sent_framedUnlit (h : r.unlit) (m : ModuleRec) {b : Brightness} :
    (m.sent e.now ⟨a, slotAspects e r a, b⟩).framedUnlit e.now b :=
  ⟨rfl, rfl, _, rfl, slotAspects_of_unlit h a⟩

/-- A frame of an unlit junction makes a fresh record, or one it made before, the record of an off aspect passed (R32). -/
theorem seen_off {f : AspectFrame} {g : Group} {x : MonitorRec} (shown : shownClass e f g = some .off)
    (hx : x = {} ∨ x = { passed := some .off }) : x.seen e f g = { passed := some .off } := by
  obtain rfl | rfl := hx
  · rw [seen_of_shown shown, monitorUpdate_off (by simp)]
  · exact seen_of_hidden (.inr shown)

theorem shownClass_of_unlit (h : r.unlit) {b : Brightness} {g : Group} {m : Mapping} (hm : e.tab.slotOf g = some m)
    (ha : m.addr = a) : shownClass e ⟨a, slotAspects e r a, b⟩ g = some .off := by
  rw [shownClass_slotAspects, hm]
  simp [ha, groupAspect_of_unlit (h g)]

/-- From `v`, whose groups are unlit and whose Monitor has passed nothing, the modules in `done` have had their frames. -/
structure FramesGiven (e : Env) (v : Rt) (done : List Byte) (r : Rt) : Prop where
  follows : r.follows e
  groups : r.groups = v.groups
  brightness : r.lamp.brightness = v.lamp.brightness
  addrs : r.lamp.modules.map ModuleRec.addr = v.lamp.modules.map ModuleRec.addr
  aspects : r.ring.aspects.map Frame.dst = v.ring.aspects.map Frame.dst ++ done
  seen : ∀ g m, e.tab.slotOf g = some m → m.addr ∈ done → r.monitor.get g = { passed := some .off }
  fresh : ∀ g, (∀ m, e.tab.slotOf g = some m → m.addr ∉ done) → r.monitor.get g = {}
  framed : ∀ m ∈ r.lamp.modules, m.addr ∈ done → m.framedUnlit e.now v.lamp.brightness

theorem FramesGiven.start (hu : v.unlit) (hm : ∀ g, v.monitor.get g = {}) : FramesGiven e v [] v :=
  ⟨follows_of_unlit hu, rfl, rfl, rfl, by simp, by simp, fun g _ => hm g, by simp⟩

/-- Before its module's frame a group's record is fresh or shows an off aspect. -/
theorem FramesGiven.record (h : FramesGiven e v done r) (g : Group) :
    r.monitor.get g = {} ∨ r.monitor.get g = { passed := some .off } := by
  by_cases given : ∃ m, e.tab.slotOf g = some m ∧ m.addr ∈ done
  · obtain ⟨m, hm, hd⟩ := given
    exact .inr (h.seen g m hm hd)
  · exact .inl (h.fresh g fun m hm hd => given ⟨m, hm, hd⟩)

theorem frameModule_aspects (h : r.follows e) : (frameModule e a r).ring.aspects =
    classTake 48 r.ring.aspects (aspectSet e a (slotAspects e r a) r.lamp.brightness) := by
  rw [frameModule_passed h]
  simp [updModule, pushAspect_aspects]

theorem frameModule_monitor_get (h : r.follows e) (g : Group) : (frameModule e a r).monitor.get g =
    (r.monitor.get g).seen e ⟨a, slotAspects e r a, r.lamp.brightness⟩ g := by
  rw [frameModule_passed h]
  simp [monitorPass_get]

theorem frameModule_modules (h : r.follows e) : (frameModule e a r).lamp.modules = r.lamp.modules.map fun m =>
    if m.addr = a then m.sent e.now ⟨a, slotAspects e r a, r.lamp.brightness⟩ else m := by
  rw [frameModule_passed h, updModule_modules]
  simp

theorem FramesGiven.next (h : FramesGiven e v done r) (hu : v.unlit) (room : v.ring.aspects.length + done.length < 48) :
    FramesGiven e v (done ++ [a]) (frameModule e a r) := by
  have unlit : r.unlit := fun g => h.groups ▸ hu g
  have length : r.ring.aspects.length < 48 := by
    have := congrArg List.length h.aspects
    simp only [List.length_map, List.length_append] at this
    omega
  refine ⟨frameModule_follows h.follows, by simp [h.groups], by simp [h.brightness], ?_, ?_, fun g m hm hd => ?_, fun g hd => ?_,
    ?_⟩
  · rw [frameModule_modules h.follows, ← h.addrs, List.map_map]
    refine List.map_congr_left fun m _ => ?_
    rw [Function.comp_apply, apply_ite ModuleRec.addr, ModuleRec.sent_addr, ite_self]
  · rw [frameModule_aspects h.follows, classTake, if_pos length, List.map_append, h.aspects, List.append_assoc]
    rfl
  · rw [frameModule_monitor_get h.follows]
    by_cases here : m.addr = a
    · exact seen_off (shownClass_of_unlit unlit hm here) (h.record g)
    · have before : m.addr ∈ done := by simpa [here] using hd
      rw [seen_of_hidden (.inl (by simp [shownClass_slotAspects, hm, here]))]
      exact h.seen g m hm before
  · rw [frameModule_monitor_get h.follows, seen_of_hidden (.inl ?_)]
    · exact h.fresh g fun m hm before => hd m hm (List.mem_append_left _ before)
    · rw [shownClass_slotAspects]
      split
      · next m hm => exact if_neg fun here => hd m hm (by simp [here])
      · rfl
  · rw [frameModule_modules h.follows]
    intro m hm hd
    obtain ⟨x, hx, rfl⟩ := List.mem_map.mp hm
    by_cases here : x.addr = a
    · rw [if_pos here]
      exact h.brightness ▸ sent_framedUnlit unlit x
    · rw [if_neg here] at hd ⊢
      exact h.framed x hx (by simpa [here] using hd)

theorem framesGiven_foldl (hu : v.unlit) (l : List Byte) (h : FramesGiven e v done r)
    (room : v.ring.aspects.length + (done ++ l).length ≤ 48) :
    FramesGiven e v (done ++ l) (l.foldl (fun r a => frameModule e a r) r) := by
  induction l generalizing done r with
  | nil => simpa using h
  | cons a l ih =>
    simp only [List.length_append, List.length_cons] at room
    have next := ih (h.next (a := a) hu (by omega)) (by simp; omega)
    simpa using next

/-- Every module of an unlit junction has its frame, when the class has room for all of them (R167, R184). -/
theorem frameAll_given (hu : v.unlit) (hm : ∀ g, v.monitor.get g = {})
    (room : v.ring.aspects.length + v.lamp.modules.length ≤ 48) :
    FramesGiven e v (v.lamp.modules.map ModuleRec.addr) (frameAll e v) :=
  framesGiven_foldl hu _ (.start hu hm) (by simpa using room)

end

/-! ### The Lamp Interface at RESTART (R177) -/

section
variable {e : Env} {r : Rt} {mode : Mode}

theorem lampRestart_modules : (lampRestart e mode r).lamp.modules = e.tab.mappedModules.map (newModule e mode) := rfl

theorem lampRestart_addrs : (lampRestart e mode r).lamp.modules.map ModuleRec.addr = e.tab.mappedModules := by
  rw [lampRestart_modules, List.map_map]
  exact List.map_id _

/-- What the frames of RESTART leave (R31, R166, R177). -/
structure LampRestarted (e : Env) (mode : Mode) (r u : Rt) : Prop where
  addrs : u.lamp.modules.map ModuleRec.addr = e.tab.mappedModules
  aspects : u.ring.aspects.map Frame.dst = e.tab.mappedModules
  monitor : ∀ g, u.monitor.get g = { passed := if (e.tab.slotOf g).isSome then some .off else none }
  framed : ∀ m ∈ u.lamp.modules, m.framedUnlit e.now r.lamp.brightness
  started : ∀ m ∈ u.lamp.modules, m.silent = false ∧ m.noted = Vector.replicate 4 false ∧
    m.silenceDue = if mode = .dark then none else some (after e.now Config.second)
  notices : u.notices = r.notices

theorem addr_mem_mappedModules {g : Group} {m : Mapping} (h : e.tab.slotOf g = some m) : m.addr ∈ e.tab.mappedModules :=
  mem_mappedModules.mpr ⟨g, by simp [(slotOf_eq_some h).1]⟩

theorem frameAll_lampRestarted (hu : r.unlit) (hm : ∀ g, r.monitor.get g = {}) (ha : r.ring.aspects = []) :
    LampRestarted e mode r (frameAll e (lampRestart e mode r)) := by
  have unlit : (lampRestart e mode r).unlit := fun g => by simpa using hu g
  have room : (lampRestart e mode r).ring.aspects.length + (lampRestart e mode r).lamp.modules.length ≤ 48 := by
    have := mappedModules_length e.tab
    simp [ha, lampRestart_modules]
    omega
  have given := frameAll_given (e := e) unlit (fun g => by simpa using hm g) room
  rw [lampRestart_addrs] at given
  have addrs := given.addrs.trans lampRestart_addrs
  refine ⟨addrs, by simpa [ha] using given.aspects, fun g => ?_, fun m hx => ?_, frameAll_modules_inv _ ?_ e _ ?_,
    (frameAll_follows (follows_of_unlit unlit)).2.trans (by simp)⟩
  · cases slot : e.tab.slotOf g with
    | none => exact given.fresh g fun m hs => absurd (slot.symm.trans hs) (by simp)
    | some m => exact given.seen g m slot (addr_mem_mappedModules slot)
  · have framed := given.framed m hx (addrs ▸ List.mem_map_of_mem hx)
    rwa [(lampRestart_frame e mode r).2.2.2.2.1] at framed
  · exact fun _ _ _ h => h
  · intro m hx
    obtain ⟨a, -, rfl⟩ := List.mem_map.mp hx
    exact ⟨rfl, rfl, rfl⟩

end

end Sys2Proof.Machine

/-! SUPPORT. Proofs of the statements of the family 02_safety_tables_and_the_conflict_monitor: every block at RESTART. -/

namespace Sys2Proof.Machine

/-- The mode that RESTART brings (R50). -/
def restartTo (e : Env) : Mode := if e.tab.mappedCount = 0 then .dark else .flash

/-- The order that RESTART gives the groups (R50). -/
def restartGroups (e : Env) (r : Rt) : Rt := if e.tab.mappedCount = 0 then darkGroups r else flashGroups e r

/-- The blocks at RESTART before the Loop Unit's turn (R50, R88, R128, R144, R162, R192). -/
def restartControl (e : Env) (r : Rt) : Rt :=
  restartTrams (demandClear e (stageIdle (restartMode e (restartTo e) (restartRing (restartGroups e r)))))

/-- The blocks at RESTART before the frames to the modules (R31, R112). -/
def restartBlocks (e : Env) (r : Rt) : Rt := (loopsRestart e (restartControl e r)).withMonitor fun _ => Vector.replicate 24 {}

/-- The blocks at RESTART with their frames given (R177). -/
def restartFramed (e : Env) (r : Rt) : Rt := frameAll e (lampRestart e (restartTo e) (restartBlocks e r))

/-- The Demand Unit inactive and emptied, its gap times kept (R128). -/
def DemandUnit.cleared (d : DemandUnit) : DemandUnit :=
  ⟨false, Vector.ofFn fun g => { gapTime := (d.groups.get g).gapTime }, Vector.replicate 64 {}⟩

section
variable {e : Env} {r : Rt}

theorem restartOwner_eq : restartOwner e r = (takeFaults e (restartFramed e r), .accepted) := rfl

theorem restartTo_eq_dark : restartTo e = .dark ↔ e.tab.mappedCount = 0 := by
  unfold restartTo
  split <;> simp [*]

theorem restartTo_quiet : stagesRun (restartTo e) = false := by
  unfold restartTo
  split <;> rfl

/-! ### The groups (R5, R6, R50) -/

@[simp] theorem restartGroups_frame (e : Env) (r : Rt) :
    (restartGroups e r).ring = r.ring ∧ (restartGroups e r).mode = r.mode ∧ (restartGroups e r).stage = r.stage ∧
    (restartGroups e r).loops = r.loops ∧ (restartGroups e r).demand = r.demand ∧
    (restartGroups e r).lamp.brightness = r.lamp.brightness ∧ (restartGroups e r).priority = r.priority ∧
    (restartGroups e r).report = r.report ∧ (restartGroups e r).notices = r.notices := by
  unfold restartGroups
  split <;> simp

theorem restartGroups_state (g : Group) : ((restartGroups e r).groups.get g).state =
    if e.tab.mappedCount = 0 then .dark else flashState e.tab g := by
  unfold restartGroups
  split <;> simp [darkGroups_get, flashGroups_get]

theorem restartGroups_unlit : (restartGroups e r).unlit := fun g => by
  rw [restartGroups_state]
  split
  · exact .inl rfl
  · exact flashState_unlit e.tab g

/-! ### The Mode Controller (R50) -/

theorem restartMode_mode (mode : Mode) : (restartMode e mode r).mode = { r.mode with
    mode := mode, sub := .none, startValues := none, phaseDue := none, source := .none, keep := {}, pendingStep := false
    restartCause := .restartFrame } := by
  simp [restartMode, setSource_mode]

/-- The MODE_CHANGE that RESTART posts sets bit 0 of the summary (R193). -/
theorem restartMode_summary (mode : Mode) : (restartMode e mode r).report.summary.getLsbD 0 = true := by
  simp only [restartMode]
  refine (setSource_grows e _ .none).summary 0 ?_
  simp [post_summary, EventKind.code]

/-! ### The Demand Unit (R128) -/

theorem demandClear_demand : (demandClear e r).demand = r.demand.cleared :=
  foldl_inv (fun u => u.demand = r.demand.cleared) _ (fun u g h => by simpa using h) _ _ rfl

theorem demandClear_of_unlit (h : ∀ g, (r.demand.groups.get g).button = false) : (demandClear e r).ring = r.ring := by
  simp [demandClear, h]

/-! ### The blocks before the Loop Unit's turn -/

@[simp] theorem restartControl_frame (e : Env) (r : Rt) :
    (restartControl e r).groups = (restartGroups e r).groups ∧ (restartControl e r).loops = r.loops ∧
    (restartControl e r).lamp.brightness = r.lamp.brightness ∧ (restartControl e r).report.record = r.report.record ∧
    (restartControl e r).notices = r.notices := by
  simp [restartControl]

theorem restartControl_mode : (restartControl e r).mode = { r.mode with
    mode := restartTo e, sub := .none, startValues := none, phaseDue := none, source := .none, keep := {}
    pendingStep := false, restartCause := .restartFrame } := by
  simp [restartControl, restartMode_mode]

theorem restartControl_stage : (restartControl e r).stage = { r.stage with
    phase := .idle, current := none, pendingGo := none, hold := false, inter := none
    greenEnds := Vector.replicate 24 .absent } := by
  simp [restartControl, stageIdle]

theorem restartControl_priority : (restartControl e r).priority = { r.priority with
    queue := [], lockoutDue := none, holdOffer := none, truncOffer := none, extensionNoted := false } := by
  simp [restartControl, restartTrams]

theorem restartControl_trams (k : TramSlot) : (restartControl e r).trams.get k = none := by
  simp [restartControl, restartTrams]

theorem restartControl_demand : (restartControl e r).demand = r.demand.cleared := by
  simp [restartControl, demandClear_demand]

theorem restartControl_ring : (restartControl e r).ring.replies = [] ∧ (restartControl e r).ring.head.queue = [] ∧
    (restartControl e r).ring.field.queue = [] ∧ (restartControl e r).ring.head.overflow = false ∧
    (restartControl e r).ring.field.overflow = false ∧ (restartControl e r).ring.crcFlag = r.ring.crcFlag ∧
    (restartControl e r).ring.aspects = [] := by
  simp [restartControl, restartRing]

theorem restartRing_aux : (restartRing r).ring.aux = [] := rfl

theorem restartControl_own : auxOwn e (restartControl e r) := by
  have emptied : auxOwn e (stageIdle (restartMode e (restartTo e) (restartRing (restartGroups e r)))) := by
    simp [auxOwn, restartRing_aux]
  simpa [auxOwn, restartControl] using demandClear_own emptied

theorem restartControl_aux (h : ∀ g, (r.demand.groups.get g).button = false) : (restartControl e r).ring.aux = [] := by
  simp [restartControl, demandClear_of_unlit, h, restartRing_aux]

theorem restartControl_grows : reportGrows r (restartControl e r) ∧
    (restartControl e r).report.summary.getLsbD 0 = true := by
  have noticed := restartMode_grows e (restartRing (restartGroups e r)) (restartTo e)
  have summary := restartMode_summary (e := e) (r := restartRing (restartGroups e r)) (restartTo e)
  have cleared := demandClear_grows e (stageIdle (restartMode e (restartTo e) (restartRing (restartGroups e r))))
  have after : reportGrows (restartMode e (restartTo e) (restartRing (restartGroups e r))) (restartControl e r) :=
    (cleared.trans (reportGrows_of_eq (by simp [restartControl]))).of_start (by simp)
  exact ⟨(noticed.of_start (by simp)).trans after, after.summary 0 summary⟩

/-! ### The Loop Unit, the Lamp Interface and the Conflict Monitor (R31, R112, R177) -/

theorem restartBlocks_loops : LoopsRestarted e (restartControl e r) (loopsRestart e (restartControl e r)) :=
  loopsRestart_restarted (by rw [restartControl_demand, DemandUnit.cleared])

theorem restartFramed_lamp : LampRestarted e (restartTo e) (restartBlocks e r) (restartFramed e r) :=
  frameAll_lampRestarted (fun g => by simpa [restartBlocks] using restartGroups_unlit g)
    (fun g => by simp [restartBlocks]) (by simp [restartBlocks, restartControl_ring])

@[simp] theorem restartFramed_frame (e : Env) (r : Rt) :
    (restartFramed e r).mode = (restartControl e r).mode ∧ (restartFramed e r).groups = (restartControl e r).groups ∧
    (restartFramed e r).stage = (restartControl e r).stage ∧ (restartFramed e r).priority = (restartControl e r).priority ∧
    (restartFramed e r).trams = (restartControl e r).trams ∧ (restartFramed e r).demand = (restartControl e r).demand ∧
    (restartFramed e r).loops = (loopsRestart e (restartControl e r)).loops ∧
    (restartFramed e r).ring.replies = (restartControl e r).ring.replies ∧
    (restartFramed e r).ring.head = (restartControl e r).ring.head ∧
    (restartFramed e r).ring.field = (restartControl e r).ring.field ∧
    (restartFramed e r).ring.crcFlag = (restartControl e r).ring.crcFlag ∧
    (restartFramed e r).ring.aux = (loopsRestart e (restartControl e r)).ring.aux ∧
    (restartFramed e r).lamp.brightness = r.lamp.brightness ∧
    (restartFramed e r).report.record = r.report.record ∧ (restartFramed e r).notices = r.notices := by
  have notices := restartFramed_lamp (e := e) (r := r).notices
  simp [restartFramed, restartBlocks, restartBlocks_loops.demand, restartBlocks_loops.record] at notices ⊢
  exact notices

theorem restartFramed_lampReset : (restartFramed e r).lamp.failed = [] ∧
    (∀ g : Group, (restartFramed e r).lamp.confirms.get g = none) ∧ (restartFramed e r).lamp.run = none ∧
    (restartFramed e r).lamp.settlingDue = none ∧ (restartFramed e r).lamp.selected = none ∧
    (restartFramed e r).lamp.sensorA = {} ∧ (restartFramed e r).lamp.sensorB = {} := by
  simp [restartFramed, lampRestart]

theorem restartFramed_own : auxOwn e (restartFramed e r) := by
  simpa [auxOwn] using restartBlocks_loops.own restartControl_own

theorem restartFramed_aux (h : ∀ g, (r.demand.groups.get g).button = false) (hc : e.tab.mappedCount = 0) :
    (restartFramed e r).ring.aux = [] := by
  have dark : (restartControl e r).mode.mode = .dark := by simp [restartControl_mode, restartTo_eq_dark.mpr hc]
  simpa [restartBlocks_loops.dark dark] using restartControl_aux h

theorem restartFramed_grows : reportGrows r (restartFramed e r) ∧ (restartFramed e r).report.summary.getLsbD 0 = true := by
  obtain ⟨grown, bit⟩ := restartControl_grows (e := e) (r := r)
  have framed := frameAll_grows e (lampRestart e (restartTo e) (restartBlocks e r))
  have after : reportGrows (restartControl e r) (restartFramed e r) :=
    restartBlocks_loops.grows.trans (framed.of_start (by simp [restartBlocks]))
  exact ⟨grown.trans after, after.summary 0 bit⟩

end

end Sys2Proof.Machine

/-! SUPPORT. Proofs of the statements of the family 02_safety_tables_and_the_conflict_monitor: RESTART settled. -/

namespace Sys2Proof.Machine

section
variable {e : Env} {r : Rt}

/-- In the mode that RESTART brings, the fault notices that wait are reported, and nothing else. -/
theorem restartOwner_left : (restartOwner e r).1 =
    { restartFramed e r with report := (restartOwner e r).1.report, notices := [] } :=
  takeFaults_quiet e (restartFramed e r) (by simp [restartControl_mode, restartTo_quiet])

theorem restartOwner_grows : reportGrows r (restartOwner e r).1 ∧ (restartOwner e r).1.report.summary.getLsbD 0 = true := by
  obtain ⟨grown, bit⟩ := restartFramed_grows (e := e) (r := r)
  have taken : reportGrows (restartFramed e r) (restartOwner e r).1 :=
    takeFaults_grows e _ (by simp [restartControl_mode, restartTo_quiet])
  exact ⟨grown.trans taken, taken.summary 0 bit⟩

theorem restartOwner_record (h : r.notices = []) : (restartOwner e r).1.report.record = r.report.record := by
  rw [restartOwner_eq, takeFaults_nil _ _ (by simpa using h)]
  simp

theorem LoopsRestarted.vehicles {u : Rt} (h : LoopsRestarted e r u) (l : Loop) :
    (u.loops.recs.get l).vehicles = (r.loops.recs.get l).vehicles := by
  cases hx : e.tab.loops.get l with
  | none => rw [h.unused l hx]
  | some x =>
    rw [h.loaded l x hx]
    split <;> rfl

/-- A RESTART for the part is answered with what its owner does after its arrival, whatever the reply slots hold. -/
theorem exec_restart {s : State} {h : Header} (hf : frameOk (junctionFrame h 4 []) = true)
    (own : (junctionFrame h 4 []).dst = s.part.env.own) (ask : isReply (junctionFrame h 4 []) = false) :
    exec (.restart h []) s = .next (s.withRt (answer s.part.env (junctionFrame h 4 []) .accepted
      (restartOwner s.part.env (s.part.arrived .head)).1)) := by
  have disposed : headFrame (junctionFrame h 4 []) { lengthIs 0 [] with isRestart := true } (onBlocks restartOwner) s.part =
      commandUnit (junctionFrame h 4 []) { lengthIs 0 [] with isRestart := true } (onBlocks restartOwner)
        (s.part.onRt fun e r => linkUp e .head r) := by
    rw [headFrame, if_pos hf]
    exact if_pos own
  have answered : commandUnit (junctionFrame h 4 []) { lengthIs 0 [] with isRestart := true } (onBlocks restartOwner)
      (s.part.onRt fun e r => linkUp e .head r) = ⟨s.part.env, answer s.part.env (junctionFrame h 4 []) .accepted
        (restartOwner s.part.env (s.part.arrived .head)).1⟩ := by
    simp only [commandUnit, ask, Bool.not_true, Bool.and_false]
    rfl
  show execRestart h [] s = _
  rw [execRestart, State.onPart]
  exact congrArg (fun p => Host.Outcome.next { s with part := p }) (disposed.trans answered)

end

/-- Settles O22: RESTART block by block (`restartControl`, `restartBlocks`, `restartFramed`), and the notices that wait reported. -/
theorem restartReturnsToInitialState : Obligations.RestartReturnsToInitialState := by
  intro s h e f hf own ask
  have loops := restartBlocks_loops (e := e) (r := s.part.arrived .head)
  have lamp := restartFramed_lamp (e := e) (r := s.part.arrived .head)
  obtain ⟨failed, confirms, run, settling, selected, sensorA, sensorB⟩ := restartFramed_lampReset (e := e) (r := s.part.arrived .head)
  obtain ⟨replies, headQueue, fieldQueue, headOverflow, fieldOverflow, crcFlag, -⟩ :=
    restartControl_ring (e := e) (r := s.part.arrived .head)
  obtain ⟨grown, bit⟩ := restartOwner_grows (e := e) (r := s.part.arrived .head)
  have report := (linkUp_grows e s.part.rt .head).trans grown
  have mode := restartControl_mode (e := e) (r := s.part.arrived .head)
  have second : after e.now Config.second = e.now + 10#32 := rfl
  have dark : (restartControl e (s.part.arrived .head)).mode.mode = .dark ↔ e.tab.mappedCount = 0 := by
    rw [mode]
    exact restartTo_eq_dark
  refine ⟨_, exec_restart hf own ask, ?_⟩
  rw [restartOwner_left]
  dsimp only
  refine ⟨?_, fun g => ?_, ?_, ?_, fun k => ?_, ?_, fun l => ?_, failed, ?_, ?_, ?_, ?_, ?_, ?_, ?_, lamp.aspects,
    restartFramed_own, fun unlit hc => restartFramed_aux (by simpa using unlit) hc, lamp.monitor, fun g => ?_, fun k => ?_, ?_,
    fun c hc => ?_, fun l hl => ?_, fun l x hx => ?_, lamp.addrs, fun m hm => ?_, confirms, run, settling, selected, sensorA,
    sensorB, fun hn => ?_, report.queue, report.lost, report.summary, bit, rfl⟩
  · simp [restartControl_mode, restartTo, e]
  · simpa using restartGroups_state g
  · simp [restartControl_stage]
  · simp [restartControl_priority]
  · simpa using restartControl_trams k
  · simp [restartControl_demand, DemandUnit.cleared]
  · simpa using loops.vehicles l
  · simp
  · simpa using replies
  · simpa using headQueue
  · simpa using fieldQueue
  · simpa using headOverflow
  · simpa using fieldOverflow
  · simpa using crcFlag
  · simp [restartControl_demand, DemandUnit.cleared]
  · simp [restartControl_demand, DemandUnit.cleared]
  · simpa using loops.addrs
  · simpa [dark, second] using loops.card c (by simpa using hc)
  · simpa using loops.unused l hl
  · simpa [dark, second] using loops.loaded l x hx
  · obtain ⟨silent, noted, silence⟩ := lamp.started m hm
    obtain ⟨refresh, brightness, aspects⟩ := lamp.framed m hm
    have mapped : e.tab.mappedCount ≠ 0 := fun none_mapped => by
      have addr : m.addr ∈ e.tab.mappedModules := lamp.addrs ▸ List.mem_map_of_mem hm
      rw [mappedModules_eq_nil none_mapped] at addr
      cases addr
    refine ⟨silent, noted, refresh, ?_, ?_, aspects⟩
    · rw [silence, if_neg fun isDark => mapped (restartTo_eq_dark.mp isDark), second]
    · rw [brightness]
      simp [restartBlocks]
  · simpa using restartOwner_record (e := e) (r := s.part.arrived .head) (by simpa using hn)

end Sys2Proof.Machine

/-! SUPPORT. Laws for the proofs of the family 03_junction_modes_start_up_and_control_ownership: properties of the part that no
link state, queue, answer or event bears on, and the dispositions of frames and moments that keep them. -/

namespace Sys2Proof.Machine

/-! ### Changes of the Ring Interface and the Report Unit alone -/

/-- From `r` to `r'` at most the Ring Interface and the Report Unit have changed. -/
def ringReportOnly (r r' : Rt) : Prop := r' = { r with ring := r'.ring, report := r'.report }

theorem ringReportOnly.trans {r r' r'' : Rt} (h : ringReportOnly r r') (h' : ringReportOnly r' r'') : ringReportOnly r r'' := by
  unfold ringReportOnly at *
  rw [h', h]

theorem post_ringReportOnly (e : Env) (kind : EventKind) (subject : Byte) (detail : List Byte) (r : Rt) :
    ringReportOnly r (post e kind subject detail r) := rfl

theorem linkUp_ringReportOnly (e : Env) (port : Port) (r : Rt) : ringReportOnly r (linkUp e port r) := by
  simp only [linkUp]
  split <;> rfl

theorem forwardTo_ringReportOnly (e : Env) (port : Port) (f : Frame) (r : Rt) : ringReportOnly r (forwardTo e port f r) := by
  simp only [forwardTo]
  split
  · rfl
  · split <;> rfl

theorem answer_ringReportOnly (e : Env) (f : Frame) (x : Result) (r : Rt) : ringReportOnly r (answer e f x r) := by
  unfold answer
  split
  · rfl
  · split <;> rfl

/-! ### Properties that a disposition keeps -/

/-- The change of the part keeps the property. -/
def Keeps (P : Part → Prop) (f : Part → Part) : Prop := ∀ p : Part, P p → P (f p)

/-- The Ring Interface and the Report Unit have no bearing on the property. -/
def RingFree (P : Part → Prop) : Prop := ∀ (e : Env) (r r' : Rt), ringReportOnly r r' → P ⟨e, r⟩ → P ⟨e, r'⟩

section
variable {P : Part → Prop}

theorem onRt_keeps_of_ringFree (hP : RingFree P) {f : Env → Rt → Rt} (hf : ∀ e r, ringReportOnly r (f e r)) :
    Keeps P fun p => p.onRt f := fun p h => hP p.env p.rt _ (hf p.env p.rt) h

theorem linkUp_keeps (hP : RingFree P) (port : Port) : Keeps P fun p => p.onRt fun e r => linkUp e port r :=
  onRt_keeps_of_ringFree hP fun e r => linkUp_ringReportOnly e port r

theorem forwardTo_keeps (hP : RingFree P) (port : Port) (f : Frame) : Keeps P fun p => p.onRt fun e r => forwardTo e port f r :=
  onRt_keeps_of_ringFree hP fun e r => forwardTo_ringReportOnly e port f r

theorem setCrcFlag_keeps (hP : RingFree P) : Keeps P fun p => p.onRt fun _ r => setCrcFlag r :=
  onRt_keeps_of_ringFree hP fun _ _ => rfl

theorem whenDue_keeps (i : Instr) {f : Part → Part} (hf : ∀ p, timeDue p.env p.rt i = true → P p → P (f p)) :
    Keeps P (Part.whenDue i f) := by
  intro p h
  unfold Part.whenDue
  split
  · next due => exact hf p due h
  · exact h

theorem commandUnit_keeps (hP : RingFree P) (f : Frame) (d : Decoding) {owner : Owner} (ho : Keeps P fun p => (owner p).1) :
    Keeps P (commandUnit f d owner) := by
  intro p h
  have answered : ∀ x, Keeps P fun p => p.onRt fun e r => answer e f x r := fun x =>
    onRt_keeps_of_ringFree hP fun e r => answer_ringReportOnly e f x r
  unfold commandUnit
  split
  · exact h
  · split
    · exact onRt_keeps_of_ringFree hP (fun e r => post_ringReportOnly e .commandRefused _ _ r) p h
    · split
      · exact answered _ p h
      · split
        · exact h
        · exact answered (owner p).2 _ (ho p h)

theorem headFrame_keeps (hP : RingFree P) (f : Frame) (d : Decoding) {owner : Owner} (ho : Keeps P fun p => (owner p).1) :
    Keeps P (headFrame f d owner) := by
  intro p h
  have arrived := linkUp_keeps hP .head p h
  simp only [headFrame]
  split
  · split
    · exact commandUnit_keeps hP f d ho _ arrived
    · split
      · exact forwardTo_keeps hP .field f _ (commandUnit_keeps hP f d ho _ arrived)
      · exact forwardTo_keeps hP .field f _ arrived
  · exact setCrcFlag_keeps hP p h

theorem fieldFrame_keeps (hP : RingFree P) (f : Frame) {block : Part → Part} (hb : Keeps P block) (forwarded : Bool) :
    Keeps P (fieldFrame f block forwarded) := by
  intro p h
  have arrived := linkUp_keeps hP .field p h
  simp only [fieldFrame]
  split
  · split
    · split
      · exact forwardTo_keeps hP .head f _ (hb _ arrived)
      · exact hb _ arrived
    · exact forwardTo_keeps hP .head f _ arrived
  · exact setCrcFlag_keeps hP p h

theorem forwardOnly_keeps (hP : RingFree P) (port : Port) (f : Frame) : Keeps P (forwardOnly port f) := by
  intro p h
  have arrived := linkUp_keeps hP port p h
  simp only [forwardOnly]
  split
  · split
    · exact forwardTo_keeps hP .field f _ arrived
    · split
      · exact arrived
      · exact forwardTo_keeps hP .head f _ arrived
  · exact setCrcFlag_keeps hP p h

theorem dropForeign_keeps (hP : RingFree P) (port : Port) (f : Frame) : Keeps P (dropForeign port f) := by
  intro p h
  unfold dropForeign
  split
  · exact onRt_keeps_of_ringFree hP
      (fun e r => (linkUp_ringReportOnly e port r).trans (post_ringReportOnly e .foreignAspect _ _ _)) p h
  · exact setCrcFlag_keeps hP p h

theorem telegramFrame_keeps (hP : RingFree P) (type : TelegramType) (h : Header) (pl : List Byte)
    (hb : Keeps P (tramBlock type h.src pl)) : Keeps P (telegramFrame type h pl) := by
  intro p hp
  unfold telegramFrame
  split
  · exact fieldFrame_keeps hP _ hb true p hp
  · exact hp

/-- A write at the head port keeps what its store keeps. -/
theorem write_keeps (hP : RingFree P) {ι α : Type} (f : Frame) (d : Decoding) (w : Option WriteOperand) (safety : Bool)
    (index : WriteOperand → Option ι) (entry : WriteOperand → ι → Option (Option α))
    (check : Rt → ι → Option α → Option Inconsistency) (store : ι → Option α → Part → Part)
    (hs : ∀ i x, Keeps P (store i x)) :
    Keeps P (headFrame f d (match w with
      | some w => tableOwner safety (index w) (entry w) check store
      | none => fun p => (p, ⟨.badLength, []⟩))) := by
  refine headFrame_keeps hP _ _ fun p h => ?_
  dsimp only
  split
  · unfold tableOwner
    split
    · exact h
    · split
      · exact h
      · split
        · exact h
        · split
          · exact h
          · exact hs _ _ p h
  · exact h

/-- A frame of no command kind asks nothing of its addressee's blocks. -/
theorem badKind_keeps (hP : RingFree P) (f : Frame) (d : Decoding) : Keeps P (headFrame f d fun p => (p, ⟨.badKind, []⟩)) :=
  headFrame_keeps hP f d fun _ h => h

theorem execBadKindFrame_keeps (hP : RingFree P) (h : Header) (kind : Byte) (pl : List Byte) (s : State) :
    ∃ f, execBadKindFrame h kind pl s = s.onPart f ∧ Keeps P f := by
  refine ⟨_, rfl, fun p hp => ?_⟩
  split
  · exact badKind_keeps hP _ _ p hp
  · exact hp

theorem execForwardFrame_keeps (hP : RingFree P) (port : Port) (h : Header) (kind : Byte) (pl : List Byte) (s : State) :
    ∃ f, execForwardFrame port h kind pl s = s.onPart f ∧ Keeps P f := by
  refine ⟨_, rfl, fun p hp => ?_⟩
  split
  · exact forwardOnly_keeps hP _ _ p hp
  · exact hp

theorem execCrcErrorFrame_keeps (hP : RingFree P) (port : Port) (bytes : List Byte) (s : State) :
    ∃ f, execCrcErrorFrame port bytes s = s.onPart f ∧ Keeps P f := by
  refine ⟨_, rfl, fun p hp => ?_⟩
  split
  · exact setCrcFlag_keeps hP p hp
  · exact hp

end

end Sys2Proof.Machine

/-! SUPPORT. Proofs of the statements of the family 03_junction_modes_start_up_and_control_ownership: the control source, the
keepalive and the Stage Engine's phase that every step keeps within what the mode allows. -/

namespace Sys2Proof.Machine

/-! ### The invariant, mode by mode -/

/-- What ownership is read from: mode and sub-phase, control source, keepalive state, and the Stage Engine's phase. -/
def Rt.control (r : Rt) : Mode × SubPhase × Source × KeepState × Phase :=
  (r.mode.mode, r.mode.sub, r.mode.source, r.mode.keep.state, r.stage.phase)

theorem ownershipFits_congr {r r' : Rt} (h : r'.control = r.control) (hf : r.OwnershipFitsMode) : r'.OwnershipFitsMode := by
  simp only [Rt.control, Prod.mk.injEq] at h
  obtain ⟨mode, sub, source, keep, phase⟩ := h
  simpa only [Rt.OwnershipFitsMode, mode, sub, source, keep, phase] using hf

theorem ownershipFits_of_atRest {r : Rt} (hm : stagesRun r.mode.mode = false) (hs : r.mode.source = .none)
    (hp : r.stage.phase = .idle) : r.OwnershipFitsMode := by
  cases h : r.mode.mode <;> simp [h, stagesRun] at hm <;> simp [Rt.OwnershipFitsMode, h, hs, hp]

theorem ownershipFits_of_startup {r : Rt} (hm : r.mode.mode = .startup) (hs : r.mode.source = .autonomous)
    (hp : r.mode.sub = .startFlash ∨ r.mode.sub = .allRed → r.stage.phase = .idle) : r.OwnershipFitsMode := by
  simp only [Rt.OwnershipFitsMode, hm, hs]
  simpa using hp

theorem ownershipFits_of_running {r : Rt} (hm : r.mode.mode = .running) (hs : r.mode.source ≠ .none)
    (hp : r.stage.phase ≠ .idle) (hk : r.mode.source = .directed → r.mode.keep.state ≠ .inactive) : r.OwnershipFitsMode := by
  simp only [Rt.OwnershipFitsMode, hm]
  simpa [hs, hp] using hk

theorem ownershipFits_of_shutdown {r : Rt} (hm : r.mode.mode = .shutdown) (hs : r.mode.source = .none) : r.OwnershipFitsMode := by
  simp [Rt.OwnershipFitsMode, hm, hs]

section
variable {e : Env} {r : Rt}

theorem source_of_startup (h : r.OwnershipFitsMode) (hm : r.mode.mode = .startup) : r.mode.source = .autonomous := h.2.1 hm

theorem source_of_shutdown (h : r.OwnershipFitsMode) (hm : r.mode.mode = .shutdown) : r.mode.source = .none :=
  h.1 (.inr (.inr hm))

/-- In DARK and FLASH no source is in control and the Stage Engine is in IDLE. -/
theorem atRest_of_fits (h : r.OwnershipFitsMode) (hm : stagesRun r.mode.mode = false) :
    r.mode.source = .none ∧ r.stage.phase = .idle := by
  obtain ⟨source, -, -, -, phase⟩ := h
  cases hr : r.mode.mode <;> simp [hr, stagesRun] at hm <;> simp [hr] at source phase <;> exact ⟨source, phase⟩

/-- A source that only RUNNING knows is in control in RUNNING alone (R51). -/
theorem running_of_source (h : r.OwnershipFitsMode) (hn : r.mode.source ≠ .none) (ha : r.mode.source ≠ .autonomous) :
    r.mode.mode = .running := by
  obtain ⟨source, startup, -⟩ := h
  cases hr : r.mode.mode <;> simp [hr, hn, ha] at source startup ⊢

/-- Outside DARK, FLASH and the early sub-phases of STARTUP the phase may be any but, in RUNNING, IDLE. -/
theorem ownershipFits_of_phase {r' : Rt} (h : r.OwnershipFitsMode) (hm : r'.mode = r.mode) (hb : r.stage.phase ≠ .idle)
    (ha : r'.stage.phase ≠ .idle) : r'.OwnershipFitsMode := by
  obtain ⟨source, startup, running, directed, idle⟩ := h
  simp only [Rt.OwnershipFitsMode, hm]
  exact ⟨source, startup, fun hr => ⟨(running hr).1, ha⟩, directed, fun hi => absurd (idle hi) hb⟩

/-! ### Fault notices -/

theorem takeNotice_ownershipFits (n : FaultNotice) (h : r.OwnershipFitsMode) : (takeNotice e n r).OwnershipFitsMode := by
  by_cases hm : stagesRun r.mode.mode = true
  · obtain ⟨mode, -, -, stage, -⟩ := takeNotice_values (e := e) (n := n) hm
    exact ownershipFits_of_atRest (by simp [mode, stagesRun]) (by simp [mode]) (by simp [stage, StageUnit.idled])
  · rw [takeNotice_quiet e n r (by simpa using hm)]
    exact ownershipFits_congr (by simp [Rt.control]) h

theorem takeFaults_ownershipFits (h : r.OwnershipFitsMode) : (takeFaults e r).OwnershipFitsMode :=
  foldl_inv Rt.OwnershipFitsMode _ (fun _ n h => takeNotice_ownershipFits n h) _ _ (ownershipFits_congr rfl h)

theorem takeNotice_idle (n : FaultNotice) (h : r.stage.phase = .idle) : (takeNotice e n r).stage.phase = .idle := by
  by_cases hm : stagesRun r.mode.mode = true
  · obtain ⟨-, -, -, stage, -⟩ := takeNotice_values (e := e) (n := n) hm
    simp [stage, StageUnit.idled]
  · rw [takeNotice_quiet e n r (by simpa using hm)]
    simpa using h

/-- A fault notice leaves the Stage Engine in IDLE where it is there. -/
theorem takeFaults_idle (h : r.stage.phase = .idle) : (takeFaults e r).stage.phase = .idle :=
  foldl_inv (fun u => u.stage.phase = .idle) _ (fun _ n h => takeNotice_idle n h) _ _ h

/-! ### Readings of the conditions (R72 to R87) -/

theorem orderGreenEnds_phase (l : List Group) : (l.foldl (fun r g => orderGreenEnd e g r) r).stage.phase = r.stage.phase :=
  foldl_inv (fun u => u.stage.phase = r.stage.phase) _ (fun u g h => by simpa using h) l r rfl

/-- A stage that ends goes over to an interstage (R79); without a current stage nothing happens. -/
theorem endStage_phase (s : Stage) (cause : EndCause) (tr late : Bool) (hp : r.stage.phase ≠ .idle) :
    (endStage e s cause tr late r).stage.phase ≠ .idle := by
  unfold endStage
  split
  · exact hp
  · refine foldl_inv (fun u => u.stage.phase ≠ .idle) _ (fun u x h => by simpa using h) _ _ ?_
    rw [orderGreenEnds_phase]
    simp

theorem autonomousStep_phase (hp : r.stage.phase ≠ .idle) : (autonomousStep e r).1.stage.phase ≠ .idle := by
  simp only [autonomousStep]
  split
  · split <;> simpa using hp
  · split
    · exact endStage_phase _ _ _ _ hp
    · split
      · split
        · exact endStage_phase _ _ _ _ hp
        · split <;> simpa [maxGreenLapse] using hp
      · split <;> simpa [maxGreenLapse] using hp

theorem directedStep_phase (hp : r.stage.phase ≠ .idle) : (directedStep e r).1.stage.phase ≠ .idle := by
  unfold directedStep
  split
  · exact hp
  · split
    · exact hp
    · split
      · simpa using hp
      · split
        · simpa using hp
        · exact endStage_phase _ _ _ _ (by simpa using hp)

theorem manualStep_phase (hp : r.stage.phase ≠ .idle) : (manualStep e r).1.stage.phase ≠ .idle := by
  unfold manualStep
  split
  · split
    · exact endStage_phase _ _ _ _ (by simpa using hp)
    · simpa using hp
  · exact hp

theorem manualStep_ownershipFits (h : r.OwnershipFitsMode) (hp : r.stage.phase ≠ .idle) :
    (manualStep e r).1.OwnershipFitsMode := by
  have mode : r.OwnershipFitsMode → ({ r with mode := (manualStep e r).1.mode } : Rt).OwnershipFitsMode :=
    ownershipFits_congr (by simp [Rt.control])
  exact ownershipFits_of_phase (mode h) rfl hp (manualStep_phase hp)

theorem stageEntered_phase (k : Interstage) : (stageEntered e k r).stage.phase ≠ .idle := by
  simp only [stageEntered, Rt.withPriority_fields, post_frame, Rt.withStage_fields]
  split <;> simp

/-- A stage that starts in STARTUP brings RUNNING under the source AUTONOMOUS, which STARTUP has (R43, R51, R67). -/
theorem stageStart_ownershipFits (k : Interstage) (h : r.OwnershipFitsMode) (hp : r.stage.phase ≠ .idle) :
    (stageStart e k r).OwnershipFitsMode := by
  have entered := stageEntered_phase (e := e) (r := r) k
  rw [stageStart_eq, stageEntered_mode]
  split
  · next hm =>
    have source := source_of_startup h hm
    rw [setMode_running e _ (by simp [stageEntered_mode, hm])]
    exact ownershipFits_of_running (by simp) (by simp [stageEntered_mode, source]) (by simpa using entered)
      (by simp [stageEntered_mode, source])
  · exact ownershipFits_of_phase h (by simp [stageEntered_mode]) hp (by simpa using entered)

theorem clearingAll_ownershipFits (h : r.OwnershipFitsMode) (hm : r.mode.mode = .shutdown) :
    (clearingAll e r).OwnershipFitsMode :=
  ownershipFits_of_shutdown (by simp [clearingAll, setMode_mode]) (by simpa using source_of_shutdown h hm)

theorem shutdownAllRed_ownershipFits (h : r.OwnershipFitsMode) (hm : r.mode.mode = .shutdown) :
    (shutdownAllRed e r).OwnershipFitsMode :=
  ownershipFits_of_shutdown (by simp [shutdownAllRed, setMode_mode]) (by simpa using source_of_shutdown h hm)

theorem stageEval_ownershipFits (h : r.OwnershipFitsMode) : (stageEval e r).1.OwnershipFitsMode := by
  unfold stageEval
  split
  · next hp =>
    split
    · split
      · exact stageStart_ownershipFits _ h (by simp [hp])
      · exact h
    · exact h
  · exact h
  · next hp =>
    have out : r.stage.phase ≠ .idle := by simp [hp]
    split
    · exact ownershipFits_of_phase h (by simp) out (autonomousStep_phase out)
    · exact ownershipFits_of_phase h (by simp) out (directedStep_phase out)
    · exact manualStep_ownershipFits h out
    · next hm =>
      split
      · exact clearingAll_ownershipFits h hm
      · exact h
    · exact h
  · split
    · next hm => exact shutdownAllRed_ownershipFits h hm.1
    · exact h

theorem settleFor_ownershipFits (n : Nat) (h : r.OwnershipFitsMode) : (settleFor e n r).OwnershipFitsMode := by
  induction n generalizing r with
  | zero => exact h
  | succ n ih =>
    have checked : (stageEval e (maxGreenCheck e r)).1.OwnershipFitsMode :=
      stageEval_ownershipFits (ownershipFits_congr (by simp [Rt.control]) h)
    simp only [settleFor]
    split
    · next hr => rw [hr] at checked; exact ih checked
    · next hr => rw [hr] at checked; exact ownershipFits_congr (by simp [Rt.control]) checked

theorem finish_ownershipFits (h : r.OwnershipFitsMode) : (finish e r).OwnershipFitsMode :=
  takeFaults_ownershipFits (settleFor_ownershipFits _ (takeFaults_ownershipFits h))

/-! ### Owners and moments that change mode or phase -/

theorem flashEntered_ownershipFits (hs : r.mode.source = .none) : (setMode e .flash .none (flashOrder e r)).OwnershipFitsMode :=
  ownershipFits_of_atRest (by simp [setMode_mode, stagesRun]) (by simpa using hs) (by simp [setMode_flash_stage, StageUnit.idled])

theorem darkEntered_ownershipFits (hs : r.mode.source = .none) : (setMode e .dark .none (darkOrder e r)).OwnershipFitsMode :=
  ownershipFits_of_atRest (by simp [setMode_mode, stagesRun]) (by simpa using hs) (by simp [setMode_dark_stage, StageUnit.idled])

theorem startupAllRed_ownershipFits (hs : r.mode.source = .autonomous) (hp : r.stage.phase = .idle) :
    (startupAllRed e r).OwnershipFitsMode :=
  ownershipFits_of_startup (by simp [startupAllRed, setMode_mode]) (by simpa using hs)
    (by simp [startupAllRed, setMode_stage_startup, hp])

theorem firstStart_ownershipFits (hs : r.mode.source = .autonomous) : (firstStart e r).OwnershipFitsMode := by
  have entered : (firstStart e r).mode.mode = .startup ∧ (firstStart e r).mode.sub = .firstStart := by
    simp only [firstStart]
    split <;> simp [setMode_mode]
  exact ownershipFits_of_startup entered.1 (by simpa using hs) (by simp [entered.2])

theorem enterShutdown_ownershipFits : (enterShutdown e r).OwnershipFitsMode :=
  ownershipFits_of_shutdown (by simp [enterShutdown, dropStep, setMode_mode]) (by simp [enterShutdown, dropStep, setSource_mode])

/-- START (R41, R42): from FLASH, where the Stage Engine is in IDLE, the source becomes AUTONOMOUS with STARTUP. -/
theorem startUp_ownershipFits (p : PlanEntry) (h : r.OwnershipFitsMode) (hm : r.mode.mode = .flash) :
    (startUp e p r).OwnershipFitsMode := by
  obtain ⟨-, idle⟩ := atRest_of_fits h (by simp [hm, stagesRun])
  obtain ⟨mode, -, -, stage, -⟩ := startFlashBegun_values e p r (by simp [hm])
  have begun : (startFlashBegun e p r).OwnershipFitsMode :=
    ownershipFits_of_startup (by simp [mode]) (by simp [mode]) (by simp [stage, idle])
  have taken := takeFaults_ownershipFits (e := e) begun
  rw [startUp_eq]
  split
  · next hs =>
    exact startupAllRed_ownershipFits (source_of_startup taken hs.1) (takeFaults_idle (by simp [stage, idle]))
  · exact taken

/-- The mode of a RESTART is DARK or FLASH, with no source and the Stage Engine in IDLE (R50). -/
theorem restartOwner_ownershipFits : (restartOwner e r).1.OwnershipFitsMode := by
  rw [restartOwner_eq]
  exact takeFaults_ownershipFits (ownershipFits_of_atRest
    (by simp [restartFramed, restartBlocks, restartControl, restartMode, restartTo_quiet])
    (by simp [restartFramed, restartBlocks, restartControl, restartMode, setSource_mode])
    (by simp [restartFramed, restartBlocks, restartControl, stageIdle]))

/-! ### Changes of source and keepalive -/

/-- Another source of RUNNING takes control (R51): DIRECTED while the keepalive is not INACTIVE alone. -/
theorem setSource_ownershipFits {src : Source} (h : r.OwnershipFitsMode) (hm : r.mode.mode = .running) (hs : src ≠ .none)
    (hk : src = .directed → r.mode.keep.state ≠ .inactive) : (setSource e src r).OwnershipFitsMode := by
  obtain ⟨-, -, running, -⟩ := h
  exact ownershipFits_of_running (by simpa using hm) (by simpa [setSource_mode] using hs) (by simpa using (running hm).2)
    (by simpa [setSource_mode] using hk)

theorem endDirected_source : (endDirected e r).mode.source = if r.mode.source = .directed then .autonomous else r.mode.source := by
  unfold endDirected
  split <;> simp [setSource_mode]

/-- DIRECTED that ends leaves AUTONOMOUS, whatever becomes of the keepalive (R53, R58). -/
theorem endDirected_ownershipFits {k : Keepalive} (h : r.OwnershipFitsMode) {u : Rt} (hu : u.mode = { r.mode with keep := k })
    (hp : u.stage.phase = r.stage.phase) : (endDirected e u).OwnershipFitsMode := by
  have source := endDirected_source (e := e) (r := u)
  have mode : u.mode.mode = r.mode.mode ∧ u.mode.sub = r.mode.sub ∧ u.mode.source = r.mode.source := by simp [hu]
  obtain ⟨umode, usub, usource⟩ := mode
  by_cases hd : r.mode.source = .directed
  · have running := running_of_source h (by simp [hd]) (by simp [hd])
    obtain ⟨-, -, stays, -⟩ := h
    rw [usource, if_pos hd] at source
    exact ownershipFits_of_running (by simpa [umode] using running) (by simp [source]) (by simpa [hp] using (stays running).2)
      (by simp [source])
  · rw [usource, if_neg hd] at source
    obtain ⟨quiet, startup, running, -, idle⟩ := h
    simp only [Rt.OwnershipFitsMode, endDirected_frame, umode, usub, source, hp]
    exact ⟨quiet, startup, running, fun h => absurd h hd, idle⟩

theorem lapse_ownershipFits (c : LapseCause) (h : r.OwnershipFitsMode) : (lapse e c r).OwnershipFitsMode :=
  endDirected_ownershipFits (k := {}) h (by simp) (by simp)

theorem windowRun_ownershipFits (h : r.OwnershipFitsMode) : (windowRun e r).OwnershipFitsMode := by
  unfold windowRun
  split
  · exact lapse_ownershipFits .window h
  · exact h

/-- A keepalive that is not INACTIVE allows whatever the mode allowed. -/
theorem ownershipFits_of_keep {k : Keepalive} (h : r.OwnershipFitsMode) (hk : k.state ≠ .inactive) :
    (r.withMode fun m => { m with keep := k }).OwnershipFitsMode := by
  obtain ⟨source, startup, running, -, idle⟩ := h
  exact ⟨source, startup, running, fun _ => hk, idle⟩

theorem armRun_ownershipFits (h : r.OwnershipFitsMode) : (armRun e r).OwnershipFitsMode := by
  unfold armRun
  split
  · split
    · exact ownershipFits_of_keep h (by simp)
    · exact lapse_ownershipFits .arm h
  · exact h

theorem arm_state (now : Time) (k : Keepalive) : (k.arm now).state = .armed := by
  unfold Keepalive.arm
  split <;> simp_all

theorem keepaliveArmOwner_ownershipFits (h : r.OwnershipFitsMode) : (keepaliveArmOwner e r).1.OwnershipFitsMode :=
  ownershipFits_of_keep h (by simp [arm_state])

theorem keepaliveRefreshOwner_ownershipFits (h : r.OwnershipFitsMode) : (keepaliveRefreshOwner e r).1.OwnershipFitsMode := by
  unfold keepaliveRefreshOwner
  split
  · exact ownershipFits_of_keep h (by simp)
  all_goals exact ownershipFits_congr (by simp [Rt.control, refuse]) h

theorem manualOnRun_ownershipFits (h : r.OwnershipFitsMode) : (manualOnRun e r).OwnershipFitsMode := by
  unfold manualOnRun
  split
  · next hm =>
    refine setSource_ownershipFits (ownershipFits_congr ?_ h) ?_ (by simp) (by simp) <;> split <;>
      simp [Rt.control, hm]
  · exact h

theorem manualOffRun_ownershipFits (h : r.OwnershipFitsMode) : (manualOffRun e r).OwnershipFitsMode := by
  unfold manualOffRun
  split
  · next hm => exact setSource_ownershipFits (ownershipFits_congr (by simp [Rt.control]) h) (by simpa using hm.1) (by simp) (by simp)
  · exact h

theorem flashKeyRun_ownershipFits (h : r.OwnershipFitsMode) : (flashKeyRun e r).OwnershipFitsMode := by
  unfold flashKeyRun
  split
  · exact enterShutdown_ownershipFits
  · exact h

theorem minEndRun_ownershipFits (h : r.OwnershipFitsMode) : (minEndRun e r).OwnershipFitsMode := by
  unfold minEndRun
  split
  · split
    · next hp => exact ownershipFits_of_phase h (by simp) (by simp [hp.1]) (by simp)
    · exact h
  · exact h

/-! ### Owners of management frames -/

theorem accept_ownershipFits (h : r.OwnershipFitsMode) : (accept e r).1.OwnershipFitsMode := finish_ownershipFits h

theorem accept_same_ownershipFits {r' : Rt} (h : r.OwnershipFitsMode) (hc : r'.control = r.control) :
    (accept e r').1.OwnershipFitsMode := accept_ownershipFits (ownershipFits_congr hc h)

theorem flashOnOwner_ownershipFits (h : r.OwnershipFitsMode) : (flashOnOwner e r).1.OwnershipFitsMode := by
  unfold flashOnOwner
  split
  · next hm =>
    split
    · exact h
    · exact accept_ownershipFits (flashEntered_ownershipFits (atRest_of_fits h (by simp [hm, stagesRun])).1)
  all_goals exact h

theorem darkOwner_ownershipFits (h : r.OwnershipFitsMode) : (darkOwner e r).1.OwnershipFitsMode := by
  unfold darkOwner
  split
  · exact h
  · next hm => exact accept_ownershipFits (darkEntered_ownershipFits (atRest_of_fits h (by simp [hm, stagesRun])).1)
  all_goals exact h

theorem startOwner_ownershipFits (h : r.OwnershipFitsMode) : (startOwner e r).1.OwnershipFitsMode := by
  unfold startOwner
  split
  · next hm =>
    split
    · exact h
    · split
      · exact h
      · exact accept_ownershipFits (startUp_ownershipFits _ h hm)
      · exact h
  all_goals exact h

theorem stopOwner_ownershipFits (h : r.OwnershipFitsMode) : (stopOwner e r).1.OwnershipFitsMode := by
  unfold stopOwner
  split
  · exact accept_ownershipFits enterShutdown_ownershipFits
  all_goals exact h

theorem clearFaultOwner_ownershipFits (h : r.OwnershipFitsMode) : (clearFaultOwner e r).1.OwnershipFitsMode := by
  unfold clearFaultOwner
  split
  · exact h
  · exact ownershipFits_congr (by simp [Rt.control]) h

theorem takeOwner_ownershipFits (h : r.OwnershipFitsMode) : (takeOwner e r).1.OwnershipFitsMode := by
  unfold takeOwner
  split
  · exact h
  · next hm =>
    split
    · exact h
    · split
      · exact h
      · next hk => exact accept_ownershipFits (setSource_ownershipFits h (not_not.mp hm) (by simp) fun _ => hk)

theorem releaseOwner_ownershipFits (h : r.OwnershipFitsMode) : (releaseOwner e r).1.OwnershipFitsMode := by
  unfold releaseOwner
  split
  · exact h
  · split
    · exact h
    · exact accept_ownershipFits (endDirected_ownershipFits (k := r.mode.keep) h rfl rfl)

theorem directedOwner_ownershipFits {tests : Env → Rt → Rt × Result} (ht : (tests e r).1.OwnershipFitsMode)
    (h : r.OwnershipFitsMode) : (directedOwner tests e r).1.OwnershipFitsMode := by
  unfold directedOwner
  split
  · exact h
  · split
    · exact ownershipFits_congr (by simp [Rt.control, refuse]) h
    · exact ht

theorem goStageTests_ownershipFits (b : Byte) (h : r.OwnershipFitsMode) : (goStageTests b e r).1.OwnershipFitsMode := by
  unfold goStageTests
  split
  · exact h
  · split
    · exact h
    · split
      · exact accept_same_ownershipFits h (by simp [Rt.control])
      · exact h

theorem holdTests_ownershipFits (b : Byte) (h : r.OwnershipFitsMode) : (holdTests b e r).1.OwnershipFitsMode := by
  unfold holdTests
  split
  · exact accept_same_ownershipFits h (by simp [Rt.control])
  · exact h

theorem planSelectOwner_ownershipFits (b : Byte) (h : r.OwnershipFitsMode) : (planSelectOwner b e r).1.OwnershipFitsMode := by
  unfold planSelectOwner
  split
  · exact h
  · split
    · exact h
    · split
      · exact h
      · exact ownershipFits_congr (by simp [Rt.control]) h

theorem softDemandOwner_ownershipFits (b v : Byte) (h : r.OwnershipFitsMode) :
    (softDemandOwner b v e r).1.OwnershipFitsMode := by
  unfold softDemandOwner
  split
  · exact h
  · split
    · exact h
    · split
      · exact h
      · split
        · exact h
        · exact accept_same_ownershipFits h (by simp [Rt.control])

theorem priorityEnableOwner_ownershipFits (b : Byte) (h : r.OwnershipFitsMode) :
    (priorityEnableOwner b e r).1.OwnershipFitsMode := by
  unfold priorityEnableOwner
  split
  · exact h
  · exact accept_same_ownershipFits h (by simp [Rt.control])

theorem cancelTramOwner_ownershipFits (line run : Nat) (h : r.OwnershipFitsMode) :
    (cancelTramOwner line run e r).1.OwnershipFitsMode := by
  unfold cancelTramOwner
  split
  · split
    · exact h
    · exact accept_same_ownershipFits h (by simp [Rt.control])
  · exact h

theorem readOwner_ownershipFits (pl : List Byte) (h : r.OwnershipFitsMode) : (readOwner pl e r).1.OwnershipFitsMode := by
  unfold readOwner
  split <;> exact h

theorem tramTableOwner_ownershipFits (b : Byte) (h : r.OwnershipFitsMode) : (tramTableOwner b e r).1.OwnershipFitsMode := by
  unfold tramTableOwner
  split <;> exact h

end

/-! ### Every command -/

/-- Ownership fits the mode in the part's blocks. -/
def Part.ownershipFits (p : Part) : Prop := p.rt.OwnershipFitsMode

theorem ownershipFits_ringFree : RingFree Part.ownershipFits := fun _ r r' h hf => by
  unfold ringReportOnly at h
  exact ownershipFits_congr (by rw [h]; rfl) hf

theorem onRt_keepsOwnership {f : Env → Rt → Rt} (hf : ∀ e r, (f e r).control = r.control) :
    Keeps Part.ownershipFits fun p => p.onRt f := fun _ h => ownershipFits_congr (hf _ _) h

theorem act_keepsOwnership {f : Env → Rt → Rt} (hf : ∀ {e : Env} {r : Rt}, r.OwnershipFitsMode → (f e r).OwnershipFitsMode) :
    Keeps Part.ownershipFits fun p => p.act f := fun _ h => finish_ownershipFits (hf h)

theorem act_same_keepsOwnership {f : Env → Rt → Rt} (hf : ∀ e r, (f e r).control = r.control) :
    Keeps Part.ownershipFits fun p => p.act f := act_keepsOwnership fun h => ownershipFits_congr (hf _ _) h

theorem actQuiet_keepsOwnership {f : Env → Rt → Rt} (hf : ∀ e r, (f e r).control = r.control) :
    Keeps Part.ownershipFits fun p => p.actQuiet f := fun _ h => takeFaults_ownershipFits (ownershipFits_congr (hf _ _) h)

/-- A moment that has come, whose event keeps ownership. -/
theorem moment_keepsOwnership (i : Instr) {f : Part → Part} (hf : Keeps Part.ownershipFits f) :
    Keeps Part.ownershipFits (Part.whenDue i f) := whenDue_keeps i fun p _ h => hf p h

/-- The end of a sub-phase, whose event keeps ownership where the sub-phase is the one that ends. -/
theorem phaseEnd_keepsOwnership {i : Instr} {mode : Mode} {sub : SubPhase} {f : Env → Rt → Rt}
    (hi : ∀ e r, timeDue e r i = phaseOver e r mode sub)
    (hf : ∀ {e : Env} {r : Rt}, r.mode.mode = mode → r.mode.sub = sub → r.OwnershipFitsMode → (f e r).OwnershipFitsMode) :
    Keeps Part.ownershipFits (Part.whenDue i fun p => p.act f) := by
  refine whenDue_keeps i fun p due h => finish_ownershipFits (hf ?_ ?_ h) <;>
    simp [hi, phaseOver] at due <;> simp [due]

theorem headFrame_keepsOwnership (f : Frame) (d : Decoding) {owner : Env → Rt → Rt × Result}
    (ho : ∀ {e : Env} {r : Rt}, r.OwnershipFitsMode → (owner e r).1.OwnershipFitsMode) :
    Keeps Part.ownershipFits (headFrame f d (onBlocks owner)) :=
  headFrame_keeps ownershipFits_ringFree f d fun _ h => ho h

theorem lampBlock_keepsOwnership (src : Byte) (pl : List Byte) : Keeps Part.ownershipFits (lampBlock src pl) := by
  intro p h
  unfold lampBlock
  split
  · exact act_same_keepsOwnership (by simp [Rt.control]) p h
  · exact actQuiet_keepsOwnership (by simp [Rt.control]) p h

theorem tramBlock_keepsOwnership (type : TelegramType) (src : Byte) (pl : List Byte) :
    Keeps Part.ownershipFits (tramBlock type src pl) :=
  act_same_keepsOwnership fun e r => by split <;> simp [Rt.control]

theorem storeGroup_keepsOwnership (g : Group) (x : Option GroupEntry) : Keeps Part.ownershipFits (storeGroup g x) := fun p h => by
  refine takeFaults_ownershipFits (ownershipFits_congr ?_ h)
  split <;> simp [Rt.control]

theorem storeLoop_keepsOwnership (l : Loop) (x : Option LoopEntry) : Keeps Part.ownershipFits (storeLoop l x) := fun _ h =>
  finish_ownershipFits (ownershipFits_congr (by simp [Rt.control]) h)

theorem storeAssign_keepsOwnership (a : Assign) (x : Option AssignEntry) : Keeps Part.ownershipFits (storeAssign a x) := fun p h => by
  refine finish_ownershipFits (ownershipFits_congr ?_ h)
  split
  · split <;> simp [Rt.control]
  · simp [Rt.control]

theorem storeButton_keepsOwnership (n : Entry) (x : Option ButtonEntry) : Keeps Part.ownershipFits (storeButton n x) := fun p h => by
  simp only [storeButton]
  split
  · exact h
  · exact ownershipFits_congr (by simp [Rt.control, Part.onRt, storeOnly]) h

theorem storeSettings_keepsOwnership (u : Unit) (x : Option Settings) : Keeps Part.ownershipFits (storeSettings u x) := fun p h => by
  unfold storeSettings
  split <;> exact h

/-- Every command is a change of the part that keeps ownership within what the mode allows. -/
theorem exec_keepsOwnership (i : Instr) (s : State) : ∃ f, exec i s = s.onPart f ∧ Keeps Part.ownershipFits f := by
  have ring := ownershipFits_ringFree
  cases i with
  | powerOn strap => exact ⟨fun _ => { env := { strap := strap } }, rfl, fun _ _ => ownershipFits_of_atRest (r := {}) rfl rfl rfl⟩
  | flashOn => exact ⟨_, rfl, headFrame_keepsOwnership _ _ flashOnOwner_ownershipFits⟩
  | dark => exact ⟨_, rfl, headFrame_keepsOwnership _ _ darkOwner_ownershipFits⟩
  | start => exact ⟨_, rfl, headFrame_keepsOwnership _ _ startOwner_ownershipFits⟩
  | stop => exact ⟨_, rfl, headFrame_keepsOwnership _ _ stopOwner_ownershipFits⟩
  | restart => exact ⟨_, rfl, headFrame_keepsOwnership _ _ fun _ => restartOwner_ownershipFits⟩
  | clearFault => exact ⟨_, rfl, headFrame_keepsOwnership _ _ clearFaultOwner_ownershipFits⟩
  | take => exact ⟨_, rfl, headFrame_keepsOwnership _ _ takeOwner_ownershipFits⟩
  | release => exact ⟨_, rfl, headFrame_keepsOwnership _ _ releaseOwner_ownershipFits⟩
  | goStage =>
    exact ⟨_, rfl, headFrame_keepsOwnership _ _ fun h => directedOwner_ownershipFits (goStageTests_ownershipFits _ h) h⟩
  | hold => exact ⟨_, rfl, headFrame_keepsOwnership _ _ fun h => directedOwner_ownershipFits (holdTests_ownershipFits _ h) h⟩
  | planSelect => exact ⟨_, rfl, headFrame_keepsOwnership _ _ (planSelectOwner_ownershipFits _)⟩
  | softDemand => exact ⟨_, rfl, headFrame_keepsOwnership _ _ (softDemandOwner_ownershipFits _ _)⟩
  | priorityEnable => exact ⟨_, rfl, headFrame_keepsOwnership _ _ (priorityEnableOwner_ownershipFits _)⟩
  | cancelTram => exact ⟨_, rfl, headFrame_keepsOwnership _ _ (cancelTramOwner_ownershipFits _ _)⟩
  | keepaliveArm => exact ⟨_, rfl, headFrame_keepsOwnership _ _ keepaliveArmOwner_ownershipFits⟩
  | keepaliveRefresh => exact ⟨_, rfl, headFrame_keepsOwnership _ _ keepaliveRefreshOwner_ownershipFits⟩
  | tableWriteGroup => exact ⟨_, rfl, write_keeps ring _ _ _ _ _ _ _ _ storeGroup_keepsOwnership⟩
  | tableWriteConflict | tableWriteIntergreen | tableWriteStage | tableWritePermitted | tableWritePlan | tableWriteRoute =>
    exact ⟨_, rfl, write_keeps ring _ _ _ _ _ _ _ _ fun _ _ _ h => h⟩
  | tableWriteLoop => exact ⟨_, rfl, write_keeps ring _ _ _ _ _ _ _ _ storeLoop_keepsOwnership⟩
  | tableWriteAssignment => exact ⟨_, rfl, write_keeps ring _ _ _ _ _ _ _ _ storeAssign_keepsOwnership⟩
  | tableWriteButton => exact ⟨_, rfl, write_keeps ring _ _ _ _ _ _ _ _ storeButton_keepsOwnership⟩
  | tableWriteSettings => exact ⟨_, rfl, write_keeps ring _ _ _ _ _ _ _ _ storeSettings_keepsOwnership⟩
  | tableRead => exact ⟨_, rfl, headFrame_keepsOwnership _ _ (readOwner_ownershipFits _)⟩
  | queryStatus | queryCounts | queryFaultRecord =>
    exact ⟨_, rfl, headFrame_keepsOwnership _ _ fun h => ownershipFits_congr rfl h⟩
  | queryTramTable => exact ⟨_, rfl, headFrame_keepsOwnership _ _ (tramTableOwner_ownershipFits _)⟩
  | badKindFrame => exact execBadKindFrame_keeps ring _ _ _ s
  | loopCounts => exact ⟨_, rfl, fieldFrame_keeps ring _ (act_same_keepsOwnership (by simp [Rt.control])) _⟩
  | telegramCheckIn | telegramDoorClosed | telegramCheckOut | telegramCancel =>
    exact ⟨_, rfl, telegramFrame_keeps ring _ _ _ (tramBlock_keepsOwnership _ _ _)⟩
  | lampStatus => exact ⟨_, rfl, fieldFrame_keeps ring _ (lampBlock_keepsOwnership _ _) _⟩
  | flashKey => exact ⟨_, rfl, fieldFrame_keeps ring _ (act_keepsOwnership flashKeyRun_ownershipFits) _⟩
  | manualOn => exact ⟨_, rfl, fieldFrame_keeps ring _ (act_keepsOwnership manualOnRun_ownershipFits) _⟩
  | manualOff => exact ⟨_, rfl, fieldFrame_keeps ring _ (act_keepsOwnership manualOffRun_ownershipFits) _⟩
  | stepKey | pushButton => exact ⟨_, rfl, fieldFrame_keeps ring _ (act_same_keepsOwnership (by simp [Rt.control])) _⟩
  | sensorReading => exact ⟨_, rfl, fieldFrame_keeps ring _ (onRt_keepsOwnership (by simp [Rt.control])) _⟩
  | foreignAspect => exact ⟨_, rfl, dropForeign_keeps ring _ _⟩
  | forwardFrame => exact execForwardFrame_keeps ring _ _ _ _ s
  | crcErrorFrame port => exact execCrcErrorFrame_keeps ring port _ s
  | headPortGrant | fieldPortGrant => exact ⟨_, rfl, onRt_keepsOwnership (by simp [Rt.control])⟩
  | linkTimeout | forwardAgeDiscard | minGreenMet | sensorFreshnessExpiry | settlingWindowEnd =>
    exact ⟨_, rfl, moment_keepsOwnership _ (onRt_keepsOwnership (by simp [Rt.control]))⟩
  | startFlashEnd =>
    exact ⟨_, rfl, phaseEnd_keepsOwnership (fun _ _ => rfl) fun hm hs h =>
      startupAllRed_ownershipFits (source_of_startup h hm) (h.2.2.2.2 (.inr (.inr ⟨hm, .inl hs⟩)))⟩
  | startupAllRedEnd =>
    exact ⟨_, rfl, phaseEnd_keepsOwnership (fun _ _ => rfl) fun hm _ h => firstStart_ownershipFits (source_of_startup h hm)⟩
  | shutdownAllRedEnd =>
    exact ⟨_, rfl, phaseEnd_keepsOwnership (fun _ _ => rfl) fun hm _ h => flashEntered_ownershipFits (source_of_shutdown h hm)⟩
  | keepaliveWindowExpiry => exact ⟨_, rfl, moment_keepsOwnership _ (act_keepsOwnership windowRun_ownershipFits)⟩
  | keepaliveArmExpiry => exact ⟨_, rfl, moment_keepsOwnership _ (act_keepsOwnership armRun_ownershipFits)⟩
  | minEnd => exact ⟨_, rfl, moment_keepsOwnership _ (act_keepsOwnership minEndRun_ownershipFits)⟩
  | extensionHoldEnd =>
    exact ⟨_, rfl, moment_keepsOwnership _ (act_same_keepsOwnership fun e r => by rw [holdEnds_eq]; rfl)⟩
  | maxOut | truncationPointReached | gapTimerExpiry | demandDelayExpiry | cardSilenceExpiry | tuneEchoExpiry
  | tuneRetryExpiry | stopLimitExpiry | windowEndExpiry | guardEndExpiry | lockoutExpiry | groupEnterGreen | clearingEnd =>
    exact ⟨_, rfl, moment_keepsOwnership _ (act_same_keepsOwnership (by simp [Rt.control]))⟩
  | groupEnterStarting | refreshTimerExpiry | moduleSilenceExpiry | confirmTimeout | qualificationTimerExpiry =>
    exact ⟨_, rfl, moment_keepsOwnership _ (actQuiet_keepsOwnership (by simp [Rt.control]))⟩

/-- Settles O9: every command keeps ownership by `exec_keepsOwnership`, and a tick changes junction time alone. -/
theorem ownershipKeptByStep : Obligations.OwnershipKeptByStep := by
  intro s t h hst
  rw [step] at hst
  cases hp : s.pending with
  | nil =>
    rw [hp] at hst
    cases hst
    exact h
  | cons i rest =>
    rw [hp] at hst
    obtain ⟨f, hf, keeps⟩ := exec_keepsOwnership i { s with pending := rest }
    obtain rfl : _ = t := Host.Outcome.next.inj (hf.symm.trans hst)
    exact keeps s.part h

end Sys2Proof.Machine

/-! SUPPORT. Laws for the proofs of the family 03_junction_modes_start_up_and_control_ownership: what a reading of the end
conditions in STAGE_RUN leaves, under each source. -/

namespace Sys2Proof.Machine

/-! ### Actions served (R156, R157) -/

/-- The action of a level is reported, and counted among those served. -/
def actionServed (level : Nat) (r r' : Rt) : Prop :=
  r'.report.summary.getLsbD 12 = true ∧ ∀ j : Fin 3, r'.priority.served.get j =
    if j.val + 1 = level then min (r.priority.served.get j + 1) 65535 else r.priority.served.get j

theorem raiseServed_get (level : Nat) (r : Rt) (j : Fin 3) : (raiseServed level r).priority.served.get j =
    if j.val + 1 = level then min (r.priority.served.get j + 1) 65535 else r.priority.served.get j := by
  have counted : (raiseServed level r).priority.served = if h : 1 ≤ level ∧ level ≤ 3 then
      upd r.priority.served ⟨level - 1, by omega⟩ (fun n => min (n + 1) Config.countMax) else r.priority.served := rfl
  rw [counted]
  by_cases level_ok : 1 ≤ level ∧ level ≤ 3
  · rw [dif_pos level_ok, upd_get]
    have same : (⟨level - 1, by omega⟩ : Fin 3) = j ↔ j.val + 1 = level := by
      rw [Fin.ext_iff]
      dsimp only
      omega
    simp only [same]
    rfl
  · rw [dif_neg level_ok, if_neg (by omega)]

theorem priorityAction_reported (e : Env) (subject : Byte) (detail : List Byte) (r : Rt) :
    (post e .priorityAction subject detail r).report.summary.getLsbD 12 = true := by
  rw [post_summary]
  simp [EventKind.code]

/-- A hold that has not been noted is noted, reported and counted (R156). -/
theorem extensionNotice_notes {e : Env} {r : Rt} {o : HoldOffer} {c : StageRec} (ho : r.priority.holdOffer = some o)
    (hc : r.stage.current = some c) (hn : r.priority.extensionNoted = false) :
    extensionNotice e r = { r with
      priority := { r.priority with extensionNoted := true, served := (extensionNotice e r).priority.served }
      report := (extensionNotice e r).report } ∧
    actionServed o.level r (extensionNotice e r) := by
  have current : r.currentStage = some c.stage := by simp [Rt.currentStage, hc]
  have noted : extensionNotice e r = post e .priorityAction (b8 o.slot.val) [0#8, b8 o.level, stageByte c.stage]
      (raiseServed o.level (r.withPriority fun p => { p with extensionNoted := true })) := by
    simp [extensionNotice, ho, current, hn]
  rw [noted]
  exact ⟨rfl, priorityAction_reported _ _ _ _, raiseServed_get _ _⟩

theorem extensionNotice_noted {e : Env} {r : Rt} (hn : r.priority.extensionNoted = true) : extensionNotice e r = r := by
  unfold extensionNotice
  split <;> simp [hn]

/-- The blocks once the action of a stage that ends by truncation is reported and counted (R157). -/
def truncationServed (e : Env) (o : TruncOffer) (late : Bool) (r : Rt) : Rt :=
  let first := post e .priorityAction (b8 o.slot.val) [1#8, b8 o.level, stageByte o.target] r
  raiseServed o.level
    (if late then post e .priorityAction (b8 o.slot.val) [2#8, b8 o.level, stageByte o.target] first else first)

theorem truncationServed_values (e : Env) (o : TruncOffer) (late : Bool) (r : Rt) :
    actionServed o.level r (truncationServed e o late r) ∧ (truncationServed e o late r).stage = r.stage ∧
      (truncationServed e o late r).priority.lockoutDue = r.priority.lockoutDue := by
  unfold truncationServed
  refine ⟨⟨?_, fun j => ?_⟩, ?_, ?_⟩ <;> cases late <;> simp [priorityAction_reported, raiseServed_get]

/-- The end of a stage by truncation is reported and counted, and starts the lockout (R157, R158). -/
theorem stageEndNotice_truncates {e : Env} {r : Rt} {o : TruncOffer} {late : Bool} (ho : r.priority.truncOffer = some o) :
    actionServed o.level r (stageEndNotice e true late r) ∧ ∀ v, r.stage.taken = some v →
      (stageEndNotice e true late r).priority.lockoutDue =
        if 0 < v.lockout then some (e.now + BitVec.ofNat 32 v.lockout) else r.priority.lockoutDue := by
  obtain ⟨⟨reported, served⟩, stage, lockout⟩ := truncationServed_values e o late r
  have notice : stageEndNotice e true late r = (match (truncationServed e o late r).stage.taken with
      | some k => if 0 < k.lockout then (truncationServed e o late r).withPriority fun p =>
          { p with lockoutDue := some (after e.now k.lockout) } else truncationServed e o late r
      | none => truncationServed e o late r).withPriority fun p => { p with holdOffer := none, truncOffer := none } := by
    simp only [stageEndNotice, ho, Bool.true_or, if_true]
    rfl
  rw [notice, stage]
  cases hv : r.stage.taken with
  | none => exact ⟨⟨reported, served⟩, by simp⟩
  | some v =>
    by_cases positive : 0 < v.lockout
    · simp only [positive, if_true]
      exact ⟨⟨reported, served⟩, fun w hw => by cases hw; simp [positive, after]⟩
    · simp only [positive, if_false]
      exact ⟨⟨reported, served⟩, fun w hw => by cases hw; simp [positive, lockout]⟩

/-! ### Ends of a stage -/

theorem orderGreenEnd_grows (e : Env) (g : Group) (r : Rt) : reportGrows r (orderGreenEnd e g r) := by
  have framed : ∀ u : Rt, u.report = r.report → reportGrows r (groupFrame e g u) := fun u hu => by
    unfold groupFrame
    split
    · exact (handFrame_grows e u _).of_start hu
    · exact reportGrows_of_eq hu
  simp only [orderGreenEnd, takeGreenEnd]
  split
  · refine (framed (createConfirm e g (updGroup g (GroupRec.endGreen e.now (e.tab.clearing g)) (r.withStage fun s =>
      { s with greenEnds := upd s.greenEnds g fun _ => .awaiting }))) (by simp)).trans (reportGrows_of_eq ?_)
    split <;> simp
  · exact reportGrows_of_eq rfl

theorem orderGreenEnds_grows (e : Env) (l : List Group) (r : Rt) : reportGrows r (orderGreenEnds e l r) :=
  reportGrows_foldl (fun r g => orderGreenEnd_grows e g r) l r

/-- The stage end of a truncation is served as its notice serves it (R157, R158). -/
theorem endStage_truncates {e : Env} {r : Rt} {c : StageRec} {o : TruncOffer} {late : Bool} (hc : r.stage.current = some c)
    (ho : r.priority.truncOffer = some o) (h : (⟨e, r⟩ : Part).endsCleanly c.stage o.target) :
    let u := endStage e o.target .truncate true late r
    actionServed o.level r u ∧ ∀ v, r.stage.taken = some v → u.priority.lockoutDue =
      if 0 < v.lockout then some (e.now + BitVec.ofNat 32 v.lockout) else r.priority.lockoutDue := by
  obtain ⟨⟨reported, served⟩, lockout⟩ := stageEndNotice_truncates (e := e) (late := late) ho
  have grows := orderGreenEnds_grows e (losingGroups e c.stage o.target) (interstageBegun e o.target .truncate true late c r)
  have priority : (interstageBegun e o.target .truncate true late c r).priority = (stageEndNotice e true late r).priority := by
    simp [interstageBegun]
  rw [endStage_clean hc h]
  refine ⟨⟨grows.summary 12 (by simpa [interstageBegun] using reported), fun j => ?_⟩, fun v hv => ?_⟩
  · simpa [priority] using served j
  · simpa [priority] using lockout v hv

/-! ### A reading that goes on -/

section
variable {e : Env} {u : Rt} {c : StageRec} {x : Stage} {source : Source}

/-- A stage whose conditions call for nothing goes on as it was. -/
theorem finish_goesOn {v : Rt} (h : u.inRun e source c) (hn : u.notices = []) (heval : stageEval e u = (v, false))
    (hvn : v.notices = u.notices) (hvs : v.stage.phase = u.stage.phase ∧ v.stage.current = u.stage.current) :
    goesOn v (finish e u) c := by
  obtain ⟨-, -, hp, hc, -⟩ := id h
  rw [finish_stays hn (maxGreenCheck_inRun h) heval (hvn.trans hn)]
  exact noteGap_goesOn (hvs.1.trans hp) (hvs.2.trans hc)

theorem finish_unchanged (h : u.inRun e source c) (hn : u.notices = []) (heval : stageEval e u = (u, false)) :
    goesOn u (finish e u) c :=
  finish_goesOn h hn heval rfl ⟨rfl, rfl⟩

/-- A hold that keeps the stage, and is noted for the first time (R85, R156). -/
theorem finish_notes {o : HoldOffer} (h : u.inRun e source c) (hn : u.notices = [])
    (heval : stageEval e u = (extensionNotice e u, false)) (ho : u.priority.holdOffer = some o)
    (hx : u.priority.extensionNoted = false) :
    goesOn { u with
      priority := { u.priority with extensionNoted := true, served := (finish e u).priority.served }
      report := (finish e u).report } (finish e u) c ∧ actionServed o.level u (finish e u) := by
  obtain ⟨-, -, -, hc, -⟩ := id h
  obtain ⟨noted, reported, served⟩ := extensionNotice_notes (e := e) ho hc hx
  have goes := finish_goesOn h hn heval (by simp) (by simp)
  have report : (finish e u).report = (extensionNotice e u).report := (congrArg Rt.report goes).trans rfl
  have priority : (finish e u).priority = (extensionNotice e u).priority := (congrArg Rt.priority goes).trans rfl
  refine ⟨?_, ?_, ?_⟩
  · rw [report, priority, ← noted]
    exact goes
  · rw [report]
    exact reported
  · rw [priority]
    exact served

theorem finish_noted (h : u.inRun e source c) (hn : u.notices = []) (heval : stageEval e u = (extensionNotice e u, false))
    (hx : u.priority.extensionNoted = true) : goesOn u (finish e u) c :=
  finish_unchanged h hn (by rw [heval, extensionNotice_noted hx])

/-! ### AUTONOMOUS (R72, R73, R85, R86) -/

/-- Where a normal end leads, once there is demand elsewhere: the truncation's target, or the next stage (R72, R86). -/
def towardStage (e : Env) (u : Rt) : Option Stage :=
  match u.priority.truncOffer with
  | some o => some o.target
  | none => nextAutonomous e u

theorem wantedStage_eq (e : Env) (u : Rt) : wantedStage e u = if demandElsewhere e u = true then towardStage e u else none := rfl

theorem wantedStage_isSome : (wantedStage e u).isSome = true ↔ demandElsewhere e u = true ∧ towardStage e u ≠ none := by
  rw [wantedStage_eq]
  split <;> simp [*, Option.isSome_iff_ne_none]

/-- With a hold in effect a stage that would end is noted, and any other goes on (R85, R156). -/
theorem autonomousStep_held (hh : holdInEffect e u = true) : autonomousStep e u =
    (if (demandElsewhere e u = true ∧ towardStage e u ≠ none) ∧ (gapOut e u = true ∨ maxOutHolds e u = true) then
      extensionNotice e u else u, false) := by
  simp only [autonomousStep, hh, if_true, ← wantedStage_isSome, Bool.and_eq_true, Bool.or_eq_true]

/-- A stage that has a stage to go to ends at gap-out or max-out (R72). -/
theorem finish_normalEnd (h : u.inRun e .autonomous c) (hn : u.notices = []) (hh : holdInEffect e u = false)
    (hripe : gapCounts e u = true ∨ maxOutHolds e u = true) (hx : wantedStage e u = some x)
    (hclean : (⟨e, u⟩ : Part).endsCleanly c.stage x) :
    stageEnded e u (finish e u) c.stage x (if maxOutHolds e u then .max else .gap) ∧ (finish e u).mode = u.mode ∧
      (finish e u).stage.pendingGo = u.stage.pendingGo ∧ (finish e u).stage.hold = u.stage.hold := by
  obtain ⟨hm, hs, hp, hc, -⟩ := id h
  have ripe : (gapCounts e u || maxOutHolds e u) = true := by simpa using hripe
  obtain ⟨late, step⟩ : ∃ late, autonomousStep e u =
      (endStage e x (if maxOutHolds e u then .max else .gap) false late u, true) := by
    cases ht : u.priority.truncOffer with
    | none => exact ⟨false, by simp [autonomousStep, hh, ripe, hx, ht]⟩
    | some o => exact ⟨outOfOrder e u o.target, by simp [autonomousStep, hh, ripe, hx, ht]⟩
  obtain ⟨ended, record⟩ := finish_ends hn (maxGreenCheck_inRun h) ((stageEval_autonomous hm hs hp).trans step) hc hclean
  exact ⟨record, by rw [ended]; simp⟩

/-- The stage to which conditions 2 to 4 of R72 end the stage, if any. -/
def normalEnd (e : Env) (u : Rt) : Option Stage := if gapCounts e u || maxOutHolds e u then wantedStage e u else none

theorem normalEnd_eq_none : normalEnd e u = none ↔
    ¬ ((demandElsewhere e u = true ∧ towardStage e u ≠ none) ∧ (gapCounts e u = true ∨ maxOutHolds e u = true)) := by
  rw [← wantedStage_isSome, ← Bool.or_eq_true, normalEnd]
  split <;> simp [*]

/-- Where no normal end is called for, a truncation point reached or the max-green timer is acted on (R73, R86). -/
theorem autonomousStep_abnormal (hh : holdInEffect e u = false) (hx : normalEnd e u = none) : autonomousStep e u =
    match u.priority.truncOffer with
    | some o =>
      if reached e.now o.point then (endStage e o.target .truncate true (outOfOrder e u o.target) u, true)
      else if maxOutHolds e u then (maxGreenLapse e u, true) else (u, false)
    | none => if maxOutHolds e u then (maxGreenLapse e u, true) else (u, false) := by
  unfold normalEnd at hx
  simp only [autonomousStep, hh, hx, Bool.false_eq_true, if_false]
  cases u.priority.truncOffer <;> rfl

/-- A stage that does not end normally ends at the truncation point (R86). -/
theorem finish_truncates {o : TruncOffer} (h : u.inRun e .autonomous c) (hn : u.notices = []) (hh : holdInEffect e u = false)
    (hx : normalEnd e u = none) (ho : u.priority.truncOffer = some o)
    (hp : reached e.now o.point = true) (hclean : (⟨e, u⟩ : Part).endsCleanly c.stage o.target) :
    stageEnded e u (finish e u) c.stage o.target .truncate ∧ actionServed o.level u (finish e u) ∧
      ∀ v, u.stage.taken = some v → (finish e u).priority.lockoutDue =
        if 0 < v.lockout then some (e.now + BitVec.ofNat 32 v.lockout) else u.priority.lockoutDue := by
  obtain ⟨hm, hs, phase, hc, -⟩ := id h
  have step : autonomousStep e u = (endStage e o.target .truncate true (outOfOrder e u o.target) u, true) := by
    simp [autonomousStep_abnormal hh hx, ho, hp]
  obtain ⟨ended, record⟩ := finish_ends hn (maxGreenCheck_inRun h) ((stageEval_autonomous hm hs phase).trans step) hc hclean
  refine ⟨record, ?_⟩
  rw [ended]
  exact endStage_truncates hc ho hclean

/-- A stage that neither ends nor lapses its max-green timer goes on. -/
theorem finish_autonomousOn (h : u.inRun e .autonomous c) (hn : u.notices = []) (hh : holdInEffect e u = false)
    (hx : normalEnd e u = none)
    (hp : ∀ o, u.priority.truncOffer = some o → reached e.now o.point = false) (hmax : maxOutHolds e u = false) :
    goesOn u (finish e u) c := by
  obtain ⟨hm, hs, phase, -⟩ := id h
  refine finish_unchanged h hn ((stageEval_autonomous hm hs phase).trans ?_)
  rw [autonomousStep_abnormal hh hx]
  cases ho : u.priority.truncOffer with
  | none => simp [hmax]
  | some o => simp [hp o ho, hmax]

/-- The blocks once the max-green timer has lapsed with no tram queued (R73, R150). -/
theorem maxGreenLapse_eq (hc : u.stage.current = some c) (hq : u.priority.queue = []) : maxGreenLapse e u = { u with
    stage := { u.stage with current := some { c with maxOut := none } }
    priority := { u.priority with holdOffer := none, truncOffer := none } } := by
  unfold maxGreenLapse
  rw [recomputeOffers_only_offers, recomputeOffers_holdOffer_nil _ _ (by simpa using hq),
    recomputeOffers_truncOffer_none _ _ (.inr (by simpa using hq))]
  simp [hc, Rt.withStage]

/-- Max-out with no demand outside lets the timer lapse (R73), and the stage goes on. -/
theorem finish_lapses (h : u.inRun e .autonomous c) (hn : u.notices = []) (hh : holdInEffect e u = false)
    (hd : demandElsewhere e u = false) (hout : demandOutside e u = false) (ht : u.priority.truncOffer = none)
    (hq : u.priority.queue = []) (hmax : maxOutHolds e u = true) :
    goesOn { u with priority := { u.priority with holdOffer := none, truncOffer := none } } (finish e u) { c with maxOut := none } := by
  obtain ⟨hm, hs, phase, hc, -⟩ := id h
  have wanted : wantedStage e u = none := by simp [wantedStage_eq, hd]
  have step : stageEval e u = (maxGreenLapse e u, true) := by
    rw [stageEval_autonomous hm hs phase]
    simp [autonomousStep, hh, wanted, ht, hmax]
  have lapsed := maxGreenLapse_eq (e := e) hc hq
  generalize maxGreenLapse e u = v at step lapsed
  have run : v.inRun e .autonomous { c with maxOut := none } := by
    have outside : demandOutside e v = false :=
      (demandOutside_congr (by simp [lapsed]) (by simp [lapsed, Rt.currentStage, hc])).trans hout
    subst lapsed
    exact ⟨hm, hs, phase, rfl, .inr outside⟩
  have settles : stageEval e v = (v, false) := by
    rw [stageEval_autonomous run.1 run.2.1 run.2.2.1]
    have nowhere : demandElsewhere e v = false := by
      subst lapsed
      exact Eq.trans (by simp [demandElsewhere, searchOrder, Rt.sequence, Rt.currentStage, hc, stageDemand, Rt.isGreen, hasDemand]) hd
    have wanted' : wantedStage e v = none := by simp [wantedStage_eq, nowhere]
    subst lapsed
    simp [autonomousStep, holdInEffect, wanted', maxOutHolds, isDue]
  have settled : finish e u = noteGap e v := by
    simp only [finish, takeFaults_nil e u hn, Config.stageFuel, settleFor, maxGreenCheck_inRun h, step, maxGreenCheck_inRun run,
      settles]
    exact takeFaults_nil e _ (by simp [lapsed, hn])
  rw [settled]
  have goes := noteGap_goesOn (e := e) run.2.2.1 run.2.2.2.1
  generalize noteGap e v = w at goes ⊢
  subst lapsed
  exact goes

/-! ### DIRECTED (R76, R77, R85) -/

theorem finish_directedIdle (h : u.inRun e .directed c) (hn : u.notices = []) (hg : u.stage.pendingGo = none) :
    goesOn u (finish e u) c := by
  obtain ⟨hm, hs, phase, -⟩ := id h
  exact finish_unchanged h hn ((stageEval_directed hm hs phase).trans (by simp [directedStep, hg]))

theorem stageEval_directedKept (h : u.inRun e .directed c) (hg : u.stage.pendingGo = some x) (hh : u.stage.hold = false)
    (hx : holdInEffect e u = true) : stageEval e u = (extensionNotice e u, false) := by
  obtain ⟨hm, hs, phase, -⟩ := id h
  rw [stageEval_directed hm hs phase]
  simp [directedStep, hg, hh, hx]

/-! ### MANUAL (R74) -/

theorem finish_manualIdle (h : u.inRun e .manual c) (hn : u.notices = []) (hg : u.mode.pendingStep = false) :
    goesOn u (finish e u) c := by
  obtain ⟨hm, hs, phase, -⟩ := id h
  exact finish_unchanged h hn ((stageEval_manual hm hs phase).trans (by simp [manualStep, hg]))

/-! ### FINISHING (R45) -/

/-- In FINISHING a stage past its min-end passes to CLEARING_ALL (R45, R46). -/
theorem finish_finishing (hm : u.mode.mode = .shutdown) (hsub : u.mode.sub = .finishing) (hs : u.mode.source = .none)
    (hstep : u.mode.pendingStep = false) (hn : u.notices = []) (hp : u.stage.phase = .stageRun) (hcheck : maxGreenCheck e u = u)
    (hg : u.stage.pendingGo = none) (hh : u.stage.hold = false) (hf : u.follows e)
    (hc : ∃ g, e.tab.isDefined g = true ∧ u.isGreen g = true ∧ 0 < e.tab.clearing g)
    (ht : ∀ g, u.isGreen g = true → takesGreenEnd e u g = true) : clearingAllEntered e u (finish e u) := by
  obtain ⟨mode, phase, current, go, hold, cleared, others, notices, trams, holdOffer, truncOffer⟩ := clearingAll_values hm hf ht
  have outside : (clearingAll e u).inStagePhase = false := by simp [Rt.inStagePhase, phase]
  have clears : allRest e (clearingAll e u) = false := by
    obtain ⟨g, defined, green, time⟩ := hc
    refine Bool.eq_false_iff.mpr fun all => ?_
    have rest := allRest_iff.mp all g defined
    rw [(cleared g green).1] at rest
    simp [Nat.pos_iff_ne_zero.mp time] at rest
  have eval : stageEval e u = (clearingAll e u, true) := by simp [stageEval, hp, hm, hsub]
  have settles : stageEval e (clearingAll e u) = (clearingAll e u, false) := by simp [stageEval, phase, clears]
  have settled : finish e u = clearingAll e u := by
    simp only [finish, takeFaults_nil e u hn, Config.stageFuel, settleFor, hcheck, eval, maxGreenCheck_outside_stage e _ outside,
      settles, noteGap_quiet e _ outside]
    exact takeFaults_nil e _ (notices.trans hn)
  rw [settled]
  exact ⟨by simp [mode, hs, hstep], phase, current, go.trans hg, hold.trans hh, cleared, others, trams, holdOffer, truncOffer⟩

/-! ### The reading under every source -/

/-- What the command's end leaves of a stage in STAGE_RUN where no demand starts the max-green timer. -/
theorem finish_reads (h : u.runsStage c) (hmax : c.maxOut.isSome = true ∨ demandOutside e u = false) :
    readOn e u (finish e u) c := by
  obtain ⟨hn, hp, hc⟩ := h
  have run : ∀ {src : Source}, u.mode.mode = .running → u.mode.source = src → u.inRun e src c :=
    fun hm hs => ⟨hm, hs, hp, hc, hmax⟩
  refine ⟨fun hm hs => ⟨fun hh => ⟨fun x hx ht hclean => ?_, fun o hx ho hpt hclean => ?_, fun hd hout ht hq hmo => ?_,
    fun hx hpt hmo => ?_⟩, fun hh => ⟨fun hk hx o ho => ?_, fun hk => ?_⟩⟩, fun hm hs => ⟨fun hg => ?_, fun x hg hh =>
    ⟨fun hx => ⟨fun hnote o ho => ?_, fun hnote => ?_⟩, fun hx => ⟨fun hxc => ?_, fun hxc hclean => ?_⟩⟩⟩,
    fun hm hs => ⟨fun hst => ?_, fun hst => ⟨fun hx => ?_, fun x hx hclean => ?_⟩⟩,
    fun hm hs hsub hst hg hh hf hcl ht => ?_⟩
  · have wanted : wantedStage e u = some x := by rw [wantedStage_eq, if_pos hx.1.1]; exact ht
    exact (finish_normalEnd (run hm hs) hn hh hx.2 wanted hclean).1
  · obtain ⟨ended, served, lockout⟩ := finish_truncates (run hm hs) hn hh (normalEnd_eq_none.mpr hx) ho hpt hclean
    exact ⟨ended, served, lockout⟩
  · exact finish_lapses (run hm hs) hn hh hd hout ht hq hmo
  · exact finish_autonomousOn (run hm hs) hn hh (normalEnd_eq_none.mpr hx)
      (fun o ho => Bool.eq_false_iff.mpr fun hr => hpt ⟨o, ho, hr⟩) hmo
  · have eval : stageEval e u = (extensionNotice e u, false) := by
      rw [stageEval_autonomous hm hs hp, autonomousStep_held hh]
      exact congrArg (·, false) (if_pos hk)
    exact finish_notes (run hm hs) hn eval ho hx
  · have eval : stageEval e u = (u, false) := by
      rw [stageEval_autonomous hm hs hp, autonomousStep_held hh]
      rcases hk with hk | hk
      · exact congrArg (·, false) (if_neg hk)
      · simp [extensionNotice_noted hk]
    exact finish_unchanged (run hm hs) hn eval
  · cases hgo : u.stage.pendingGo with
    | none => exact finish_directedIdle (run hm hs) hn hgo
    | some x => exact finish_goHeld (run hm hs) hn hgo (hg.resolve_left (by simp [hgo]))
  · exact finish_notes (run hm hs) hn (stageEval_directedKept (run hm hs) hg hh hx) ho hnote
  · exact finish_noted (run hm hs) hn (stageEval_directedKept (run hm hs) hg hh hx) hnote
  · subst hxc
    exact finish_goUsed (run hm hs) hn hg hh hx
  · obtain ⟨ended, used, -⟩ := finish_goEnds (run hm hs) hn hg hh hx hxc hclean
    exact ⟨ended, used⟩
  · exact finish_manualIdle (run hm hs) hn hst
  · exact finish_stepUsed (run hm hs) hn hst hx
  · obtain ⟨ended, mode⟩ := finish_stepEnds (run hm hs) hn hst hx hclean
    exact ⟨ended, by rw [mode]⟩
  · exact finish_finishing hm hsub hs hst hn hp (maxGreenCheck_run hc hmax) hg hh hf hcl ht

/-- The blocks once a stopped max-green timer has started (R69, R150). -/
theorem maxGreenCheck_starts {w : Taken} (h : u.runsStage c) (hmax : c.maxOut = none) (hout : demandOutside e u = true)
    (hw : u.stage.taken = some w) : maxGreenCheck e u = recomputeOffers e { u with stage := { u.stage with current := some { c with
      maxOut := some (laterOf e.now
        (e.now + BitVec.ofNat 32 (max (w.maxGreen.get c.stage) (e.tab.minStage c.stage))) c.minEnd) } } } := by
  obtain ⟨-, hp, hc⟩ := h
  simp [maxGreenCheck, hc, Rt.inStagePhase, hp, hmax, hout, maxOutMoment, hw, Rt.withStage, after]

/-- The check of the max-green timer is part of the reading. -/
theorem finish_maxGreenCheck {v : Rt} (hn : u.notices = []) (hv : maxGreenCheck e u = v) (hs : maxGreenCheck e v = v) :
    finish e u = finish e v := by
  have quiet : v.notices = [] := by rw [← hv]; simpa using hn
  simp only [finish, takeFaults_nil e u hn, takeFaults_nil e v quiet, Config.stageFuel, settleFor, hv, hs]

/-- What the command's end leaves of a stage in STAGE_RUN: the conditions as read once the command has acted. -/
theorem finish_conditionsRead (h : u.runsStage c) : conditionsRead e u (finish e u) c := by
  refine ⟨finish_reads h, fun w c' hmax hout hw hc' => ?_⟩
  obtain ⟨hn, hp, -⟩ := id h
  have started := maxGreenCheck_starts h hmax hout hw
  rw [← hc'] at started
  have runs : (recomputeOffers e { u with stage := { u.stage with current := some c' } }).runsStage c' :=
    ⟨by simpa using hn, by simpa using hp, by simp⟩
  have stands : c'.maxOut.isSome = true := by simp [hc']
  rw [finish_maxGreenCheck hn started (maxGreenCheck_run runs.2.2 (.inl stands))]
  exact finish_reads runs (.inl stands)

end

/-! ### Moments that bear on the conditions -/

/-- A moment that has come acts and has the conditions read. -/
theorem whenDue_acts {i : Instr} {s : State} (f : Env → Rt → Rt) (h : timeDue s.part.env s.part.rt i = true) :
    s.onPart (Part.whenDue i fun p => p.act f) = .next (s.withRt (finish s.part.env (f s.part.env s.part.rt))) := by
  rw [whenDue_onPart s i (fun p => p.act f) h]
  rfl

end Sys2Proof.Machine

/-! SUPPORT. Proofs of the statements of the family 03_junction_modes_start_up_and_control_ownership: CLEAR_FAULT, the keepalive,
TAKE and RELEASE. -/

namespace Sys2Proof.Machine

section
variable {e : Env} {r : Rt}

/-! ### CLEAR_FAULT (R49) -/

theorem clearFaultOwner_quiet (h : stagesRun r.mode.mode = false) : clearFaultOwner e r =
    ({ r with mode := { r.mode with latch := false }, report := { r.report with record := none } }, .accepted) := by
  simp [clearFaultOwner, h, Rt.withMode, Rt.withReport]

theorem clearFaultOwner_running (h : stagesRun r.mode.mode = true) : clearFaultOwner e r = (r, ⟨.wrongMode, []⟩) := by
  simp [clearFaultOwner, h, refuse]

end

/-- Settles O23: CLEAR_FAULT's owner in the modes where it acts, and where it refuses. -/
theorem clearFaultClearsLatchAndRecord : Obligations.ClearFaultClearsLatchAndRecord := by
  intro s h e f r hd
  have cleared : exec (.clearFault h []) s = .next (s.withRt (answer e f (clearFaultOwner e r).2 (clearFaultOwner e r).1)) :=
    onPart_headFrame_delivered s _ 0 [] clearFaultOwner hd rfl
  have mode : r.mode = s.part.rt.mode := by simp [r]
  refine ⟨fun hm => ?_, fun hm => ?_⟩
  · have quiet : stagesRun r.mode.mode = false := by rcases hm with hm | hm <;> simp [mode, hm, stagesRun]
    rw [cleared, clearFaultOwner_quiet quiet, mode]
  · have runs : stagesRun r.mode.mode = true := by rcases hm with hm | hm | hm <;> simp [mode, hm, stagesRun]
    rw [cleared, clearFaultOwner_running runs]

/-! ### KEEPALIVE_ARM and KEEPALIVE_REFRESH (R56, R57) -/

theorem arm_eq (now : Time) (k : Keepalive) : k.arm now =
    { state := .armed, windowDue := k.windowDue, armDue := some (now + 20#32)
      remembered := if k.state = .armed then k.remembered else some k.state } := by
  cases h : k.state <;> simp [Keepalive.arm, h, after, Config.armTime]

/-- Settles O31: the arm rule state by state, and the refresh in ARMED and outside it. -/
theorem keepaliveFrames : Obligations.KeepaliveFrames := by
  constructor
  · intro s h e f k hd
    have armed : exec (.keepaliveArm h []) s = .next (s.withRt (answer e f .accepted
        (keepaliveArmOwner e (s.part.arrived .head)).1)) := onPart_headFrame_delivered s _ 0 [] keepaliveArmOwner hd rfl
    rw [armed]
    simp [keepaliveArmOwner, arm_eq, Rt.withMode, k, e]
  · intro s h e f r0 hd
    have refreshed : exec (.keepaliveRefresh h []) s = .next (s.withRt (answer e f (keepaliveRefreshOwner e r0).2
        (keepaliveRefreshOwner e r0).1)) := onPart_headFrame_delivered s _ 0 [] keepaliveRefreshOwner hd rfl
    have keep : r0.mode.keep = s.part.rt.mode.keep := by simp [r0]
    refine ⟨fun hk => ?_, fun hk => ?_⟩
    · rw [refreshed]
      simp [keepaliveRefreshOwner, keep, hk, Rt.withMode, after]
    · have refused : keepaliveRefreshOwner e r0 = ({ r0 with mode := { r0.mode with ownerViolation := true } }, ⟨.noKeepalive, []⟩) := by
        cases hs : s.part.rt.mode.keep.state <;>
          simp [keepaliveRefreshOwner, keep, hs, refuse, setOwnerViolation, Rt.withMode] at hk ⊢
      rw [refreshed, refused]

/-! ### A change of the source in a running stage (R51, R150) -/

section
variable {e : Env} {r : Rt} {c : StageRec}

theorem giveSource_eq (e : Env) (src : Source) (r : Rt) : giveSource e src r =
    recomputeOffers e (post e .sourceChange 255#8 [b8 src.code] { r with mode := { r.mode with source := src } }) := rfl

/-- Under another source than AUTONOMOUS no truncation is offered (R150). -/
theorem setSource_truncOffer (src : Source) (h : r.mode.source ≠ src) (ha : src ≠ .autonomous) :
    (setSource e src r).priority.truncOffer = none := by
  rw [setSource, if_neg h, giveSource_eq]
  exact recomputeOffers_truncOffer_none _ _ (.inl (by simpa using ha))

theorem maxGreenCheck_truncOffer (hs : r.mode.source ≠ .autonomous) (ht : r.priority.truncOffer = none) :
    (maxGreenCheck e r).priority.truncOffer = none := by
  unfold maxGreenCheck
  split
  · exact ht
  · split
    · exact recomputeOffers_truncOffer_none _ _ (.inl (by simpa using hs))
    · exact ht

theorem setSource_inRun {src src' : Source} (h : r.inRun e src' c) : (setSource e src r).inRun e src c := by
  obtain ⟨hm, -, hp, hc, hmax⟩ := h
  have outside : demandOutside e (setSource e src r) = demandOutside e r := demandOutside_congr (by simp) (by simp [Rt.currentStage])
  exact ⟨by simpa using hm, by simp [setSource_mode], by simpa using hp, by simpa using hc, by rwa [outside]⟩

/-! ### TAKE (R52) -/

theorem takeOwner_wrongMode (h : r.mode.mode ≠ .running) : takeOwner e r = (r, ⟨.wrongMode, []⟩) := by
  simp [takeOwner, h, refuse]

theorem takeOwner_wrongSource (hm : r.mode.mode = .running) (h : r.mode.source ≠ .autonomous) :
    takeOwner e r = (r, ⟨.wrongSource, []⟩) := by
  simp [takeOwner, hm, h, refuse]

theorem takeOwner_noKeepalive (hm : r.mode.mode = .running) (hs : r.mode.source = .autonomous) (h : r.mode.keep.state = .inactive) :
    takeOwner e r = (r, ⟨.noKeepalive, []⟩) := by
  simp [takeOwner, hm, hs, h, refuse]

theorem takeOwner_accepts (hm : r.mode.mode = .running) (hs : r.mode.source = .autonomous) (h : r.mode.keep.state ≠ .inactive) :
    takeOwner e r = (finish e (setSource e .directed r), .accepted) := by
  simp [takeOwner, hm, hs, h, accept]

/-- TAKE while the Stage Engine is still (R52, R150). -/
theorem finish_taken_still (hs : r.mode.source = .autonomous) (hstill : r.still e = true) :
    let t := finish e (setSource e .directed r)
    t.mode = { r.mode with source := .directed } ∧ t.priority.truncOffer = none ∧ t.groups = r.groups ∧
      t.stage = { r.stage with current := t.stage.current } ∧ sameStage r t ∧ t.trams = r.trams := by
  have still : (setSource e .directed r).still e = true :=
    (still_congr e r _ (by simp) (by simp) (by simp) (by simp) (by simp) (by simp)).trans hstill
  have withdrawn := setSource_truncOffer (e := e) (r := r) .directed (by simp [hs]) (by simp)
  have kept := maxGreenCheck_truncOffer (e := e) (r := setSource e .directed r) (by simp [setSource_mode]) withdrawn
  obtain ⟨mode, stage, same, groups, trams, -⟩ := finish_still_keeps still
  exact ⟨mode.trans (setSource_mode e _ r), by rw [finish_still e _ still]; simpa using kept, groups.trans (by simp),
    stage.trans (by simp), by simpa [sameStage] using same, trams.trans (by simp)⟩

end

/-- Settles O24: the tests in their order, and the change of source where the Stage Engine is still and in STAGE_RUN. -/
theorem takeTestsAndTakesControl : Obligations.TakeTestsAndTakesControl := by
  intro s h e f r0 hd
  have taken : exec (.take h []) s = .next (s.withRt (answer e f (takeOwner e r0).2 (takeOwner e r0).1)) :=
    onPart_headFrame_delivered s _ 0 [] takeOwner hd rfl
  have mode : r0.mode = s.part.rt.mode := by simp [r0]
  refine ⟨fun hm => ?_, fun hm hs => ?_, fun hm hs hk => ?_, fun hm hs hk hstill => ?_, fun c hrun hn hk hg => ?_⟩
  · rw [taken, takeOwner_wrongMode (by rwa [mode])]
  · rw [taken, takeOwner_wrongSource (by rwa [mode]) (by rwa [mode])]
  · rw [taken, takeOwner_noKeepalive (by rwa [mode]) (by rwa [mode]) (by rwa [mode])]
  · rw [takeOwner_accepts (by rwa [mode]) (by rwa [mode]) (by rwa [mode])] at taken
    have still : r0.still e = true :=
      (still_congr e s.part.rt _ (by simp [r0]) (by simp [r0]) (by simp [r0]) (by simp [r0]) (by simp [r0]) (by simp [r0])).trans hstill
    obtain ⟨tmode, withdrawn, groups, stage, same, trams⟩ := finish_taken_still (e := e) (by rwa [mode]) still
    exact ⟨_, taken, tmode.trans (by rw [mode]), withdrawn, groups.trans (by simp [r0]), stage.trans (by simp [r0]),
      by simpa [sameStage, r0] using same, trams.trans (by simp [r0])⟩
  · obtain ⟨hm, hs, -⟩ := id hrun
    rw [takeOwner_accepts (by rwa [mode]) (by rwa [mode]) (by rwa [mode])] at taken
    have run : (setSource e .directed r0).inRun e .directed c := setSource_inRun
      (inRun_congr (r := s.part.rt) (by simp [r0]) (by simp [r0]) (by simp [r0]) (by simp [r0]) (by simp [r0]) hrun)
    have goes := finish_directedIdle run (by simpa [r0] using hn) (by simpa [r0] using hg)
    have withdrawn := setSource_truncOffer (e := e) (r := r0) .directed (by simp [mode, hs]) (by simp)
    exact ⟨_, taken, (congrArg Rt.mode goes).trans ((setSource_mode e _ r0).trans (by rw [mode])),
      (congrArg (fun t => t.priority.truncOffer) goes).trans withdrawn, (congrArg Rt.groups goes).trans (by simp [r0]),
      (congrArg Rt.trams goes).trans (by simp [r0]), (congrArg Rt.stage goes).trans (by simp [r0])⟩

/-! ### RELEASE (R53, R73) -/

section
variable {e : Env} {r r' : Rt} {c : StageRec} {x : Stage}

theorem ringReportOnly.withPriority (p : PriorityUnit) (h : ringReportOnly r r') :
    ringReportOnly { r with priority := p } { r' with priority := p } := by
  unfold ringReportOnly at *
  exact congrArg (fun t : Rt => { t with priority := p }) h

/-- What the end conditions read of the stages is the same in `r` and in `r'`. -/
def sameReadings (e : Env) (r r' : Rt) : Prop :=
  demandElsewhere e r' = demandElsewhere e r ∧ nextAutonomous e r' = nextAutonomous e r ∧ maxOutHolds e r' = maxOutHolds e r ∧
    gapCounts e r' = gapCounts e r

theorem sameReadings_of_ringReportOnly (h : ringReportOnly r r') : sameReadings e r r' := by
  unfold ringReportOnly at h
  rw [h]
  exact ⟨rfl, rfl, rfl, rfl⟩

theorem sameReadings_of_controlOnly (h : controlOnly r r') (ht : r'.priority.truncOffer = r.priority.truncOffer) :
    sameReadings e r r' := by
  obtain ⟨-, -, eq⟩ := h
  rw [eq, ht]
  exact ⟨rfl, rfl, rfl, rfl⟩

theorem endDirected_controlOnly (e : Env) (r : Rt) : controlOnly r (endDirected e r) := by
  unfold endDirected
  split
  · exact (dropDirected_controlOnly r).trans (setSource_controlOnly e .autonomous _)
  · exact controlOnly_refl r

theorem endDirected_mode (h : r.mode.source = .directed) : (endDirected e r).mode = { r.mode with source := .autonomous } := by
  simp [endDirected, h, setSource_mode, dropDirected]

theorem endDirected_stage (h : r.mode.source = .directed) :
    (endDirected e r).stage = { r.stage with pendingGo := none, hold := false } := by
  simp [endDirected, h, dropDirected]

/-- Where DIRECTED ends, the offers are recomputed (R150). -/
theorem endDirected_eq (h : r.mode.source = .directed) : endDirected e r =
    recomputeOffers e (post e .sourceChange 255#8 [1#8] { r with
      mode := { r.mode with source := .autonomous }, stage := { r.stage with pendingGo := none, hold := false } }) := by
  rw [endDirected, if_pos h, setSource, if_neg (by simp [dropDirected, h]), giveSource_eq]
  rfl

theorem endDirected_offers (h : r.mode.source = .directed) (hq : r.priority.queue = []) :
    (endDirected e r).priority.holdOffer = none ∧ (endDirected e r).priority.truncOffer = none := by
  rw [endDirected_eq h]
  exact ⟨recomputeOffers_holdOffer_nil _ _ (by simpa using hq), recomputeOffers_truncOffer_none _ _ (.inr (by simpa using hq))⟩

theorem endDirected_inRun (h : r.inRun e .directed c) : (endDirected e r).inRun e .autonomous c := by
  obtain ⟨hm, hs, hp, hc, hmax⟩ := h
  have outside : demandOutside e (endDirected e r) = demandOutside e r :=
    demandOutside_congr (by simp) (by simp [Rt.currentStage])
  exact ⟨by simpa using hm, by rw [endDirected_mode hs], by simpa using hp, by simpa using hc, by rwa [outside]⟩

theorem releaseOwner_wrongMode (h : r.mode.mode ≠ .running) : releaseOwner e r = (r, ⟨.wrongMode, []⟩) := by
  simp [releaseOwner, h, refuse]

theorem releaseOwner_wrongSource (hm : r.mode.mode = .running) (h : r.mode.source ≠ .directed) :
    releaseOwner e r = (r, ⟨.wrongSource, []⟩) := by
  simp [releaseOwner, hm, h, refuse]

theorem releaseOwner_accepts (hm : r.mode.mode = .running) (h : r.mode.source = .directed) :
    releaseOwner e r = (finish e (endDirected e r), .accepted) := by
  simp [releaseOwner, hm, h, accept]

/-- DIRECTED ends while the Stage Engine is still (R53, R58). -/
theorem finish_released_still (hs : r.mode.source = .directed) (hstill : r.still e = true) :
    let t := finish e (endDirected e r)
    t.mode = { r.mode with source := .autonomous } ∧
      t.stage = { r.stage with pendingGo := none, hold := false, current := t.stage.current } ∧ sameStage r t ∧
      t.groups = r.groups ∧ t.trams = r.trams ∧ t.report = (endDirected e r).report := by
  have still : (endDirected e r).still e = true :=
    (still_congr e r _ (by simp) (by simp) (by simp) (by simp) (by simp) (by simp)).trans hstill
  obtain ⟨mode, stage, same, groups, trams, -, report⟩ := finish_still_keeps still
  exact ⟨mode.trans (endDirected_mode hs), stage.trans (by rw [endDirected_stage hs]), by simpa [sameStage] using same,
    groups.trans (by simp), trams.trans (by simp), report⟩

/-- A stage that RELEASE returns to AUTONOMOUS ends where its end conditions are met (R72, R73). -/
theorem finish_released_ends {v : Rt} (h : r.inRun e .directed c) (hn : r.notices = []) (hq : r.priority.queue = [])
    (hsame : sameReadings e v (endDirected e r)) (hd : demandElsewhere e v = true) (hx : nextAutonomous e v = some x)
    (hripe : gapCounts e v = true ∨ maxOutHolds e v = true) (hclean : (⟨e, r⟩ : Part).endsCleanly c.stage x) :
    stageEnded e (endDirected e r) (finish e (endDirected e r)) c.stage x (if maxOutHolds e v then .max else .gap) ∧
      (finish e (endDirected e r)).mode = { r.mode with source := .autonomous } ∧
      (finish e (endDirected e r)).stage.pendingGo = none ∧ (finish e (endDirected e r)).stage.hold = false := by
  obtain ⟨-, hs, -⟩ := id h
  obtain ⟨elsewhere, next, maxOut, gap⟩ := hsame
  obtain ⟨hold, trunc⟩ := endDirected_offers (e := e) hs hq
  have wanted : wantedStage e (endDirected e r) = some x := by rw [wantedStage_none trunc, elsewhere, hd, if_pos rfl, next, hx]
  obtain ⟨ended, mode, go, held⟩ := finish_normalEnd (endDirected_inRun h) (by simpa using hn) (holdInEffect_none hold)
    (by rwa [gap, maxOut]) wanted (endsCleanly_congr (by simp) (by simp) (by simp) hclean)
  rw [endDirected_stage hs] at go held
  rw [maxOut] at ended
  exact ⟨ended, mode.trans (endDirected_mode hs), go, held⟩

/-- A stage that RELEASE returns to AUTONOMOUS goes on where they are not met. -/
theorem finish_released_goesOn {v : Rt} (h : r.inRun e .directed c) (hn : r.notices = []) (hq : r.priority.queue = [])
    (hsame : sameReadings e v (endDirected e r))
    (hx : ¬ (demandElsewhere e v = true ∧ nextAutonomous e v ≠ none ∧ gapCounts e v = true)) (hmax : maxOutHolds e v = false) :
    goesOn (endDirected e r) (finish e (endDirected e r)) c := by
  obtain ⟨-, hs, -⟩ := id h
  obtain ⟨elsewhere, next, maxOut, gap⟩ := hsame
  obtain ⟨hold, trunc⟩ := endDirected_offers (e := e) hs hq
  refine finish_autonomousOn (endDirected_inRun h) (by simpa using hn) (holdInEffect_none hold) (normalEnd_eq_none.mpr ?_)
    (by simp [trunc]) (maxOut.trans hmax)
  rw [towardStage, trunc, elsewhere, next, gap, maxOut, hmax]
  simpa [and_assoc] using hx

/-- Without a tram queued the conditions of AUTONOMOUS are read with no truncation offer (R150). -/
theorem sameReadings_endDirected {u : Rt} (ha : ringReportOnly u r) (hp : r.priority = u.priority)
    (hs : r.mode.source = .directed) (hq : r.priority.queue = []) :
    sameReadings e { u with priority := { u.priority with truncOffer := none } } (endDirected e r) := by
  have arrived : sameReadings e { u with priority := { u.priority with truncOffer := none } }
      { r with priority := { u.priority with truncOffer := none } } :=
    sameReadings_of_ringReportOnly (ha.withPriority _)
  obtain ⟨mode, sub, eq⟩ := endDirected_controlOnly e r
  have ended : sameReadings e { r with priority := { u.priority with truncOffer := none } } (endDirected e r) :=
    sameReadings_of_controlOnly ⟨mode, sub, by rw [← hp]; exact eq⟩ (endDirected_offers hs hq).2
  obtain ⟨elsewhere, next, maxOut, gap⟩ := arrived
  obtain ⟨elsewhere', next', maxOut', gap'⟩ := ended
  exact ⟨elsewhere'.trans elsewhere, next'.trans next, maxOut'.trans maxOut, gap'.trans gap⟩

end

/-- Settles O25: the tests, and DIRECTED's end where the Stage Engine is still and in STAGE_RUN, where the conditions of AUTONOMOUS
are read. -/
theorem releaseEndsDirected : Obligations.ReleaseEndsDirected := by
  intro s h e f r0 hd
  have released : exec (.release h []) s = .next (s.withRt (answer e f (releaseOwner e r0).2 (releaseOwner e r0).1)) :=
    onPart_headFrame_delivered s _ 0 [] releaseOwner hd rfl
  have mode : r0.mode = s.part.rt.mode := by simp [r0]
  refine ⟨fun hm => ?_, fun hm hs => ?_, fun hm hs hstill => ?_, fun c hrun hn hq => ?_⟩
  · rw [released, releaseOwner_wrongMode (by rwa [mode])]
  · rw [released, releaseOwner_wrongSource (by rwa [mode]) (by rwa [mode])]
  · rw [releaseOwner_accepts (by rwa [mode]) (by rwa [mode])] at released
    have still : r0.still e = true :=
      (still_congr e s.part.rt _ (by simp [r0]) (by simp [r0]) (by simp [r0]) (by simp [r0]) (by simp [r0]) (by simp [r0])).trans hstill
    obtain ⟨tmode, stage, same, groups, trams, -⟩ := finish_released_still (e := e) (by rwa [mode]) still
    exact ⟨_, released, tmode.trans (by rw [mode]), stage.trans (by simp [r0]), by simpa [sameStage, r0] using same,
      groups.trans (by simp [r0]), trams.trans (by simp [r0])⟩
  · obtain ⟨hm, hs, -⟩ := id hrun
    rw [releaseOwner_accepts (by rwa [mode]) (by rwa [mode])] at released
    have run : r0.inRun e .directed c :=
      inRun_congr (r := s.part.rt) (by simp [r0]) (by simp [r0]) (by simp [r0]) (by simp [r0]) (by simp [r0]) hrun
    have notices : r0.notices = [] := by simpa [r0] using hn
    have queue : r0.priority.queue = [] := by simpa [r0] using hq
    have same := sameReadings_endDirected (e := e) (linkUp_ringReportOnly e .head s.part.rt) (by simp) (by simpa using hs)
      (by simpa using hq)
    refine ⟨fun x hd hx hripe hclean => ?_, fun hx hmax => ?_⟩
    · obtain ⟨ended, tmode, go, hold⟩ := finish_released_ends run notices queue same hd hx hripe
        (endsCleanly_congr (r := s.part.rt) (by simp [r0]) (by simp [r0]) (by simp [r0]) hclean)
      exact ⟨_, released, stageEnded_congr (by simp [r0]) (by simp [endDirected_mode, mode, hs]) (by simp [r0]) (by simp [r0])
        (by simp [r0]) ended, go, hold, tmode.trans (by rw [mode])⟩
    · have goes := finish_released_goesOn run notices queue same hx hmax
      have stage := endDirected_stage (e := e) (r := r0) (by rwa [mode])
      exact ⟨_, released, (congrArg Rt.mode goes).trans ((endDirected_mode (by rwa [mode])).trans (by rw [mode])),
        (congrArg Rt.groups goes).trans (by simp [r0]), (congrArg Rt.trams goes).trans (by simp [r0]),
        (congrArg Rt.stage goes).trans (by simp [stage, r0])⟩

/-! ### The keepalive's timers (R58) -/

section
variable {e : Env} {r : Rt}

/-- The keepalive INACTIVE and KEEPALIVE_LAPSE posted, before DIRECTED ends (R58). -/
def keepaliveLost (e : Env) (c : LapseCause) (r : Rt) : Rt :=
  post e .keepaliveLapse 255#8 [b8 c.code] { r with mode := { r.mode with keep := {} } }

theorem lapse_eq (e : Env) (c : LapseCause) (r : Rt) : lapse e c r = endDirected e (keepaliveLost e c r) := rfl

@[simp] theorem keepaliveLost_frame (e : Env) (c : LapseCause) (r : Rt) :
    (keepaliveLost e c r).mode = { r.mode with keep := {} } ∧ (keepaliveLost e c r).stage = r.stage ∧
    (keepaliveLost e c r).groups = r.groups ∧ (keepaliveLost e c r).trams = r.trams ∧
    (keepaliveLost e c r).notices = r.notices ∧ (keepaliveLost e c r).demand = r.demand := by
  simp [keepaliveLost]

theorem keepaliveLost_reported (e : Env) (c : LapseCause) (r : Rt) :
    (keepaliveLost e c r).report.summary.getLsbD 15 = true := by
  rw [keepaliveLost, post_summary]
  simp [EventKind.code]

theorem endDirected_grows (e : Env) (r : Rt) : reportGrows r (endDirected e r) := by
  unfold endDirected
  split
  · exact (setSource_grows e _ _).of_start rfl
  · exact reportGrows_of_eq rfl

theorem endDirected_other (h : r.mode.source ≠ .directed) : endDirected e r = r := by
  simp [endDirected, h]

theorem lapse_mode (e : Env) (c : LapseCause) (r : Rt) : (lapse e c r).mode = { r.mode with
    keep := {}, source := if r.mode.source = .directed then .autonomous else r.mode.source } := by
  rw [lapse_eq]
  by_cases hs : r.mode.source = .directed
  · rw [endDirected_mode (by simpa using hs)]
    simp [hs]
  · rw [endDirected_other (by simpa using hs)]
    simp [hs]

theorem lapse_stage (e : Env) (c : LapseCause) (r : Rt) : (lapse e c r).stage = { r.stage with
    pendingGo := if r.mode.source = .directed then none else r.stage.pendingGo
    hold := if r.mode.source = .directed then false else r.stage.hold } := by
  rw [lapse_eq]
  by_cases hs : r.mode.source = .directed
  · rw [endDirected_stage (by simpa using hs)]
    simp [hs]
  · rw [endDirected_other (by simpa using hs)]
    simp [hs]

/-- A lapse while the Stage Engine is still. -/
theorem lapsed_still {s : State} {c : LapseCause} (h : s.part.still) :
    let t := s.withRt (finish s.part.env (lapse s.part.env c s.part.rt))
    keepaliveLapsed s t ∧ t.part.rt.report.summary.getLsbD 15 = true := by
  have still : (lapse s.part.env c s.part.rt).still s.part.env = true :=
    (still_congr _ s.part.rt _ (by simp) (by simp) (by simp) (by simp) (by simp) (by simp)).trans h
  obtain ⟨mode, stage, same, groups, trams, -, report⟩ := finish_still_keeps still
  refine ⟨⟨rfl, rfl, mode.trans (lapse_mode _ _ _), stage.trans (by rw [lapse_stage]), by simpa [sameStage] using same,
    groups.trans (by simp), trams.trans (by simp)⟩, ?_⟩
  show (finish s.part.env (lapse s.part.env c s.part.rt)).report.summary.getLsbD 15 = true
  rw [report, lapse_eq]
  exact (endDirected_grows _ _).summary 15 (keepaliveLost_reported _ _ _)

theorem windowRun_lapses (hk : r.mode.keep.state ≠ .inactive) (hd : isDue e.now r.mode.keep.windowDue = true) :
    windowRun e r = lapse e .window r := by
  simp [windowRun, hk, hd]

theorem armRun_lapses (hk : r.mode.keep.state = .armed) (hd : isDue e.now r.mode.keep.armDue = true)
    (hr : r.mode.keep.remembered ≠ some .active) : armRun e r = lapse e .arm r := by
  unfold armRun
  rw [if_pos ⟨hk, hd⟩]
  split
  · next h => exact absurd h hr
  · rfl

theorem armRun_returns (hk : r.mode.keep.state = .armed) (hd : isDue e.now r.mode.keep.armDue = true)
    (hr : r.mode.keep.remembered = some .active) :
    armRun e r = { r with mode := { r.mode with keep := ⟨.active, r.mode.keep.windowDue, none, none⟩ } } := by
  simp [armRun, hk, hd, hr, Rt.withMode]

theorem exec_keepaliveWindowExpiry {s : State} (hk : s.part.rt.mode.keep.state ≠ .inactive)
    (hd : isDue s.part.env.now s.part.rt.mode.keep.windowDue = true) :
    exec .keepaliveWindowExpiry s = .next (s.withRt (finish s.part.env (windowRun s.part.env s.part.rt))) :=
  whenDue_acts (i := .keepaliveWindowExpiry) windowRun (by simp [timeDue, hk, hd])

theorem exec_keepaliveArmExpiry {s : State} (hk : s.part.rt.mode.keep.state = .armed)
    (hd : isDue s.part.env.now s.part.rt.mode.keep.armDue = true) :
    exec .keepaliveArmExpiry s = .next (s.withRt (finish s.part.env (armRun s.part.env s.part.rt))) :=
  whenDue_acts (i := .keepaliveArmExpiry) armRun (by simp [timeDue, hk, hd])

end

/-- Settles O33: the two timers' lapses, and the arm timer that returns to ACTIVE. -/
theorem keepaliveTimersLapse : Obligations.KeepaliveTimersLapse := by
  refine ⟨fun s hk hd hstill => ?_, fun s hk hd hstill hr => ?_, fun s hk hd hstill hr => ?_⟩
  · rw [exec_keepaliveWindowExpiry hk hd, windowRun_lapses hk hd]
    exact ⟨_, rfl, lapsed_still hstill⟩
  · rw [exec_keepaliveArmExpiry hk hd, armRun_lapses hk hd hr]
    exact ⟨_, rfl, lapsed_still hstill⟩
  · have returned := armRun_returns (e := s.part.env) hk hd hr
    have still : (armRun s.part.env s.part.rt).still s.part.env = true :=
      (still_congr _ s.part.rt _ (by simp [returned]) (by simp [returned]) (by simp [returned]) (by simp [returned])
        (by simp [returned]) (by simp [returned])).trans hstill
    obtain ⟨mode, -, -, groups, -, -, report⟩ := finish_still_keeps still
    exact ⟨_, exec_keepaliveArmExpiry hk hd, rfl, rfl, mode.trans (by rw [returned]), report.trans (by rw [returned]),
      groups.trans (by rw [returned])⟩

end Sys2Proof.Machine

/-! SUPPORT. Proofs of the statements of the family 03_junction_modes_start_up_and_control_ownership: the Stage Engine's moments. -/

namespace Sys2Proof.Machine

section
variable {e : Env} {u : Rt} {c : StageRec}

/-- The blocks in STAGE_RUN of a stage record. -/
def inStageRun (c : StageRec) (u : Rt) : Rt := { u with stage := { u.stage with phase := .stageRun, current := some c } }

theorem inStageRun_runsStage (hn : u.notices = []) : (inStageRun c u).runsStage c := ⟨hn, rfl, rfl⟩

theorem inStageRun_self (hp : u.stage.phase = .stageRun) (hc : u.stage.current = some c) : inStageRun c u = u := by
  rw [inStageRun, ← hp, ← hc]

/-- MIN_END makes STAGE_MIN STAGE_RUN (R68). -/
theorem minEndRun_eq (hp : u.stage.phase = .stageMin) (hc : u.stage.current = some c) (hd : reached e.now c.minEnd = true) :
    minEndRun e u = inStageRun c u := by
  simp only [minEndRun, hc, hp, hd, and_self, if_true, inStageRun]
  rw [← hc]
  rfl

/-- The hold's end rereads gap-out where H is this very moment (R85). -/
theorem holdEnds_inStageRun {c1 : StageRec} (hp : u.stage.phase = .stageRun) (hc : u.stage.current = some c)
    (hr : u.priority.holdOffer.map HoldOffer.holdTo = some e.now →
      c1 = { c with gap := c.gap.map fun x => { x with standing := none } })
    (hk : u.priority.holdOffer.map HoldOffer.holdTo ≠ some e.now → c1 = c) : holdEnds e u = inStageRun c1 u := by
  by_cases now : u.priority.holdOffer.map HoldOffer.holdTo = some e.now
  · simp [holdEnds, now, hr now, hc, inStageRun, Rt.withStage, ← hp]
  · rw [hk now, inStageRun_self hp hc]
    simp [holdEnds, now]

end

/-- Settles O54: each moment leaves STAGE_RUN of the stage record, of which the command's end reads the conditions. -/
theorem stageMomentsReadConditions : Obligations.StageMomentsReadConditions := by
  intro s i c c1 e u reread hc hn hreread hkept hi
  have read : ∀ f : Env → Rt → Rt, f e u = inStageRun c1 u → exec i s = .next (s.withRt (finish e (f e u))) →
      ∃ r, exec i s = .next (s.withRt r) ∧ conditionsRead e (inStageRun c1 u) r c1 := fun f hf hexec =>
    ⟨_, hexec, by rw [hf]; exact finish_conditionsRead (inStageRun_runsStage hn)⟩
  rcases hi with ⟨rfl, hp, hd⟩ | ⟨rfl, hp, hd⟩ | ⟨rfl, hp, o, ho, hd⟩ | ⟨rfl, hp, o, ho, hd⟩
  · obtain rfl := hkept (by simp [reread])
    exact read minEndRun (minEndRun_eq hp hc hd) (whenDue_acts (i := .minEnd) minEndRun (by
      simp only [timeDue, minEndDue]
      rw [hp, hc]
      simpa using hd))
  · obtain rfl := hkept (by simp [reread])
    exact read (fun _ r => r) (inStageRun_self hp hc).symm (whenDue_acts (i := .maxOut) (fun _ r => r) (by
      simp only [timeDue, Rt.inStagePhase, maxOutHolds]
      rw [hp, hc]
      exact hd))
  · exact read holdEnds (holdEnds_inStageRun hp hc (fun h => hreread ⟨rfl, h⟩) fun h => hkept fun hr => h hr.2)
      (whenDue_acts (i := .extensionHoldEnd) holdEnds (by
        simp only [timeDue, holdReached]
        rw [ho]
        exact hd))
  · obtain rfl := hkept (by simp [reread])
    exact read (fun _ r => r) (inStageRun_self hp hc).symm (whenDue_acts (i := .truncationPointReached) (fun _ r => r) (by
      simp only [timeDue, pointReached]
      rw [ho]
      exact hd))

end Sys2Proof.Machine

/-! SUPPORT. Laws for the proofs of the family 03_junction_modes_start_up_and_control_ownership: what the commands that bear on the
end conditions do of themselves, before the conditions are read. -/

namespace Sys2Proof.Machine

theorem upd_eq_self {α : Type} {n : Nat} {v : Vector α n} {i : Fin n} {f : α → α} (h : f (v.get i) = v.get i) : upd v i f = v := by
  show v.set i.val (f (v.get i)) i.isLt = v
  rw [h]
  exact Vector.set_getElem_self i.isLt

theorem upd_congr {α : Type} {n : Nat} {v : Vector α n} {i : Fin n} {f g : α → α} (h : f (v.get i) = g (v.get i)) :
    upd v i f = upd v i g := by
  simp only [upd, h]

section
variable {e : Env} {r : Rt}

/-! ### SOFT_DEMAND, PRIORITY_ENABLE and CANCEL_TRAM (R122, R141, R148) -/

theorem softSet_eq (g : Group) (on : Bool) (r : Rt) : softSet g on r = { r with demand := { r.demand with
    groups := upd r.demand.groups g fun d => { d with soft := if on then d.soft || !r.isGreen g else false } } } := by
  cases on <;> cases hg : r.isGreen g
  · simp [softSet, hg, updDemand, Rt.withDemand]
  · simp [softSet, hg, updDemand, Rt.withDemand]
  · simp [softSet, hg, updDemand, Rt.withDemand]
  · simp [softSet, hg, upd_eq_self]

theorem softDemandOwner_accepts {b v : Byte} {g : Group} (hm : stagesRun r.mode.mode = true) (hb : groupOf b = some g)
    (hg : e.tab.isDefined g = true) (hv : v = 0#8 ∨ v = 1#8) :
    softDemandOwner b v e r = (finish e { r with demand := { r.demand with groups := upd r.demand.groups g fun d => { d with
      soft := if v = 1#8 then false else d.soft || !r.isGreen g } } }, .accepted) := by
  rcases hv with rfl | rfl <;> simp [softDemandOwner, hb, hm, hg, firstOf, accept, softSet_eq]

/-- What PRIORITY_ENABLE leaves of the enable and the queue (R148). -/
theorem setEnable_eq (on : Bool) : setEnable e on r = if r.priority.enable = on then r else recomputeOffers e { r with
    priority := { r.priority with enable := on, queue := if on then rebuildQueue e.now true r.trams else [] } } := by
  cases on <;> simp [setEnable, Rt.withPriority, rebuildQueue_off]

/-- A record notice with its change of the table (R143, R147). -/
theorem recordNotice_setTram (e : Env) (k : TramSlot) (x : Option TramRec) (r : Rt) :
    recordNotice e k (setTram k x r) = withRecord e k x r := rfl

theorem checkoutSlot_eq {k : TramSlot} {x : TramRec} (c : CheckoutCause) (hx : r.trams.get k = some x) :
    checkoutSlot e k c r = post e .tramCheckout (b8 k.val) ([0#8, b8 c.code] ++ encFirst x.greenGiven) (withRecord e k none r) := by
  have tram : r.tram k = some x := hx
  simp only [checkoutSlot, tram, recordNotice_setTram]

theorem cancelTramOwner_accepts {line run : Nat} {k : TramSlot} {x : TramRec} (hn : tramNumbersOk line run = true)
    (hk : tramSlot r line run = some k) (hx : r.trams.get k = some x) : cancelTramOwner line run e r =
      (finish e (post e .tramCheckout (b8 k.val) ([0#8, 2#8] ++ encFirst x.greenGiven) (withRecord e k none r)), .accepted) := by
  simp only [cancelTramOwner, hn, hk, if_true, accept, checkoutSlot_eq .command hx]
  rfl

/-! ### The keepalive and MANUAL (R58, R59) -/

theorem lapse_eq_lapseOf (e : Env) (c : LapseCause) (r : Rt) : lapse e c r = lapseOf e (b8 c.code) r := by
  rw [lapse_eq]
  by_cases hs : r.mode.source = .directed
  · rw [endDirected_eq (by simpa using hs), lapseOf, if_pos hs]
    rfl
  · rw [endDirected_other (by simpa using hs), lapseOf, if_neg hs]
    rfl

theorem manualOnRun_eq (hm : r.mode.mode = .running) (hs : r.mode.source ≠ .manual) : manualOnRun e r =
    recomputeOffers e (post e .sourceChange 255#8 [3#8] { r with
      mode := { r.mode with source := .manual }
      stage := if r.mode.source = .directed then { r.stage with pendingGo := none, hold := false } else r.stage }) := by
  unfold manualOnRun
  rw [if_pos hm]
  by_cases hd : r.mode.source = .directed
  · rw [if_pos hd, if_pos hd, setSource, if_neg (by simp [dropDirected, hd]), giveSource_eq]
    rfl
  · rw [if_neg hd, if_neg hd, setSource, if_neg hs, giveSource_eq]
    rfl

theorem manualOffRun_eq (hm : r.mode.mode = .running) (hs : r.mode.source = .manual) : manualOffRun e r =
    recomputeOffers e (post e .sourceChange 255#8 [1#8] { r with
      mode := { r.mode with source := .autonomous, pendingStep := false } }) := by
  rw [manualOffRun, if_pos ⟨hm, hs⟩, setSource, if_neg (by simp [dropStep, hs]), giveSource_eq]
  rfl

/-! ### The timers of demand (R117, R118) -/

theorem delayExpiry_eq {a : Assign} {x : AssignEntry} (hd : isDue e.now (r.demand.assigns.get a).delayDue = true)
    (hx : e.tab.assigns.get a = some x) :
    let acts := loopView e r x.loop == .occupied && !r.isGreen x.group && x.function != .extend
    let gives := x.function == .demandNonlocking
    delayExpiry e a r = { r with demand := { r.demand with
      assigns := upd r.demand.assigns a fun y => { y with delayDue := none, giving := y.giving || (acts && gives) }
      groups := upd r.demand.groups x.group fun d => { d with
        loop := d.loop || (acts && !gives)
        nonLocking := d.nonLocking + if acts && gives && !(r.demand.assigns.get a).giving then 1 else 0 } } } := by
  intro acts gives
  by_cases rests : (r.isGreen x.group || loopView e r x.loop != .occupied) = true
  · have idle : acts = false := by
      rcases Bool.or_eq_true _ _ ▸ rests with green | vacant
      · simp [acts, green]
      · simp [acts, (bne_iff_ne.mp vacant)]
    simp [delayExpiry, hd, hx, rests, idle, stopDelay, updAssign, Rt.withDemand, upd_eq_self]
  · have active : r.isGreen x.group = false ∧ loopView e r x.loop = .occupied := by simpa using rests
    obtain ⟨red, occupied⟩ := active
    have run : delayExpiry e a r = delayRun a x r := by simp [delayExpiry, hd, hx, occupied, red]
    have acts_eq : acts = (x.function != .extend) := by simp [acts, occupied, red]
    rw [run]
    cases hf : x.function with
    | demandLocking | lockingAndExtend =>
      have acting : acts = true := by rw [acts_eq, hf]; rfl
      have locking : gives = false := by simp only [gives, hf]; rfl
      rw [acting, locking]
      simp [delayRun, hf, latchLoop, stopDelay, updAssign, updDemand, Rt.withDemand]
    | extend =>
      have idle : acts = false := by rw [acts_eq, hf]; rfl
      rw [idle]
      simp [delayRun, hf, stopDelay, updAssign, Rt.withDemand, upd_eq_self]
    | demandNonlocking =>
      have acting : acts = true := by rw [acts_eq, hf]; rfl
      have nonLocking : gives = true := by simp only [gives, hf]; rfl
      rw [acting, nonLocking]
      cases hg : (r.demand.assigns.get a).giving with
      | true =>
        have kept : upd r.demand.assigns a (fun y => { y with delayDue := none, giving := y.giving || true }) =
            upd r.demand.assigns a fun y => { y with delayDue := none } := upd_congr (by simp [hg])
        simp [delayRun, hf, startGiving, hg, stopDelay, updAssign, Rt.withDemand, upd_eq_self] at kept ⊢
        exact kept.symm
      | false =>
        simp [delayRun, hf, startGiving, hg, stopDelay, updAssign, updDemand, Rt.withDemand, upd_upd]

end

end Sys2Proof.Machine

/-! SUPPORT. Laws for the proofs of the family 03_junction_modes_start_up_and_control_ownership: what a telegram does of itself. -/

namespace Sys2Proof.Machine

/-! ### The row and the disposition of a telegram (R129, R181) -/

/-- The telegram row of a type code: one that names no type stands with CHECK_IN (R130). -/
def rowOfCode (c : Byte) : TelegramType :=
  if c = 1#8 then .doorClosed else if c = 2#8 then .checkOut else if c = 3#8 then .cancel else .checkIn

theorem telegramOf_eq_some {pl : List Byte} {x : Telegram} (h : telegramOf pl = some x) :
    pl.length = 9 ∧ pl.getD 1 0#8 = x.typeCode := by
  unfold telegramOf at h
  split at h
  · cases h
    exact ⟨rfl, rfl⟩
  · cases h

theorem telegramRow_eq {pl : List Byte} {c : Byte} (h : pl.getD 1 0#8 = c) : telegramRow pl = rowOfCode c := by
  have toNat : ∀ n : Nat, n < 256 → (c.toNat = n ↔ c = BitVec.ofNat 8 n) := fun n hn => by
    rw [← BitVec.toNat_inj, BitVec.toNat_ofNat, Nat.mod_eq_of_lt hn]
  simp only [telegramRow, telegramCode, h, rowOfCode]
  by_cases h1 : c = 1#8
  · simp [h1]
  · by_cases h2 : c = 2#8
    · simp [h2]
    · by_cases h3 : c = 3#8
      · simp [h3]
      · rw [if_neg h1, if_neg h2, if_neg h3]
        split
        · next hc => exact absurd ((toNat 1 (by omega)).mp hc) h1
        · next hc => exact absurd ((toNat 2 (by omega)).mp hc) h2
        · next hc => exact absurd ((toNat 3 (by omega)).mp hc) h3
        · rfl

/-- A payload of 9 bytes is a telegram of the row of its type code. -/
theorem exec_fieldRows_telegram {h : Header} {pl : List Byte} {i : Instr} {c : Byte} (hl : pl.length = 9)
    (hc : pl.getD 1 0#8 = c) (hi : i ∈ fieldRows h pl) (s : State) :
    exec i s = s.onPart (telegramFrame (rowOfCode c) h pl) := by
  simp [fieldRows, hl, -List.getD_eq_getElem?_getD] at hi
  rw [hc] at hi
  split at hi
  · rw [List.mem_singleton.mp hi]
    rfl
  · rw [List.mem_singleton.mp hi]
    rfl
  · rw [List.mem_singleton.mp hi]
    rfl
  · next h1 h2 h3 =>
    rw [List.mem_singleton.mp hi, rowOfCode, if_neg h1, if_neg h2, if_neg h3]
    rfl

/-- A valid frame of a field kind acts after its arrival, has the conditions read, and is forwarded (R181). -/
theorem onPart_fieldFrame_act (s : State) {f : Frame} (run : Env → Rt → Rt) (hf : frameOk f = true)
    (hl : fieldKindLength f.kind = some f.payload.length) :
    s.onPart (fieldFrame f (fun p => p.act run) true) =
      .next (s.withRt (forwardTo s.part.env .head f (finish s.part.env (run s.part.env (s.part.arrived .field))))) := by
  rw [State.onPart, fieldFrame_valid _ _ _ hf hl]
  rfl

theorem onPart_telegramFrame (s : State) {h : Header} {pl : List Byte} {type : TelegramType} (hd : dstOk h.dst = true)
    (hl : pl.length = 9) (hr : telegramRow pl = type) (hm : s.part.rt.mode.mode ≠ .dark) :
    s.onPart (telegramFrame type h pl) = .next (s.withRt (forwardTo s.part.env .head (h.frame kindTramTelegram pl)
      (finish s.part.env (takeTelegram s.part.env h.src type pl (s.part.arrived .field))))) := by
  have valid : frameOk (h.frame kindTramTelegram pl) = true := by simp [frameOk, Header.frame, hd, hl]
  have length : fieldKindLength (h.frame kindTramTelegram pl).kind = some (h.frame kindTramTelegram pl).payload.length := by
    simp [Header.frame, hl, fieldKindLength, kindTramTelegram, kindLoopCounts]
  have framed : s.onPart (telegramFrame type h pl) =
      s.onPart (fieldFrame (h.frame kindTramTelegram pl) (tramBlock type h.src pl) true) := by
    simp only [State.onPart, telegramFrame, hr, if_true]
  have lit : (s.part.arrived .field).mode.mode ≠ .dark := by simpa using hm
  refine (framed.trans (onPart_fieldFrame_act s _ valid length)).trans ?_
  rw [if_neg lit]

section
variable {e : Env} {r r' : Rt} {src : Byte} {pl : List Byte} {x : Telegram} {route : RouteEntry}

/-! ### Refusals (R130, R131, R134) -/

theorem telegramFieldsOk_eq_false : telegramFieldsOk x = false ↔
    x.point = 0#8 ∨ 4 ≤ x.typeCode.toNat ∨ x.line < 1 ∨ 999 < x.line ∨ x.run < 1 ∨ 9999 < x.run := by
  rw [← Bool.not_eq_true]
  simp only [telegramFieldsOk, tramNumbersOk, Bool.and_eq_true, bne_iff_ne, decide_eq_true_eq]
  by_cases hp : x.point = 0#8
  · simp [hp]
  · simp only [hp, ne_eq, not_false_eq_true, true_and, false_or]
    omega

theorem telegramFieldsOk_eq_true : telegramFieldsOk x = true ↔
    ¬ (x.point = 0#8 ∨ 4 ≤ x.typeCode.toNat ∨ x.line < 1 ∨ 999 < x.line ∨ x.run < 1 ∨ 9999 < x.run) := by
  rw [← telegramFieldsOk_eq_false, Bool.not_eq_false]

theorem pointOk_eq_false (hx : telegramFieldsOk x = true) : pointOk route (rowOfCode x.typeCode) x.point = false ↔
    (x.typeCode = 0#8 ∧ x.point ≠ route.checkIn) ∨ (x.typeCode = 1#8 ∧ route.door ≠ some x.point) ∨
      (x.typeCode = 2#8 ∧ x.point ≠ route.checkOut) := by
  have code : x.typeCode.toNat < 4 := by
    simp only [telegramFieldsOk, Bool.and_eq_true, decide_eq_true_eq] at hx
    exact hx.1.2
  have cases_ : x.typeCode = 0#8 ∨ x.typeCode = 1#8 ∨ x.typeCode = 2#8 ∨ x.typeCode = 3#8 := by bv_omega
  rcases cases_ with h | h | h | h <;> simp [h, rowOfCode, pointOk]

theorem tramSlot_congr {line run : Nat} (h : r'.trams = r.trams) : tramSlot r' line run = tramSlot r line run := by
  simp [tramSlot, Rt.tram, h]

theorem freeSlot_congr (h : r'.trams = r.trams) : freeSlot r' = freeSlot r := by
  simp [freeSlot, Rt.tram, h]

/-- A telegram that its fields, route or point refuse, or that finds no slot, is refused with its cause (R130, R131, R134). -/
theorem takeTelegram_refused {c : Nat} (hx : telegramOf pl = some x) (h : telegramRefusedWith e r x c) :
    takeTelegram e src (rowOfCode x.typeCode) pl r = post e .tramRefused src [b8 c] r := by
  simp only [takeTelegram, hx]
  rcases h with ⟨outside, rfl⟩ | ⟨inside, unknown, rfl⟩ | ⟨inside, route, known, ⟨misplaced, rfl⟩ | ⟨placed, type, absent, full, rfl⟩⟩
  · rw [telegramFieldsOk_eq_false.mpr outside]
    rfl
  · simp only [telegramFieldsOk_eq_true.mpr inside, if_true, validTelegram, unknown]
    rfl
  · have ok := telegramFieldsOk_eq_true.mpr inside
    simp only [ok, if_true, validTelegram, known, (pointOk_eq_false ok).mpr misplaced]
    rfl
  · have ok := telegramFieldsOk_eq_true.mpr inside
    have point : pointOk route (rowOfCode x.typeCode) x.point = true :=
      Bool.not_eq_false _ ▸ fun h => placed ((pointOk_eq_false ok).mp h)
    simp only [ok, if_true, validTelegram, known, point]
    rcases type with type | type <;> simp [type, rowOfCode, placeRecord, absent, full] <;> rfl

/-! ### Records placed (R135, R136) -/

theorem checkInRecord_gives (e : Env) (r : Rt) (x : Telegram) (route : RouteEntry) :
    checkInGives e r x route (checkInRecord e r x route) := by
  cases hd : route.door with
  | none => simp [checkInGives, checkInRecord, hd, clampLateness, windowOpen, windowClose, Rt.isGreen, after, beq_eq_decide]
  | some p => simp [checkInGives, checkInRecord, hd, clampLateness, after, Config.stopLimit]

/-- The record that a telegram's line and run have, if any. -/
def heldRecord (r : Rt) (x : Telegram) : Option TramRec := (tramSlot r x.line x.run).bind r.tram

theorem doorRecord_gives {k : TramSlot} :
    doorClosedGives e r x route k (doorRecord e r x route (heldRecord r x)) := by
  refine ⟨rfl, rfl, rfl, rfl, rfl, rfl, rfl, rfl, rfl, rfl, rfl, rfl, rfl, fun o hk ho => ?_, fun hk => ?_, rfl, rfl, ?_⟩
  · have held : heldRecord r x = some o := by simpa [heldRecord, hk, Rt.tram] using ho
    rw [held]
    rfl
  · have held : heldRecord r x = none := by simp [heldRecord, hk]
    rw [held]
    rfl
  · simp [doorRecord, Rt.isGreen, beq_eq_decide]

/-- A telegram that finds a slot places its record, gives the record notice and posts its event (R134 to R136, R143). -/
theorem placeRecord_places {k : TramSlot} {make : Option TramRec → TramRec}
    (h : (tramSlot r x.line x.run).or (freeSlot r) = some k) : placeRecord e src x.line x.run make r =
      post e .tramCheckin (b8 k.val) [b8 (make (heldRecord r x)).state.code, b8 (make (heldRecord r x)).level]
        (withRecord e k (some (make (heldRecord r x))) r) := by
  simp only [placeRecord, h, heldRecord]
  cases tramSlot r x.line x.run <;> rfl

theorem takeTelegram_checkIn {k : TramSlot} (hx : telegramOf pl = some x) (ok : telegramFieldsOk x = true)
    (hr : routeOf e.tab x.route = some route) (hk : (tramSlot r x.line x.run).or (freeSlot r) = some k)
    (hp : x.point = route.checkIn) : takeTelegram e src .checkIn pl r =
      let y := checkInRecord e r x route
      post e .tramCheckin (b8 k.val) [b8 y.state.code, b8 y.level] (withRecord e k (some y) r) := by
  have point : pointOk route .checkIn x.point = true := by simp [pointOk, hp]
  simp only [takeTelegram, hx, ok, if_true, validTelegram, hr, point]
  exact placeRecord_places hk

theorem takeTelegram_doorClosed {k : TramSlot} (hx : telegramOf pl = some x) (ok : telegramFieldsOk x = true)
    (hr : routeOf e.tab x.route = some route) (hk : (tramSlot r x.line x.run).or (freeSlot r) = some k)
    (hp : route.door = some x.point) : takeTelegram e src .doorClosed pl r =
      let y := doorRecord e r x route (heldRecord r x)
      post e .tramCheckin (b8 k.val) [b8 y.state.code, b8 y.level] (withRecord e k (some y) r) := by
  have point : pointOk route .doorClosed x.point = true := by simp [pointOk, hp]
  simp only [takeTelegram, hx, ok, if_true, validTelegram, hr, point]
  exact placeRecord_places hk

/-! ### Records removed (R140) -/

theorem checkout_removes {k : TramSlot} {y : TramRec} (c : CheckoutCause) {line run : Nat} (hk : tramSlot r line run = some k)
    (hy : r.trams.get k = some y) : checkout e line run c r =
      post e .tramCheckout (b8 k.val) ([0#8, b8 c.code] ++ encFirst y.greenGiven) (withRecord e k none r) := by
  simp only [checkout, hk, checkoutSlot_eq c hy]

theorem checkout_absent (c : CheckoutCause) {line run : Nat} (hk : tramSlot r line run = none) :
    checkout e line run c r = post e .tramCheckout 255#8 [1#8] r := by
  simp only [checkout, hk]
  rfl

theorem takeTelegram_checkOut (hx : telegramOf pl = some x) (ok : telegramFieldsOk x = true)
    (hr : routeOf e.tab x.route = some route) (hp : x.point = route.checkOut) :
    takeTelegram e src .checkOut pl r = checkout e x.line x.run .checkOut r := by
  have point : pointOk route .checkOut x.point = true := by simp [pointOk, hp]
  simp only [takeTelegram, hx, ok, if_true, validTelegram, hr, point]

theorem takeTelegram_cancel (hx : telegramOf pl = some x) (ok : telegramFieldsOk x = true)
    (hr : routeOf e.tab x.route = some route) : takeTelegram e src .cancel pl r = checkout e x.line x.run .cancel r := by
  simp only [takeTelegram, hx, ok, if_true, validTelegram, hr, pointOk]

/-! ### Record timers (R139) -/

/-- The offers are computed anew from the queue, the table and the stage, whatever they were (R150). -/
theorem recomputeOffers_offers (e : Env) (r : Rt) (h : Option HoldOffer) (t : Option TruncOffer) :
    recomputeOffers e { r with priority := { r.priority with holdOffer := h, truncOffer := t } } = recomputeOffers e r := by
  have phase : Rt.inStagePhase { r with priority := { r.priority with holdOffer := h, truncOffer := t } } = r.inStagePhase := rfl
  simp only [recomputeOffers, phase]
  split <;> rfl

theorem loseTram_eq (e : Env) (k : TramSlot) (x : TramRec) (r : Rt) : loseTram e k x r =
    post e .tramLost (b8 k.val) (enc1 x.state.code ++ encFirst x.greenGiven) (withRecord e k none r) := rfl

/-- A record that is not queued leaves no trace in the queue once it is removed (R147). -/
theorem requeue_unqueued {now : Time} {on : Bool} {trams : Vector (Option TramRec) 8} {k : TramSlot} {y : TramRec}
    {q : List TramSlot} (h : queueable y = false) :
    requeue now on (upd trams k fun _ => none) k (requeue now on (upd trams k fun _ => some y) k q) =
      requeue now on (upd trams k fun _ => none) k q := by
  simp [requeue, h]

/-- The blocks with the record of a slot set or freed and the queue following, before the offers are recomputed (R147). -/
def recordSet (e : Env) (k : TramSlot) (x : Option TramRec) (r : Rt) : Rt := { r with
  trams := upd r.trams k fun _ => x
  priority := { r.priority with queue := requeue e.now r.priority.enable (upd r.trams k fun _ => x) k r.priority.queue } }

theorem withRecord_eq (e : Env) (k : TramSlot) (x : Option TramRec) (r : Rt) :
    withRecord e k x r = recomputeOffers e (recordSet e k x r) := rfl

theorem recordSet_unqueued {k : TramSlot} {y : TramRec} (h : queueable y = false) :
    recordSet e k none (recordSet e k (some y) r) = recordSet e k none r := by
  simp only [recordSet, upd_upd]
  rw [requeue_unqueued h]

/-- A record that is not queued and is removed at once leaves what its removal alone leaves (R139, R147). -/
theorem withRecord_none_withRecord {k : TramSlot} {y : TramRec} (h : queueable y = false) :
    withRecord e k none (withRecord e k (some y) r) = withRecord e k none r := by
  obtain ⟨hold, trunc, offered⟩ : ∃ hold trunc, withRecord e k (some y) r = { recordSet e k (some y) r with
      priority := { (recordSet e k (some y) r).priority with holdOffer := hold, truncOffer := trunc } } :=
    ⟨_, _, recomputeOffers_only_offers e _⟩
  rw [offered, withRecord_eq]
  refine (recomputeOffers_offers e (recordSet e k none (recordSet e k (some y) r)) hold trunc).trans ?_
  rw [recordSet_unqueued h, withRecord_eq]

theorem stopLimitRun_loses {k : TramSlot} {y : TramRec} (hy : r.trams.get k = some y) (ht : y.timer = .stopLimit)
    (hd : reached e.now y.timerDue = true) : stopLimitRun e k r = loseTram e k y r := by
  have tram : r.tram k = some y := hy
  simp only [stopLimitRun, tram, ht, hd, and_self, if_true]

theorem guardEndRun_loses {k : TramSlot} {y : TramRec} (hy : r.trams.get k = some y) (ht : y.timer = .guardEnd)
    (hd : reached e.now y.timerDue = true) : guardEndRun e k r = loseTram e k y r := by
  have tram : r.tram k = some y := hy
  simp only [guardEndRun, tram, ht, hd, and_self, if_true]

/-- The record once its window has ended: OVERDUE, with its guard running (R139). -/
def TramRec.overdue (y : TramRec) : TramRec :=
  { y with state := .overdue, timer := .guardEnd, timerDue := y.timerDue + BitVec.ofNat 32 y.guardTime }

theorem overdue_unqueued (y : TramRec) : queueable y.overdue = false := rfl

/-- The end of a window: OVERDUE with the guard running, or lost at once where the guard has ended too (R139). -/
theorem windowEndRun_eq {k : TramSlot} {y : TramRec} (hy : r.trams.get k = some y) (ht : y.timer = .windowEnd)
    (hd : reached e.now y.timerDue = true) : windowEndRun e k r =
      if reached e.now (y.timerDue + BitVec.ofNat 32 y.guardTime) = true then
        post e .tramLost (b8 k.val) (enc1 TramState.overdue.code ++ encFirst y.greenGiven) (withRecord e k none r)
      else withRecord e k (some y.overdue) r := by
  have tram : r.tram k = some y := hy
  have run : windowEndRun e k r = guardEndRun e k (withRecord e k (some y.overdue) r) := by
    simp only [windowEndRun, tram, ht, hd, and_self, if_true]
    rfl
  have held : (withRecord e k (some y.overdue) r).trams.get k = some y.overdue := by simp
  rw [run]
  split
  · next guard =>
    rw [guardEndRun_loses held rfl guard, loseTram_eq, withRecord_none_withRecord (overdue_unqueued y)]
    rfl
  · next guard =>
    have stays : (withRecord e k (some y.overdue) r).tram k = some y.overdue := held
    simp only [guardEndRun, stays]
    exact if_neg fun h => guard h.2

end

end Sys2Proof.Machine

/-! SUPPORT. Laws for the proofs of the family 03_junction_modes_start_up_and_control_ownership: what a press and the Loop Unit's
commands leave of the blocks. -/

namespace Sys2Proof.Machine

/-- From `r` to `r'` at most the Loop and Demand Units, the class of LOOP_TUNE and BUTTON_LAMP and the report have changed. -/
def loopsAlone (r r' : Rt) : Prop := r' = { r with
  loops := r'.loops, demand := r'.demand, ring := { r.ring with aux := r'.ring.aux }, report := r'.report }

theorem loopsAlone_iff {r r' : Rt} : loopsAlone r r' ↔
    r'.ring.head = r.ring.head ∧ r'.ring.field = r.ring.field ∧ r'.ring.replies = r.ring.replies ∧
    r'.ring.aspects = r.ring.aspects ∧ r'.ring.crcFlag = r.ring.crcFlag ∧ r'.mode = r.mode ∧ r'.groups = r.groups ∧
    r'.monitor = r.monitor ∧ r'.lamp = r.lamp ∧ r'.stage = r.stage ∧ r'.trams = r.trams ∧ r'.priority = r.priority ∧
    r'.notices = r.notices := by
  obtain ⟨⟨head, field, replies, aspects, aux, crc⟩, mode, groups, monitor, lamp, stage, loops, demand, trams, priority, report, notices⟩ := r'
  simp only [loopsAlone, Rt.mk.injEq, RingUnit.mk.injEq, true_and, and_assoc]

section
variable {e : Env} {r r' : Rt} {c : StageRec}

theorem loopsAlone.runsStage (h : loopsAlone r r') (hr : r.runsStage c) : r'.runsStage c := by
  unfold loopsAlone at h
  rw [h]
  exact hr

theorem loopWritten_loopsAlone (l : Loop) (old : Option LoopEntry) : loopsAlone r (loopWritten e l old r) :=
  loopsAlone_iff.mpr (by simp)

theorem takeLoopCounts_loopsAlone (addr : Byte) (pl : List Byte) : loopsAlone r (takeLoopCounts e addr pl r) :=
  loopsAlone_iff.mpr (by simp)

theorem cardSilence_loopsAlone (addr : Byte) : loopsAlone r (cardSilence e addr r) := loopsAlone_iff.mpr (by simp)

theorem tuneEcho_loopsAlone (l : Loop) : loopsAlone r (tuneEcho e l r) := loopsAlone_iff.mpr (by simp)

theorem tuneRetry_loopsAlone (l : Loop) : loopsAlone r (tuneRetry e l r) := loopsAlone_iff.mpr (by simp)

theorem pressButton_loopsAlone (x : ButtonEntry) : loopsAlone r (pressButton e x r) := loopsAlone_iff.mpr (by simp)

/-! ### A press (R124, R125) -/

/-- A press on a pedestrian group that is not in GREEN latches BUTTON. -/
theorem pressButton_demand {x : ButtonEntry} (ha : r.demand.active = true) (hp : e.tab.gtype x.group = .pedestrian)
    (hg : (r.groups.get x.group).state ≠ .green) : (pressButton e x r).demand = { r.demand with
      groups := upd r.demand.groups x.group fun d => { d with button := true } } := by
  have acts : (r.demand.active && e.tab.gtype x.group == .pedestrian && !r.isGreen x.group) = true := by
    simp [ha, hp, Rt.isGreen, hg]
  unfold pressButton
  rw [if_pos acts]
  split
  · next lit =>
    have same : upd r.demand.groups x.group (fun d => { d with button := true }) = r.demand.groups := upd_eq_self (by
      show { r.demand.groups.get x.group with button := true } = r.demand.groups.get x.group
      rw [← lit])
    rw [same]
    simp
  · simp [updDemand]

theorem pressButton_latches {x : ButtonEntry} (ha : r.demand.active = true) (hp : e.tab.gtype x.group = .pedestrian)
    (hg : (r.groups.get x.group).state ≠ .green) : pressButton e x r = { r with
      demand := { r.demand with groups := upd r.demand.groups x.group fun d => { d with button := true } }
      ring := { r.ring with aux := (pressButton e x r).ring.aux }, report := (pressButton e x r).report } := by
  have alone : loopsAlone r (pressButton e x r) := pressButton_loopsAlone x
  have demand := pressButton_demand ha hp hg
  have loops : (pressButton e x r).loops = r.loops := by simp
  generalize pressButton e x r = u at alone demand loops ⊢
  unfold loopsAlone at alone
  rwa [demand, loops] at alone

theorem pressButton_ignored {x : ButtonEntry}
    (h : r.demand.active = false ∨ e.tab.gtype x.group ≠ .pedestrian ∨ (r.groups.get x.group).state = .green) :
    pressButton e x r = r := by
  have rests : (r.demand.active && e.tab.gtype x.group == .pedestrian && !r.isGreen x.group) = false := by
    rcases h with h | h | h
    · simp [h]
    · simp [h]
    · simp [Rt.isGreen, h]
  simp [pressButton, rests]

end

end Sys2Proof.Machine

/-! SUPPORT. Proofs of the statements of the family 03_junction_modes_start_up_and_control_ownership: commands that have the end
conditions of a running stage read. -/

namespace Sys2Proof.Machine

section
variable {s : State} {c : StageRec}

/-! ### The three ways in which a command's blocks are followed by a reading -/

theorem runsStage_congr {r r' : Rt} (hn : r'.notices = r.notices) (hp : r'.stage.phase = r.stage.phase)
    (hc : r'.stage.current = r.stage.current) (h : r.runsStage c) : r'.runsStage c :=
  ⟨hn.trans h.1, hp.trans h.2.1, hc.trans h.2.2⟩

theorem arrived_runsStage (port : Port) (h : s.part.rt.runsStage c) : (s.part.arrived port).runsStage c :=
  runsStage_congr (by simp) (by simp) (by simp) h

theorem moment_reads {i : Instr} {u : Rt} (hexec : exec i s = .next (s.withRt (finish s.part.env u))) (h : u.runsStage c) :
    ∃ r, exec i s = .next (s.withRt r) ∧ conditionsRead s.part.env u r c :=
  ⟨_, hexec, finish_conditionsRead h⟩

theorem headFrame_reads {i : Instr} {f : Frame} {u : Rt}
    (hexec : exec i s = .next (s.withRt (answer s.part.env f .accepted (finish s.part.env u)))) (h : u.runsStage c) :
    ∃ r, exec i s = .next (s.withRt (answer s.part.env f .accepted r)) ∧ conditionsRead s.part.env u r c :=
  ⟨_, hexec, finish_conditionsRead h⟩

theorem fieldFrame_reads {i : Instr} {f : Frame} {u : Rt}
    (hexec : exec i s = .next (s.withRt (forwardTo s.part.env .head f (finish s.part.env u)))) (h : u.runsStage c) :
    ∃ r, exec i s = .next (s.withRt (forwardTo s.part.env .head f r)) ∧ conditionsRead s.part.env u r c :=
  ⟨_, hexec, finish_conditionsRead h⟩

theorem withRecord_runsStage {e : Env} {k : TramSlot} {x : Option TramRec} {r : Rt} (h : r.runsStage c) :
    (withRecord e k x r).runsStage c := runsStage_congr (by simp) (by simp) (by simp) h

theorem post_runsStage {e : Env} {kind : EventKind} {subject : Byte} {detail : List Byte} {r : Rt} (h : r.runsStage c) :
    (post e kind subject detail r).runsStage c := h

/-! ### Commands of the head port -/

theorem softDemand_reads {h : Header} {b v : Byte} {g : Group} (hrun : s.part.rt.runsStage c)
    (hd : Delivered s.part (controlFrame h 5 [b, v])) (hm : stagesRun s.part.rt.mode.mode = true) (hb : groupOf b = some g)
    (hg : s.part.env.tab.isDefined g = true) (hv : v = 0#8 ∨ v = 1#8) :
    ∃ r, exec (.softDemand h [b, v]) s = .next (s.withRt (answer s.part.env (controlFrame h 5 [b, v]) .accepted r)) ∧
      conditionsRead s.part.env { s.part.arrived .head with demand := { s.part.rt.demand with
        groups := upd s.part.rt.demand.groups g fun d => { d with
          soft := if v = 1#8 then false else d.soft || !s.part.rt.isGreen g } } } r c := by
  have taken : exec (.softDemand h [b, v]) s = .next (s.withRt (answer s.part.env (controlFrame h 5 [b, v])
      (softDemandOwner b v s.part.env (s.part.arrived .head)).2 (softDemandOwner b v s.part.env (s.part.arrived .head)).1)) :=
    onPart_headFrame_delivered s _ 2 [b, v] (softDemandOwner b v) hd rfl
  rw [softDemandOwner_accepts (by simpa using hm) hb hg hv] at taken
  have demand : (s.part.arrived .head).demand = s.part.rt.demand := by simp
  have green : (s.part.arrived .head).isGreen g = s.part.rt.isGreen g := by simp [Rt.isGreen]
  rw [demand, green] at taken
  exact headFrame_reads taken (runsStage_congr (r := s.part.arrived .head) rfl rfl rfl (arrived_runsStage .head hrun))

theorem loopWrite_reads {h : Header} {i1 m : Byte} {entry : List Byte} {l : Loop} {x : Option LoopEntry} {f : Frame}
    (hrun : s.part.rt.runsStage c) (hf : f = h.frame kindTableWrite (6#8 :: i1 :: 0#8 :: m :: entry)) (hd : Delivered s.part f)
    (hlen : entry.length = 20) (hl : loopOf i1 = some l)
    (hx : markedEntry ⟨i1, 0#8, m, entry⟩ (parseLoop s.part.env.own) = some x)
    (hok : ∀ y, x = some y → loopRelationsOk s.part.env.tab l y = true) :
    ∃ e' r u1, exec (.tableWriteLoop h (i1 :: 0#8 :: m :: entry)) s =
        .next { s with part := { env := e', rt := answer e' f .accepted r } } ∧
      e' = { s.part.env with tab := { s.part.env.tab with loops := e'.tab.loops } } ∧
      (∀ k : Loop, e'.tab.loops.get k = if k = l then x else s.part.env.tab.loops.get k) ∧
      loopsAlone (s.part.arrived .head) u1 ∧ conditionsRead e' u1 r c := by
  subst hf
  have checked : relate (markedEntry ⟨i1, 0#8, m, entry⟩ (parseLoop s.part.env.own)) (loopRelationsOk s.part.env.tab l) = some x := by
    rw [hx]
    cases x with
    | none => rfl
    | some y => simp [relate, hok y rfl]
  let e' : Env := { s.part.env with tab := { s.part.env.tab with loops := upd s.part.env.tab.loops l fun _ => x } }
  have alone := loopWritten_loopsAlone (r := s.part.arrived .head) (e := e') l (s.part.env.tab.loops.get l)
  refine ⟨e', _, _, ?_, rfl, fun k => ?_, alone, finish_conditionsRead (alone.runsStage (arrived_runsStage .head hrun))⟩
  · refine writeFrame_of_owner (q := storeLoop l x s.part.received) hd hlen ?_
    simp only [index1Of, hl, if_true, tableOwner, checked, Bool.false_and, Bool.false_eq_true, if_false, noCheck]
  · have stored : e'.tab.loops.get k = if l = k then x else s.part.env.tab.loops.get k := upd_get _ _ _ _
    simp only [stored, eq_comm (a := k)]

theorem priorityEnable_reads {h : Header} {b : Byte} (hrun : s.part.rt.runsStage c)
    (hd : Delivered s.part (controlFrame h 6 [b])) (hb : b = 0#8 ∨ b = 1#8) :
    ∃ r, exec (.priorityEnable h [b]) s = .next (s.withRt (answer s.part.env (controlFrame h 6 [b]) .accepted r)) ∧
      conditionsRead s.part.env (if s.part.rt.priority.enable = decide (b = 0#8) then s.part.arrived .head else
        recomputeOffers s.part.env { s.part.arrived .head with priority := { (s.part.arrived .head).priority with
          enable := decide (b = 0#8)
          queue := if decide (b = 0#8) then rebuildQueue s.part.env.now true s.part.rt.trams else [] } }) r c := by
  have taken : exec (.priorityEnable h [b]) s = .next (s.withRt (answer s.part.env (controlFrame h 6 [b])
      (priorityEnableOwner b s.part.env (s.part.arrived .head)).2 (priorityEnableOwner b s.part.env (s.part.arrived .head)).1)) :=
    onPart_headFrame_delivered s _ 1 [b] (priorityEnableOwner b) hd rfl
  have enable : (s.part.arrived .head).priority.enable = s.part.rt.priority.enable := by simp
  have queue : rebuildQueue s.part.env.now true (s.part.arrived .head).trams =
      rebuildQueue s.part.env.now true s.part.rt.trams := by simp
  rw [priorityEnableOwner_accepts b _ _ hb, setEnable_eq, enable, queue] at taken
  refine headFrame_reads taken ?_
  split
  · exact arrived_runsStage .head hrun
  · exact runsStage_congr (by simp) (by simp) (by simp) (arrived_runsStage .head hrun)

theorem cancelTram_reads {h : Header} {l1 l0 n1 n0 : Byte} {k : TramSlot} {x : TramRec} (hrun : s.part.rt.runsStage c)
    (hd : Delivered s.part (controlFrame h 7 [l1, l0, n1, n0]))
    (hn : 1 ≤ num [l1, l0] ∧ num [l1, l0] ≤ 999 ∧ 1 ≤ num [n1, n0] ∧ num [n1, n0] ≤ 9999)
    (hk : tramSlot s.part.rt (num [l1, l0]) (num [n1, n0]) = some k) (hx : s.part.rt.trams.get k = some x) :
    ∃ r, exec (.cancelTram h [l1, l0, n1, n0]) s =
        .next (s.withRt (answer s.part.env (controlFrame h 7 [l1, l0, n1, n0]) .accepted r)) ∧
      conditionsRead s.part.env (post s.part.env .tramCheckout (b8 k.val) ([0#8, 2#8] ++ encFirst x.greenGiven)
        (withRecord s.part.env k none (s.part.arrived .head))) r c := by
  have taken : exec (.cancelTram h [l1, l0, n1, n0]) s = .next (s.withRt (answer s.part.env (controlFrame h 7 [l1, l0, n1, n0])
      (cancelTramOwner (num [l1, l0]) (num [n1, n0]) s.part.env (s.part.arrived .head)).2
      (cancelTramOwner (num [l1, l0]) (num [n1, n0]) s.part.env (s.part.arrived .head)).1)) :=
    onPart_headFrame_delivered s _ 4 [l1, l0, n1, n0] (cancelTramOwner (num [l1, l0]) (num [n1, n0])) hd rfl
  rw [cancelTramOwner_accepts (by simpa [tramNumbersOk] using hn) ((tramSlot_congr (by simp)).trans hk) (by simpa using hx)] at taken
  exact headFrame_reads taken (post_runsStage (withRecord_runsStage (arrived_runsStage .head hrun)))

/-! ### The keepalive's timers and the panel keys -/

theorem lapse_reads {i : Instr} {cause : LapseCause} (hrun : s.part.rt.runsStage c)
    (hexec : exec i s = .next (s.withRt (finish s.part.env (lapse s.part.env cause s.part.rt)))) :
    ∃ r, exec i s = .next (s.withRt r) ∧ conditionsRead s.part.env (lapseOf s.part.env (b8 cause.code) s.part.rt) r c := by
  rw [lapse_eq_lapseOf] at hexec
  refine moment_reads hexec ?_
  rw [← lapse_eq_lapseOf]
  exact runsStage_congr (by simp) (by simp) (by simp) hrun

theorem armReturn_reads (hrun : s.part.rt.runsStage c) (hk : s.part.rt.mode.keep.state = .armed)
    (hd : isDue s.part.env.now s.part.rt.mode.keep.armDue = true) (hr : s.part.rt.mode.keep.remembered = some .active) :
    ∃ r, exec .keepaliveArmExpiry s = .next (s.withRt r) ∧ conditionsRead s.part.env { s.part.rt with
      mode := { s.part.rt.mode with keep := ⟨.active, s.part.rt.mode.keep.windowDue, none, none⟩ } } r c := by
  have expired := exec_keepaliveArmExpiry hk hd
  rw [armRun_returns hk hd hr] at expired
  exact moment_reads expired hrun

theorem manualOn_reads {h : Header} (hrun : s.part.rt.runsStage c) (hd : dstOk h.dst = true)
    (hm : s.part.rt.mode.mode = .running) (hs : s.part.rt.mode.source ≠ .manual) :
    ∃ r, exec (.manualOn h []) s = .next (s.withRt (forwardTo s.part.env .head (keyFrame h 1 []) r)) ∧
      conditionsRead s.part.env (recomputeOffers s.part.env (post s.part.env .sourceChange 255#8 [3#8] { s.part.arrived .field with
        mode := { s.part.rt.mode with source := .manual }
        stage := if s.part.rt.mode.source = .directed then { s.part.rt.stage with pendingGo := none, hold := false }
          else s.part.rt.stage })) r c := by
  have pressed := exec_manualOn s h (frameOk_keyFrame 1 hd)
  have mode : (s.part.arrived .field).mode = s.part.rt.mode := by simp
  have stage : (s.part.arrived .field).stage = s.part.rt.stage := by simp
  rw [manualOnRun_eq (by rwa [mode]) (by rwa [mode]), mode, stage] at pressed
  refine fieldFrame_reads pressed (runsStage_congr (r := s.part.rt) (by simp) ?_ ?_ hrun) <;> simp <;> split <;> rfl

theorem manualOff_reads {h : Header} (hrun : s.part.rt.runsStage c) (hd : dstOk h.dst = true)
    (hm : s.part.rt.mode.mode = .running) (hs : s.part.rt.mode.source = .manual) :
    ∃ r, exec (.manualOff h []) s = .next (s.withRt (forwardTo s.part.env .head (keyFrame h 2 []) r)) ∧
      conditionsRead s.part.env (recomputeOffers s.part.env (post s.part.env .sourceChange 255#8 [1#8] { s.part.arrived .field with
        mode := { s.part.rt.mode with source := .autonomous, pendingStep := false } })) r c := by
  have pressed := exec_manualOff s h (frameOk_keyFrame 2 hd)
  have mode : (s.part.arrived .field).mode = s.part.rt.mode := by simp
  rw [manualOffRun_eq (by rwa [mode]) (by rwa [mode]), mode] at pressed
  exact fieldFrame_reads pressed (runsStage_congr (r := s.part.rt) (by simp) (by simp) (by simp) hrun)

/-! ### Telegrams -/

theorem exec_telegram {h : Header} {pl : List Byte} {x : Telegram} {i : Instr} (hd : dstOk h.dst = true)
    (hx : telegramOf pl = some x) (hm : s.part.rt.mode.mode ≠ .dark)
    (hi : exec i s = s.onPart (telegramFrame (rowOfCode x.typeCode) h pl)) :
    exec i s = .next (s.withRt (forwardTo s.part.env .head (h.frame kindTramTelegram pl)
      (finish s.part.env (takeTelegram s.part.env h.src (rowOfCode x.typeCode) pl (s.part.arrived .field))))) := by
  obtain ⟨length, code⟩ := telegramOf_eq_some hx
  exact hi.trans (onPart_telegramFrame s hd length (telegramRow_eq code) hm)

theorem telegramRefusedWith_congr {e : Env} {r r' : Rt} {x : Telegram} {n : Nat} (h : r'.trams = r.trams)
    (hr : telegramRefusedWith e r x n) : telegramRefusedWith e r' x n := by
  unfold telegramRefusedWith at *
  rwa [tramSlot_congr h, freeSlot_congr h]

theorem refusedTelegram_reads {h : Header} {pl : List Byte} {x : Telegram} {i : Instr} {code : Nat} (hrun : s.part.rt.runsStage c)
    (hd : dstOk h.dst = true) (hx : telegramOf pl = some x) (hm : s.part.rt.mode.mode ≠ .dark) (hi : i ∈ fieldRows h pl)
    (hr : telegramRefusedWith s.part.env s.part.rt x code) :
    ∃ r, exec i s = .next (s.withRt (forwardTo s.part.env .head (h.frame kindTramTelegram pl) r)) ∧
      conditionsRead s.part.env (post s.part.env .tramRefused h.src [b8 code] (s.part.arrived .field)) r c := by
  obtain ⟨length, code⟩ := telegramOf_eq_some hx
  have taken := exec_telegram hd hx hm (exec_fieldRows_telegram length code hi s)
  rw [takeTelegram_refused hx (telegramRefusedWith_congr (by simp) hr)] at taken
  exact fieldFrame_reads taken (post_runsStage (arrived_runsStage .field hrun))

theorem checkIn_reads {h : Header} {pl : List Byte} {x : Telegram} {route : RouteEntry} {k : TramSlot} (hrun : s.part.rt.runsStage c)
    (hd : dstOk h.dst = true) (hx : telegramOf pl = some x) (hm : s.part.rt.mode.mode ≠ .dark) (ok : telegramFieldsOk x = true)
    (hr : routeOf s.part.env.tab x.route = some route)
    (hk : (tramSlot s.part.rt x.line x.run).or (freeSlot s.part.rt) = some k) (ht : x.typeCode = 0#8) (hp : x.point = route.checkIn) :
    ∃ y, checkInGives s.part.env s.part.rt x route y ∧
      ∃ r, exec (.telegramCheckIn h pl) s = .next (s.withRt (forwardTo s.part.env .head (h.frame kindTramTelegram pl) r)) ∧
        conditionsRead s.part.env (post s.part.env .tramCheckin (b8 k.val) [b8 y.state.code, b8 y.level]
          (withRecord s.part.env k (some y) (s.part.arrived .field))) r c := by
  have taken := exec_telegram (i := .telegramCheckIn h pl) hd hx hm (by rw [ht]; rfl)
  have slot : (tramSlot (s.part.arrived .field) x.line x.run).or (freeSlot (s.part.arrived .field)) = some k := by
    rwa [tramSlot_congr (r := s.part.rt) (by simp), freeSlot_congr (r := s.part.rt) (by simp)]
  have row : rowOfCode x.typeCode = .checkIn := by rw [ht]; rfl
  rw [row, takeTelegram_checkIn hx ok hr slot hp] at taken
  have gives := checkInRecord_gives s.part.env (s.part.arrived .field) x route
  have groups : (s.part.arrived .field).groups = s.part.rt.groups := by simp
  unfold checkInGives at gives
  rw [groups] at gives
  exact ⟨_, gives, fieldFrame_reads taken (post_runsStage (withRecord_runsStage (arrived_runsStage .field hrun)))⟩

theorem doorClosed_reads {h : Header} {pl : List Byte} {x : Telegram} {route : RouteEntry} {k : TramSlot} (hrun : s.part.rt.runsStage c)
    (hd : dstOk h.dst = true) (hx : telegramOf pl = some x) (hm : s.part.rt.mode.mode ≠ .dark) (ok : telegramFieldsOk x = true)
    (hr : routeOf s.part.env.tab x.route = some route)
    (hk : (tramSlot s.part.rt x.line x.run).or (freeSlot s.part.rt) = some k) (ht : x.typeCode = 1#8) (hp : route.door = some x.point) :
    ∃ y, doorClosedGives s.part.env s.part.rt x route k y ∧
      ∃ r, exec (.telegramDoorClosed h pl) s = .next (s.withRt (forwardTo s.part.env .head (h.frame kindTramTelegram pl) r)) ∧
        conditionsRead s.part.env (post s.part.env .tramCheckin (b8 k.val) [b8 y.state.code, b8 y.level]
          (withRecord s.part.env k (some y) (s.part.arrived .field))) r c := by
  have taken := exec_telegram (i := .telegramDoorClosed h pl) hd hx hm (by rw [ht]; rfl)
  have slot : (tramSlot (s.part.arrived .field) x.line x.run).or (freeSlot (s.part.arrived .field)) = some k := by
    rwa [tramSlot_congr (r := s.part.rt) (by simp), freeSlot_congr (r := s.part.rt) (by simp)]
  have row : rowOfCode x.typeCode = .doorClosed := by rw [ht]; rfl
  rw [row, takeTelegram_doorClosed hx ok hr slot hp] at taken
  have gives := doorRecord_gives (e := s.part.env) (r := s.part.arrived .field) (x := x) (route := route) (k := k)
  have groups : (s.part.arrived .field).groups = s.part.rt.groups := by simp
  have trams : (s.part.arrived .field).trams = s.part.rt.trams := by simp
  unfold doorClosedGives at gives
  rw [groups, trams, tramSlot_congr (r := s.part.rt) (by simp)] at gives
  exact ⟨_, gives, fieldFrame_reads taken (post_runsStage (withRecord_runsStage (arrived_runsStage .field hrun)))⟩

/-- A CHECK_OUT or CANCEL that is not refused (R140). -/
theorem checkout_reads {h : Header} {pl : List Byte} {x : Telegram} {i : Instr} {cause : CheckoutCause} (hrun : s.part.rt.runsStage c)
    (hexec : exec i s = .next (s.withRt (forwardTo s.part.env .head (h.frame kindTramTelegram pl)
      (finish s.part.env (checkout s.part.env x.line x.run cause (s.part.arrived .field)))))) :
    (∀ k y, tramSlot s.part.rt x.line x.run = some k → s.part.rt.trams.get k = some y →
      ∃ r, exec i s = .next (s.withRt (forwardTo s.part.env .head (h.frame kindTramTelegram pl) r)) ∧
        conditionsRead s.part.env (post s.part.env .tramCheckout (b8 k.val) ([0#8, b8 cause.code] ++ encFirst y.greenGiven)
          (withRecord s.part.env k none (s.part.arrived .field))) r c) ∧
    (tramSlot s.part.rt x.line x.run = none →
      ∃ r, exec i s = .next (s.withRt (forwardTo s.part.env .head (h.frame kindTramTelegram pl) r)) ∧
        conditionsRead s.part.env (post s.part.env .tramCheckout 255#8 [1#8] (s.part.arrived .field)) r c) := by
  have slot := tramSlot_congr (r := s.part.rt) (r' := s.part.arrived .field) (line := x.line) (run := x.run) (by simp)
  refine ⟨fun k y hk hy => ?_, fun hk => ?_⟩
  · rw [checkout_removes cause (slot.trans hk) (by simpa using hy)] at hexec
    exact fieldFrame_reads hexec (post_runsStage (withRecord_runsStage (arrived_runsStage .field hrun)))
  · rw [checkout_absent cause (slot.trans hk)] at hexec
    exact fieldFrame_reads hexec (post_runsStage (arrived_runsStage .field hrun))

theorem exec_checkOut {h : Header} {pl : List Byte} {x : Telegram} {route : RouteEntry} (hd : dstOk h.dst = true)
    (hx : telegramOf pl = some x) (hm : s.part.rt.mode.mode ≠ .dark) (ok : telegramFieldsOk x = true)
    (hr : routeOf s.part.env.tab x.route = some route) (ht : x.typeCode = 2#8) (hp : x.point = route.checkOut) :
    exec (.telegramCheckOut h pl) s = .next (s.withRt (forwardTo s.part.env .head (h.frame kindTramTelegram pl)
      (finish s.part.env (checkout s.part.env x.line x.run .checkOut (s.part.arrived .field))))) := by
  have taken := exec_telegram (i := .telegramCheckOut h pl) hd hx hm (by rw [ht]; rfl)
  have row : rowOfCode x.typeCode = .checkOut := by rw [ht]; rfl
  rwa [row, takeTelegram_checkOut hx ok hr hp] at taken

theorem exec_cancel {h : Header} {pl : List Byte} {x : Telegram} {route : RouteEntry} (hd : dstOk h.dst = true)
    (hx : telegramOf pl = some x) (hm : s.part.rt.mode.mode ≠ .dark) (ok : telegramFieldsOk x = true)
    (hr : routeOf s.part.env.tab x.route = some route) (ht : x.typeCode = 3#8) :
    exec (.telegramCancel h pl) s = .next (s.withRt (forwardTo s.part.env .head (h.frame kindTramTelegram pl)
      (finish s.part.env (checkout s.part.env x.line x.run .cancel (s.part.arrived .field))))) := by
  have taken := exec_telegram (i := .telegramCancel h pl) hd hx hm (by rw [ht]; rfl)
  have row : rowOfCode x.typeCode = .cancel := by rw [ht]; rfl
  rwa [row, takeTelegram_cancel hx ok hr] at taken

/-! ### A press -/

theorem exec_press {h : Header} {b : Byte} {x : ButtonEntry} (hd : dstOk h.dst = true)
    (hx : buttonOf s.part.env.tab h.src b = some x) :
    exec (.pushButton h [b]) s = .next (s.withRt (forwardTo s.part.env .head (h.frame kindPushButton [b])
      (finish s.part.env (pressButton s.part.env x (s.part.arrived .field))))) := by
  have valid : frameOk (h.frame kindPushButton [b]) = true := by simp [frameOk, Header.frame, hd]
  have pressed : pushRun h.src b s.part.env (s.part.arrived .field) = pressButton s.part.env x (s.part.arrived .field) := by
    simp only [pushRun, hx]
  rw [← pressed]
  exact onPart_fieldFrame_act s (pushRun h.src b) valid rfl

theorem press_reads {h : Header} {b : Byte} {x : ButtonEntry} (hrun : s.part.rt.runsStage c) (hd : dstOk h.dst = true)
    (hx : buttonOf s.part.env.tab h.src b = some x) (ha : s.part.rt.demand.active = true)
    (hp : s.part.env.tab.gtype x.group = .pedestrian) (hg : (s.part.rt.groups.get x.group).state ≠ .green) :
    ∃ u1, u1 = { s.part.arrived .field with
        demand := { s.part.rt.demand with groups := upd s.part.rt.demand.groups x.group fun d => { d with button := true } }
        ring := { (s.part.arrived .field).ring with aux := u1.ring.aux }, report := u1.report } ∧
      ∃ r, exec (.pushButton h [b]) s = .next (s.withRt (forwardTo s.part.env .head (h.frame kindPushButton [b]) r)) ∧
        conditionsRead s.part.env u1 r c := by
  have latched := pressButton_latches (e := s.part.env) (r := s.part.arrived .field) (x := x) (by simpa using ha) hp (by simpa using hg)
  have demand : (s.part.arrived .field).demand = s.part.rt.demand := by simp
  have runs := (pressButton_loopsAlone (e := s.part.env) (r := s.part.arrived .field) x).runsStage (arrived_runsStage .field hrun)
  rw [demand] at latched
  exact ⟨_, latched, fieldFrame_reads (exec_press hd hx) runs⟩

theorem ignoredPress_reads {h : Header} {b : Byte} {x : ButtonEntry} (hrun : s.part.rt.runsStage c) (hd : dstOk h.dst = true)
    (hx : buttonOf s.part.env.tab h.src b = some x) (hi : s.part.rt.demand.active = false ∨
      s.part.env.tab.gtype x.group ≠ .pedestrian ∨ (s.part.rt.groups.get x.group).state = .green) :
    ∃ r, exec (.pushButton h [b]) s = .next (s.withRt (forwardTo s.part.env .head (h.frame kindPushButton [b]) r)) ∧
      conditionsRead s.part.env (s.part.arrived .field) r c := by
  have pressed := exec_press hd hx
  rw [pressButton_ignored (by simpa using hi)] at pressed
  exact fieldFrame_reads pressed (arrived_runsStage .field hrun)

/-! ### Timers -/

theorem record_lost_reads {i : Instr} {k : TramSlot} {y : TramRec} (hrun : s.part.rt.runsStage c)
    (hexec : exec i s = .next (s.withRt (finish s.part.env (loseTram s.part.env k y s.part.rt)))) :
    ∃ r, exec i s = .next (s.withRt r) ∧ conditionsRead s.part.env
      (post s.part.env .tramLost (b8 k.val) (enc1 y.state.code ++ encFirst y.greenGiven) (withRecord s.part.env k none s.part.rt)) r c :=
  moment_reads hexec (post_runsStage (withRecord_runsStage hrun))

theorem tramTimerDue_of {e : Env} {r : Rt} {k : TramSlot} {y : TramRec} {t : TramTimer} (hy : r.trams.get k = some y)
    (ht : y.timer = t) (hd : reached e.now y.timerDue = true) : tramTimerDue e r k t = true := by
  have tram : r.tram k = some y := hy
  simp only [tramTimerDue, tram, ht, hd]
  simp

theorem stopLimit_reads {k : TramSlot} {y : TramRec} (hrun : s.part.rt.runsStage c) (hy : s.part.rt.trams.get k = some y)
    (hd : reached s.part.env.now y.timerDue = true) (ht : y.timer = .stopLimit) :
    ∃ r, exec (.stopLimitExpiry k) s = .next (s.withRt r) ∧ conditionsRead s.part.env
      (post s.part.env .tramLost (b8 k.val) (enc1 y.state.code ++ encFirst y.greenGiven) (withRecord s.part.env k none s.part.rt)) r c := by
  refine record_lost_reads hrun ?_
  rw [← stopLimitRun_loses hy ht hd]
  exact whenDue_acts (i := .stopLimitExpiry k) (fun e r => stopLimitRun e k r) (tramTimerDue_of hy ht hd)

theorem guardEnd_reads {k : TramSlot} {y : TramRec} (hrun : s.part.rt.runsStage c) (hy : s.part.rt.trams.get k = some y)
    (hd : reached s.part.env.now y.timerDue = true) (ht : y.timer = .guardEnd) :
    ∃ r, exec (.guardEndExpiry k) s = .next (s.withRt r) ∧ conditionsRead s.part.env
      (post s.part.env .tramLost (b8 k.val) (enc1 y.state.code ++ encFirst y.greenGiven) (withRecord s.part.env k none s.part.rt)) r c := by
  refine record_lost_reads hrun ?_
  rw [← guardEndRun_loses hy ht hd]
  exact whenDue_acts (i := .guardEndExpiry k) (fun e r => guardEndRun e k r) (tramTimerDue_of hy ht hd)

theorem windowEnd_reads {k : TramSlot} {y : TramRec} (hrun : s.part.rt.runsStage c) (hy : s.part.rt.trams.get k = some y)
    (hd : reached s.part.env.now y.timerDue = true) (ht : y.timer = .windowEnd) :
    ∃ r, exec (.windowEndExpiry k) s = .next (s.withRt r) ∧ conditionsRead s.part.env
      (if reached s.part.env.now (y.timerDue + BitVec.ofNat 32 y.guardTime) = true then
        post s.part.env .tramLost (b8 k.val) (enc1 TramState.overdue.code ++ encFirst y.greenGiven)
          (withRecord s.part.env k none s.part.rt)
      else withRecord s.part.env k (some y.overdue) s.part.rt) r c := by
  have expired := whenDue_acts (i := .windowEndExpiry k) (fun e r => windowEndRun e k r) (tramTimerDue_of hy ht hd)
  rw [windowEndRun_eq hy ht hd] at expired
  refine moment_reads expired ?_
  split
  · exact post_runsStage (withRecord_runsStage hrun)
  · exact withRecord_runsStage hrun

theorem delay_reads {a : Assign} (hrun : s.part.rt.runsStage c)
    (hd : isDue s.part.env.now (s.part.rt.demand.assigns.get a).delayDue = true) :
    ∃ r, exec (.demandDelayExpiry a) s = .next (s.withRt r) ∧
      conditionsRead s.part.env (delayExpiry s.part.env a s.part.rt) r c :=
  moment_reads (whenDue_acts (i := .demandDelayExpiry a) (fun e r => delayExpiry e a r) hd)
    (runsStage_congr (by simp) (by simp) (by simp) hrun)

/-! ### The Loop Unit -/

theorem loopCountsForwarded_iff {r : Rt} {a : Byte} (hm : r.mode.mode ≠ .dark) :
    loopCountsForwarded r a = true ↔ ∀ k, r.cardRec a = some k → k.forward = true := by
  cases h : r.cardRec a <;> simp [loopCountsForwarded, hm, h]

theorem exec_loopCounts {h : Header} {pl : List Byte} (hd : dstOk h.dst = true) (hl : pl.length = 16) :
    let t := finish s.part.env (takeLoopCounts s.part.env h.src pl (s.part.arrived .field))
    exec (.loopCounts h pl) s = .next (s.withRt (if loopCountsForwarded s.part.rt h.src = true
      then forwardTo s.part.env .head (h.frame kindLoopCounts pl) t else t)) := by
  have valid : frameOk (h.frame kindLoopCounts pl) = true := by simp [frameOk, Header.frame, hd, hl]
  have length : fieldKindLength (h.frame kindLoopCounts pl).kind = some (h.frame kindLoopCounts pl).payload.length := by
    simp [Header.frame, hl, fieldKindLength]
  have framed : exec (.loopCounts h pl) s = s.onPart fun p => fieldFrame (h.frame kindLoopCounts pl)
      (fun p => p.act fun e r => takeLoopCounts e h.src pl r) (loopCountsForwarded p.rt h.src) p := rfl
  rw [framed]
  cases hf : loopCountsForwarded s.part.rt h.src <;> simp only [State.onPart, fieldFrame, valid, length, hf, if_true] <;> rfl

theorem loopCounts_reads {h : Header} {pl : List Byte} (hrun : s.part.rt.runsStage c) (hd : dstOk h.dst = true)
    (hl : pl.length = 16) (hm : s.part.rt.mode.mode ≠ .dark) :
    ∃ r u1, exec (.loopCounts h pl) s = .next (s.withRt (if ∀ k, s.part.rt.cardRec h.src = some k → k.forward = true
        then forwardTo s.part.env .head (h.frame kindLoopCounts pl) r else r)) ∧
      loopsAlone (s.part.arrived .field) u1 ∧ conditionsRead s.part.env u1 r c := by
  have alone := takeLoopCounts_loopsAlone (e := s.part.env) (r := s.part.arrived .field) h.src pl
  refine ⟨_, _, ?_, alone, finish_conditionsRead (alone.runsStage (arrived_runsStage .field hrun))⟩
  simp only [exec_loopCounts hd hl, loopCountsForwarded_iff hm]

theorem loopMoment_reads {i : Instr} {run : Env → Rt → Rt} (hrun : s.part.rt.runsStage c)
    (hexec : exec i s = .next (s.withRt (finish s.part.env (run s.part.env s.part.rt))))
    (alone : loopsAlone s.part.rt (run s.part.env s.part.rt)) :
    ∃ u1, loopsAlone s.part.rt u1 ∧ ∃ r, exec i s = .next (s.withRt r) ∧ conditionsRead s.part.env u1 r c :=
  ⟨_, alone, moment_reads hexec (alone.runsStage hrun)⟩

/-- The Loop Unit's timers (R104, R106, R108). -/
theorem loopTimer_reads {i : Instr} (hrun : s.part.rt.runsStage c)
    (hi : (∃ a k, i = .cardSilenceExpiry a ∧ s.part.rt.cardRec a = some k ∧ isDue s.part.env.now k.silenceDue = true) ∨
      (∃ l w, i = .tuneEchoExpiry l ∧ (s.part.rt.loops.recs.get l).sweep = some w ∧ isDue s.part.env.now w.echoDue = true) ∨
      (∃ l, i = .tuneRetryExpiry l ∧ isDue s.part.env.now (s.part.rt.loops.recs.get l).retryDue = true)) :
    ∃ u1, loopsAlone s.part.rt u1 ∧ ∃ r, exec i s = .next (s.withRt r) ∧ conditionsRead s.part.env u1 r c := by
  rcases hi with ⟨a, k, rfl, hk, hd⟩ | ⟨l, w, rfl, hw, hd⟩ | ⟨l, rfl, hd⟩
  · exact loopMoment_reads (run := fun e r => cardSilence e a r) hrun (whenDue_acts (i := .cardSilenceExpiry a) _ (by
      simp only [timeDue, hk]
      exact hd)) (cardSilence_loopsAlone a)
  · exact loopMoment_reads (run := fun e r => tuneEcho e l r) hrun (whenDue_acts (i := .tuneEchoExpiry l) _ (by
      simp only [timeDue, Rt.loopRec, hw]
      exact hd)) (tuneEcho_loopsAlone l)
  · exact loopMoment_reads (run := fun e r => tuneRetry e l r) hrun (whenDue_acts (i := .tuneRetryExpiry l) _ hd)
      (tuneRetry_loopsAlone l)

end

/-- Settles O32: each command's own effect by its lemma `…_reads`, whose reading of the conditions is `finish_conditionsRead`'s. -/
theorem runningStageReadsConditions : Obligations.RunningStageReadsConditions := by
  intro s c
  dsimp only
  intro hrun
  refine ⟨?_, ?_, ?_, ?_, ?_, ?_, ?_, ?_, ?_, ?_, ?_, ?_, ?_, ?_, ?_⟩
  · exact fun h b v g hd hm hb hg hv => softDemand_reads hrun hd hm hb hg hv
  · exact fun h i1 m entry l x f hf hd hlen hl hx hok => loopWrite_reads hrun hf hd hlen hl hx hok
  · exact fun h b hd hb => priorityEnable_reads hrun hd hb
  · exact fun h l1 l0 n1 n0 k x hd hn hk hx => cancelTram_reads hrun hd hn hk hx
  · intro hk hd
    have expired := exec_keepaliveWindowExpiry hk hd
    rw [windowRun_lapses hk hd] at expired
    exact lapse_reads (cause := .window) hrun expired
  · intro hk hd
    refine ⟨fun hr => ?_, fun hr => armReturn_reads hrun hk hd hr⟩
    have expired := exec_keepaliveArmExpiry hk hd
    rw [armRun_lapses hk hd hr] at expired
    exact lapse_reads (cause := .arm) hrun expired
  · exact fun h hd hm => ⟨fun hs => manualOn_reads hrun hd hm hs, fun hs => manualOff_reads hrun hd hm hs⟩
  · intro h pl x hd hx hm
    refine ⟨fun i hi code hr => refusedTelegram_reads hrun hd hx hm hi hr, fun route ok hr => ⟨fun k hk =>
      ⟨fun ht hp => checkIn_reads hrun hd hx hm ok hr hk ht hp, fun ht hp => doorClosed_reads hrun hd hx hm ok hr hk ht hp⟩,
      fun i cause hi => ?_⟩⟩
    rcases hi with ⟨ht, hp, rfl, rfl⟩ | ⟨ht, rfl, rfl⟩
    · exact checkout_reads (cause := .checkOut) hrun (exec_checkOut hd hx hm ok hr ht hp)
    · exact checkout_reads (cause := .cancel) hrun (exec_cancel hd hx hm ok hr ht)
  · exact fun h b x hd hx => ⟨fun ha hp hg => press_reads hrun hd hx ha hp hg, fun hi => ignoredPress_reads hrun hd hx hi⟩
  · intro a x hd hx
    have read := delay_reads hrun hd
    rw [delayExpiry_eq hd hx] at read
    exact read
  · intro g due hg hd
    have expired := exec_gapTimerExpiry hg hd
    exact moment_reads expired (runsStage_congr (by simp) (by simp) (by simp) hrun)
  · intro hd
    exact moment_reads (exec_lockoutExpiry hd) (runsStage_congr (by simp) (by simp) (by simp) hrun)
  · refine fun k x hx hd => ⟨fun ht => stopLimit_reads hrun hx hd ht,
      fun ht => guardEnd_reads hrun hx hd ht, fun ht => ?_⟩
    have read := windowEnd_reads hrun hx hd ht
    unfold TramRec.overdue at read
    exact read
  · exact fun h pl hd hl hm => loopCounts_reads hrun hd hl hm
  · exact fun i hi => loopTimer_reads hrun hi

end Sys2Proof.Machine

/-! SUPPORT. Proofs of the statements of the family 03_junction_modes_start_up_and_control_ownership: fault notices that bring
FLASH, a module's silence and a missing confirmation. -/

namespace Sys2Proof.Machine

section
variable {e : Env} {r r' t t' : Rt}

/-! ### The frames of a flash order (R167) -/

theorem sentAsStands_congr (hg : r'.groups = r.groups) (hb : r'.lamp.brightness = r.lamp.brightness) {x : ModuleRec}
    (h : sentAsStands e r x) : sentAsStands e r' x := by
  unfold sentAsStands
  rwa [hg, hb]

theorem sent_sentAsStands (e : Env) (r : Rt) (x : ModuleRec) :
    sentAsStands e r (x.sent e.now ⟨x.addr, slotAspects e r x.addr, r.lamp.brightness⟩) :=
  ⟨rfl, _, rfl, slotAspects_asStand e r x.addr⟩

/-- A frame that passes makes its module's record as the module stands, and leaves the other records. -/
theorem frameModule_sentAsStands {a : Byte} {done : List Byte} (hf : r.follows e)
    (h : ∀ x ∈ r.lamp.modules, x.addr ∈ done → sentAsStands e r x) :
    ∀ x ∈ (frameModule e a r).lamp.modules, x.addr ∈ a :: done → sentAsStands e (frameModule e a r) x := by
  rw [frameModule_modules hf]
  intro x hx ha
  obtain ⟨y, hy, rfl⟩ := List.mem_map.mp hx
  refine sentAsStands_congr (r := r) (by simp) (by simp) ?_
  by_cases here : y.addr = a
  · subst here
    rw [if_pos rfl]
    exact sent_sentAsStands e r y
  · rw [if_neg here] at ha ⊢
    exact h y hy (by simpa [here] using ha)

theorem foldl_frameModule_sentAsStands (l : List Byte) {done : List Byte} (hf : r.follows e)
    (h : ∀ x ∈ r.lamp.modules, x.addr ∈ done → sentAsStands e r x) :
    ∀ x ∈ (l.foldl (fun r a => frameModule e a r) r).lamp.modules, x.addr ∈ l ∨ x.addr ∈ done →
      sentAsStands e (l.foldl (fun r a => frameModule e a r) r) x := by
  induction l generalizing r done with
  | nil => simpa using h
  | cons a l ih =>
    intro x hx ha
    refine ih (frameModule_follows hf) (frameModule_sentAsStands (a := a) hf h) x hx ?_
    simp only [List.mem_cons] at ha ⊢
    tauto

/-- A flash order leaves every module's record as the module stands. -/
theorem flashOrder_sentAsStands (e : Env) (r : Rt) :
    ∀ x ∈ (flashOrder e r).lamp.modules, sentAsStands e (flashOrder e r) x := by
  rw [flashOrder, frameAll]
  intro x hx
  obtain ⟨-, addrs, -⟩ := foldl_frameModule_keeps e ((flashGroups e r).lamp.modules.map ModuleRec.addr) (flashGroups e r)
  refine foldl_frameModule_sentAsStands (done := []) _ (flashGroups_follows e r)
    (fun _ _ h => absurd h List.not_mem_nil) x hx (.inl ?_)
  rw [← addrs]
  exact List.mem_map_of_mem hx

/-! ### A fault notice that is taken (R47, R48) -/

/-- The blocks as a fault leaves them that brings FLASH. -/
structure Flashed (e : Env) (r t : Rt) : Prop where
  mode : t.mode = { r.mode with
    mode := .flash, sub := .none, phaseDue := none, source := .none, latch := true, pendingStep := false }
  groups : ∀ g : Group, (t.groups.get g).state = flashState e.tab g
  sent : ∀ x ∈ t.lamp.modules, sentAsStands e t x
  stage : t.stage = r.stage.idled
  active : t.demand.active = false
  trams : t.trams = r.trams
  record : r.report.record ≠ none → t.report.record = r.report.record

theorem Flashed.broughtToFlash {s : State} (h : Flashed s.part.env s.part.rt t) : broughtToFlash s (s.withRt t) :=
  ⟨h.mode, h.groups, h.sent, h.stage, h.active, h.trams, h.record⟩

theorem Flashed.quiet (h : Flashed e r t) : stagesRun t.mode.mode = false := by
  rw [h.mode]
  rfl

theorem Flashed.of_start (h : Flashed e r' t) (hm : r'.mode = r.mode) (hs : r'.stage.idled = r.stage.idled)
    (ht : r'.trams = r.trams) (hr : r.report.record ≠ none → r'.report.record = r.report.record) : Flashed e r t where
  mode := hm ▸ h.mode
  groups := h.groups
  sent := h.sent
  stage := h.stage.trans hs
  active := h.active
  trams := h.trams.trans ht
  record hn := (h.record (by rwa [hr hn])).trans (hr hn)

/-- What comes after FLASH and touches the report, the ring and the notices alone. -/
theorem Flashed.then (h : Flashed e r t) (hm : t'.mode = t.mode) (hg : t'.groups = t.groups) (hl : t'.lamp = t.lamp)
    (hs : t'.stage = t.stage) (hd : t'.demand = t.demand) (ht : t'.trams = t.trams)
    (hr : t.report.record ≠ none → t'.report.record = t.report.record) : Flashed e r t' where
  mode := hm.trans h.mode
  groups := hg ▸ h.groups
  sent x hx := sentAsStands_congr hg (congrArg _ hl) (h.sent x (hl ▸ hx))
  stage := hs.trans h.stage
  active := hd ▸ h.active
  trams := ht.trans h.trams
  record hn := (hr (by rwa [h.record hn])).trans (h.record hn)

theorem setMode_flash_lamp {sub : SubPhase} (hl : r.mode.mode ≠ .dark) : (setMode e .flash sub r).lamp = r.lamp := by
  have lamp : ∀ u : Rt, u.mode.mode = .flash → lampNotice e r.mode.mode u = u := fun u hu => by
    cases h : r.mode.mode <;> simp [h] at hl <;> simp [lampNotice, hu]
  rw [setMode_eq, lamp _ (by simp), loopNotice_lit hl (by simp)]
  simp

theorem faultPosted_lit {n : FaultNotice} (h : stagesRun r.mode.mode = true) :
    (flashOrder e (faultPosted e n r)).mode.mode ≠ .dark := fun hd => by
  have dark : r.mode.mode = .dark := by simpa [faultPosted] using hd
  simp [dark, stagesRun] at h

theorem postFault_record_kept {n : FaultNotice} (h : r.report.record ≠ none) :
    (postFault e n r).report.record = r.report.record := by
  obtain ⟨x, hx⟩ := Option.ne_none_iff_exists'.mp h
  simp [postFault, fillRecord, hx]

theorem takeNotice_lamp {n : FaultNotice} (h : stagesRun r.mode.mode = true) :
    (takeNotice e n r).lamp = (flashOrder e (faultPosted e n r)).lamp := by
  rw [takeNotice_serving h]
  simp [setMode_flash_lamp (faultPosted_lit h)]

theorem takeNotice_flashed (n : FaultNotice) (h : stagesRun r.mode.mode = true) : Flashed e r (takeNotice e n r) := by
  obtain ⟨mode, groups, active, stage, trams, -, -⟩ := takeNotice_values (e := e) (n := n) h
  refine ⟨mode, groups, fun x hx => ?_, stage, active, trams, fun hr => ?_⟩
  · have lamp := takeNotice_lamp (e := e) (n := n) h
    rw [lamp] at hx
    refine sentAsStands_congr ?_ (congrArg _ lamp) (flashOrder_sentAsStands e _ x hx)
    rw [takeNotice_serving h]
    simp
  · have kept : (faultPosted e n r).report.record = r.report.record := postFault_record_kept (by simpa using hr)
    rw [takeNotice_serving h]
    simp [setMode_record (faultPosted_lit h), kept]

/-- The events of a fault that brings FLASH: FAULT, MODE_CHANGE and SOURCE_CHANGE (R47). -/
theorem takeNotice_summary (n : FaultNotice) (h : stagesRun r.mode.mode = true) :
    let q := (takeNotice e n r).report.summary
    q.getLsbD 14 = true ∧ q.getLsbD 0 = true ∧ q.getLsbD 1 = true := by
  obtain ⟨-, -, -, -, -, fault, -⟩ := takeNotice_values (e := e) (n := n) h
  have moded := (setMode_postsOther e .flash .none _ (faultPosted_lit (e := e) (n := n) h) (by simp)).1 0
    (by simp [modeNoticed_summary])
  have sourced := (giveSource_postsOther e .none _).1 0 moded
  refine ⟨fault, ?_, ?_⟩
  · rw [takeNotice_serving h]
    simpa using sourced
  · rw [takeNotice_serving h]
    simp [giveSource, post_summary, EventKind.code]

theorem takeNotice_record {n : FaultNotice} (h : r.report.record = none) : (takeNotice e n r).report.record =
    some ⟨.fault n.kind, n.group1, n.group2, none, r.currentStage, e.now, n.addr⟩ := by
  cases hm : stagesRun r.mode.mode with
  | true =>
    obtain ⟨-, -, -, -, -, -, record⟩ := takeNotice_values (e := e) (n := n) hm
    exact record h
  | false => rw [takeNotice_quiet e n r hm, postFault_record h]

theorem takeNotice_record_kept {n : FaultNotice} (h : r.report.record ≠ none) :
    (takeNotice e n r).report.record = r.report.record := by
  cases hm : stagesRun r.mode.mode with
  | true => exact (takeNotice_flashed n hm).record h
  | false => rw [takeNotice_quiet e n r hm, postFault_record_kept h]

theorem takeNotice_fault (n : FaultNotice) : (takeNotice e n r).report.summary.getLsbD 14 = true := by
  cases hm : stagesRun r.mode.mode with
  | true => exact (takeNotice_summary n hm).1
  | false => rw [takeNotice_quiet e n r hm, postFault_summary]

/-! ### The notices of a command -/

/-- A property of module records that no frame changes holds once fault notices are taken. -/
theorem takeNotice_modules_inv (P : ModuleRec → Prop) (hP : ∀ now f m, P m → P (m.sent now f)) (n : FaultNotice)
    (h : ∀ m ∈ r.lamp.modules, P m) : ∀ m ∈ (takeNotice e n r).lamp.modules, P m := by
  cases hm : stagesRun r.mode.mode with
  | true =>
    rw [takeNotice_lamp hm, flashOrder]
    exact frameAll_modules_inv P hP e _ fun m hm => h m (by simpa [faultPosted] using hm)
  | false =>
    rw [takeNotice_quiet e n r hm]
    exact fun m hm => h m (by simpa using hm)

theorem takeFaults_modules_inv (P : ModuleRec → Prop) (hP : ∀ now f m, P m → P (m.sent now f))
    (h : ∀ m ∈ r.lamp.modules, P m) : ∀ m ∈ (takeFaults e r).lamp.modules, P m :=
  foldl_inv (fun r => ∀ m ∈ r.lamp.modules, P m) _ (fun _ n h => takeNotice_modules_inv P hP n h) _ _ h

theorem takeFaults_record_kept (h : r.report.record ≠ none) : (takeFaults e r).report.record = r.report.record :=
  foldl_inv (fun u => u.report.record = r.report.record) _
    (fun _ _ hu => (takeNotice_record_kept (by rwa [hu])).trans hu) _ _ rfl

theorem takeFaults_of_quiet (h : stagesRun r.mode.mode = false) : let t := takeFaults e r
    t.mode = r.mode ∧ t.groups = r.groups ∧ t.lamp = r.lamp ∧ t.stage = r.stage ∧ t.demand = r.demand ∧ t.trams = r.trams := by
  intro t
  have quiet : t = _ := takeFaults_quiet e r h
  rw [quiet]
  simp

/-- With notices waiting in STARTUP, RUNNING or SHUTDOWN, the first brings FLASH and the others are reported there. -/
theorem takeFaults_serving {n : FaultNotice} {l : List FaultNotice} (hn : r.notices = n :: l)
    (hm : stagesRun r.mode.mode = true) : let t := takeFaults e r
    Flashed e r t ∧ t.report.summary.getLsbD 14 = true ∧ (r.report.record = none → t.report.record =
      some ⟨.fault n.kind, n.group1, n.group2, none, r.currentStage, e.now, n.addr⟩) := by
  intro t
  have taken : t = _ := takeFaults_cons hn
  have first : Flashed e r (takeNotice e n (r.withNotices fun _ => [])) :=
    (takeNotice_flashed n (by simpa using hm)).of_start (by simp) (by simp) (by simp) (by simp)
  have summary : (takeNotice e n (r.withNotices fun _ => [])).report.summary.getLsbD 14 = true := takeNotice_fault n
  have record := takeNotice_record (e := e) (n := n) (r := r.withNotices fun _ => [])
  generalize takeNotice e n (r.withNotices fun _ => []) = u at *
  have quiet : stagesRun (u.withNotices fun _ => l).mode.mode = false := by simpa using first.quiet
  obtain ⟨mode, groups, lamp, stage, demand, trams⟩ := takeFaults_of_quiet (e := e) quiet
  obtain ⟨posts, kept⟩ := takeFaults_quiet_report e _ quiet
  rw [← taken] at mode groups lamp stage demand trams posts kept
  refine ⟨first.then mode groups lamp stage demand trams fun hr => ?_, posts.1 14 summary, fun hr => ?_⟩
  · rw [taken]
    exact takeFaults_record_kept (by simpa using hr)
  · exact kept _ (by simpa [Rt.currentStage] using record (by simpa using hr))

theorem takeFaults_fault (hn : r.notices ≠ []) : (takeFaults e r).report.summary.getLsbD 14 = true := by
  obtain ⟨n, l, hl⟩ := List.exists_cons_of_ne_nil hn
  cases hm : stagesRun r.mode.mode with
  | true => exact (takeFaults_serving hl hm).2.1
  | false =>
    rw [takeFaults_cons hl]
    refine (takeFaults_quiet_report e _ ?_).1.1 14 (takeNotice_fault n)
    rw [takeNotice_quiet e n _ (by simpa using hm)]
    simpa using hm

/-! ### A module's silence (R174) -/

/-- The blocks once a module is noted silent. -/
def moduleSilenced (a : Byte) (r : Rt) : Rt := updModule a (fun m => { m with silenceDue := none, silent := true }) r

theorem moduleSilenced_modules (a : Byte) (r : Rt) :
    ∀ n ∈ (moduleSilenced a r).lamp.modules, n.addr = a → n.silent = true ∧ n.silenceDue = none := by
  intro n hn ha
  rw [moduleSilenced, updModule_modules] at hn
  obtain ⟨x, -, rfl⟩ := List.mem_map.mp hn
  by_cases hx : x.addr = a
  · simp [hx]
  · simp [hx] at ha

theorem silenceExpiry_of_due {a : Byte} {m : ModuleRec} (hm : r.moduleRec a = some m) (hd : isDue e.now m.silenceDue = true) :
    (r.mode.mode = .dark → silenceExpiry e a r = moduleSilenced a r) ∧
    (r.mode.mode = .flash → silenceExpiry e a r = postModuleSilent e a (moduleSilenced a r)) ∧
    (stagesRun r.mode.mode = true →
      silenceExpiry e a r = handNotice ⟨.moduleSilent, none, none, some a, e.now⟩ (moduleSilenced a r)) := by
  refine ⟨fun h => ?_, fun h => ?_, fun h => ?_⟩
  · simp [silenceExpiry, hm, hd, h, moduleSilenced]
  · simp [silenceExpiry, hm, hd, h, moduleSilenced]
  · cases hr : r.mode.mode <;> simp [hr, stagesRun] at h <;> simp [silenceExpiry, hm, hd, hr, moduleSilenced]

theorem silenceExpiry_modules {a : Byte} {m : ModuleRec} (hm : r.moduleRec a = some m) (hd : isDue e.now m.silenceDue = true) :
    ∀ n ∈ (silenceExpiry e a r).lamp.modules, n.addr = a → n.silent = true ∧ n.silenceDue = none := by
  obtain ⟨dark, flash, serving⟩ := silenceExpiry_of_due hm hd
  have lamp : (silenceExpiry e a r).lamp = (moduleSilenced a r).lamp := by
    cases h : r.mode.mode with
    | dark => rw [dark h]
    | flash => rw [flash h]; simp [postModuleSilent]
    | startup | running | shutdown => rw [serving (by simp [h, stagesRun])]; simp
  rw [lamp]
  exact moduleSilenced_modules a r

/-- A time-driven command that changes no end condition acts when its moment has come, and the fault notices are taken. -/
theorem whenDue_actsQuiet {s : State} {i : Instr} (f : Env → Rt → Rt) (h : timeDue s.part.env s.part.rt i = true) :
    s.onPart (Part.whenDue i fun p => p.actQuiet f) =
      .next (s.withRt (takeFaults s.part.env (f s.part.env s.part.rt))) := by
  rw [whenDue_onPart s i (fun p => p.actQuiet f) h]
  rfl

theorem exec_moduleSilenceExpiry {s : State} {a : Byte} {m : ModuleRec} (hm : s.part.rt.moduleRec a = some m)
    (hd : isDue s.part.env.now m.silenceDue = true) : exec (.moduleSilenceExpiry a) s =
      .next (s.withRt (takeFaults s.part.env (silenceExpiry s.part.env a s.part.rt))) :=
  whenDue_actsQuiet (i := .moduleSilenceExpiry a) (fun e r => silenceExpiry e a r) (by simpa [timeDue, hm] using hd)

theorem silence_serving {a : Byte} {m : ModuleRec} (hm : r.moduleRec a = some m) (hd : isDue e.now m.silenceDue = true)
    (hn : r.notices = []) (hr : stagesRun r.mode.mode = true) : let t := takeFaults e (silenceExpiry e a r)
    Flashed e r t ∧ (r.report.record = none →
      t.report.record = some ⟨.fault .moduleSilent, none, none, none, r.currentStage, e.now, some a⟩) := by
  obtain ⟨-, -, serving⟩ := silenceExpiry_of_due hm hd
  have notices : (handNotice ⟨.moduleSilent, none, none, some a, e.now⟩ (moduleSilenced a r)).notices =
      [⟨.moduleSilent, none, none, some a, e.now⟩] := by simp [handNotice, moduleSilenced, hn]
  obtain ⟨flashed, -, record⟩ := takeFaults_serving (e := e) notices (by simpa [moduleSilenced] using hr)
  rw [serving hr]
  exact ⟨flashed.of_start (by simp [moduleSilenced]) (by simp [moduleSilenced]) (by simp [moduleSilenced])
    (by simp [moduleSilenced]), fun h => by simpa [moduleSilenced, Rt.currentStage] using record (by simpa [moduleSilenced] using h)⟩

theorem silence_flash {a : Byte} {m : ModuleRec} (hm : r.moduleRec a = some m) (hd : isDue e.now m.silenceDue = true)
    (hn : r.notices = []) (hr : r.mode.mode = .flash) : let t := takeFaults e (silenceExpiry e a r)
    t.mode = r.mode ∧ t.groups = r.groups ∧ t.report.summary.getLsbD 13 = true := by
  obtain ⟨-, flash, -⟩ := silenceExpiry_of_due hm hd
  rw [flash hr]
  rw [takeFaults_nil _ _ (by simp [postModuleSilent, moduleSilenced, hn])]
  simp [postModuleSilent, moduleSilenced, post_summary, EventKind.code]

theorem silence_brings_flash (s : State) (a : Byte) (m : ModuleRec) (hm : s.part.rt.moduleRec a = some m)
    (hd : isDue s.part.env.now m.silenceDue = true) (hn : s.part.rt.notices = []) :
    ∃ t, exec (.moduleSilenceExpiry a) s = .next t ∧ t.pending = s.pending ∧ t.part.env = s.part.env ∧
      (∀ n ∈ t.part.rt.lamp.modules, n.addr = a → n.silent = true ∧ n.silenceDue = none) ∧
      (stagesRun s.part.rt.mode.mode = true → broughtToFlash s t ∧
        (s.part.rt.report.record = none → t.part.rt.report.record = some ⟨.fault .moduleSilent, none, none, none,
          s.part.rt.currentStage, s.part.env.now, some a⟩)) ∧
      (s.part.rt.mode.mode = .flash → t.part.rt.mode = s.part.rt.mode ∧ t.part.rt.groups = s.part.rt.groups ∧
        t.part.rt.report.summary.getLsbD 13 = true) := by
  refine ⟨_, exec_moduleSilenceExpiry hm hd, rfl, rfl, ?_, fun hr => ?_, silence_flash hm hd hn⟩
  · exact takeFaults_modules_inv (fun n => n.addr = a → n.silent = true ∧ n.silenceDue = none) (fun _ _ _ h => h)
      (silenceExpiry_modules hm hd)
  · obtain ⟨flashed, record⟩ := silence_serving hm hd hn hr
    exact ⟨flashed.broughtToFlash, record⟩

/-! ### A missing confirmation (R171) -/

/-- The notice of a group's confirmation timer. -/
def confirmFault (e : Env) (g : Group) : FaultNotice := ⟨.confirmTimeout, some g, none, (e.tab.mapping g).map Mapping.addr, e.now⟩

theorem confirmNotice_notices (g : Group) (r : Rt) : (confirmNotice e g r).notices = r.notices ++ [confirmFault e g] := rfl

theorem foldl_confirmNotice_notices (l : List Group) (r : Rt) :
    (l.foldl (fun r k => confirmNotice e k r) r).notices = r.notices ++ l.map (confirmFault e) := by
  induction l generalizing r with
  | nil => simp
  | cons k l ih => simp [ih, confirmNotice_notices]

theorem foldl_confirmNotice_confirms {g : Group} (l : List Group) (h : g ∈ l ∨ r.lamp.confirms.get g = none) :
    (l.foldl (fun r k => confirmNotice e k r) r).lamp.confirms.get g = none := by
  induction l generalizing r with
  | nil => simpa using h
  | cons k l ih =>
    refine ih ?_
    have noticed : (confirmNotice e k r).lamp.confirms.get g = if k = g then none else r.lamp.confirms.get g := by
      simp [confirmNotice, upd_get]
    rw [noticed]
    by_cases hk : k = g
    · simp [hk]
    · simpa [hk, Ne.symm hk] using h

theorem confirmExpiry_of_due {g : Group} (h : confirmDue e r g = true) :
    (∃ l, (confirmExpiry e g r).notices = r.notices ++ confirmFault e g :: l) ∧ (confirmExpiry e g r).lamp.confirms.get g = none := by
  simp only [confirmExpiry, h, if_true]
  exact ⟨⟨_, by rw [foldl_confirmNotice_notices, List.map_cons]⟩, foldl_confirmNotice_confirms _ (.inl List.mem_cons_self)⟩

/-- A flash order leaves a confirmation record as it is or makes it absent (R170). -/
theorem flashOrder_confirms_none {g : Group} (h : r.lamp.confirms.get g = none) : (flashOrder e r).lamp.confirms.get g = none := by
  have ordered : ∀ u : Rt, ∀ k : Group, u.lamp.confirms.get g = none →
      (orderGroup (flashState e.tab k) k u).lamp.confirms.get g = none := fun u k hu => by
    unfold orderGroup
    split
    · exact hu
    · simp [upd_get, hu]
  have groups : (flashGroups e r).lamp.confirms.get g = none := by
    rw [flashGroups]
    exact foldl_inv (fun u => u.lamp.confirms.get g = none) _ ordered allGroups r h
  simpa [flashOrder] using groups

theorem takeFaults_confirms_none {g : Group} (h : r.lamp.confirms.get g = none) : (takeFaults e r).lamp.confirms.get g = none :=
  foldl_inv (fun u => u.lamp.confirms.get g = none) _ (fun u n hu => by
    cases hm : stagesRun u.mode.mode with
    | true =>
      rw [takeNotice_lamp hm]
      exact flashOrder_confirms_none (by simpa [faultPosted] using hu)
    | false =>
      rw [takeNotice_quiet e n u hm]
      simpa using hu) _ _ h

theorem exec_confirmTimeout {s : State} {g : Group} (hd : confirmDue s.part.env s.part.rt g = true) :
    exec (.confirmTimeout g) s = .next (s.withRt (takeFaults s.part.env (confirmExpiry s.part.env g s.part.rt))) :=
  whenDue_actsQuiet (i := .confirmTimeout g) (fun e r => confirmExpiry e g r) hd

theorem confirmTimeout_brings_flash (s : State) (g : Group) (c : ConfirmRec) (hc : s.part.rt.lamp.confirms.get g = some c)
    (hd : reached s.part.env.now c.due = true) (hn : s.part.rt.notices = []) (hm : stagesRun s.part.rt.mode.mode = true) :
    ∃ t, exec (.confirmTimeout g) s = .next t ∧ t.pending = s.pending ∧ t.part.env = s.part.env ∧
      broughtToFlash s t ∧ t.part.rt.lamp.confirms.get g = none ∧
      (s.part.rt.report.record = none → t.part.rt.report.record = some ⟨.fault .confirmTimeout, some g, none, none,
        s.part.rt.currentStage, s.part.env.now, (s.part.env.tab.mapping g).map Mapping.addr⟩) := by
  have due : confirmDue s.part.env s.part.rt g = true := by simpa [confirmDue, hc] using hd
  obtain ⟨⟨l, notices⟩, gone⟩ := confirmExpiry_of_due due
  rw [hn, List.nil_append] at notices
  obtain ⟨flashed, -, record⟩ := takeFaults_serving (e := s.part.env) notices (by simpa using hm)
  refine ⟨_, exec_confirmTimeout due, rfl, rfl, ?_, takeFaults_confirms_none gone, fun hr => ?_⟩
  · exact (flashed.of_start (by simp) (by simp) (by simp) (by simp)).broughtToFlash
  · simpa [confirmFault, Rt.currentStage] using record (by simpa using hr)

/-! ### A fault notice by itself -/

theorem notice_brings_flash (s : State) (n : FaultNotice) : let t := s.withRt (takeNotice s.part.env n s.part.rt)
    t.part.rt.report.summary.getLsbD 14 = true ∧
    (s.part.rt.report.record = none → t.part.rt.report.record =
      some ⟨.fault n.kind, n.group1, n.group2, none, s.part.rt.currentStage, s.part.env.now, n.addr⟩) ∧
    (s.part.rt.report.record ≠ none → t.part.rt.report.record = s.part.rt.report.record) ∧
    (stagesRun s.part.rt.mode.mode = true → broughtToFlash s t ∧ t.part.rt.report.summary.getLsbD 0 = true ∧
      t.part.rt.report.summary.getLsbD 1 = true) ∧
    (s.part.rt.mode.mode = .dark ∨ s.part.rt.mode.mode = .flash →
      t.part.rt = { s.part.rt with report := t.part.rt.report }) := by
  refine ⟨takeNotice_fault n, takeNotice_record, takeNotice_record_kept, fun hm => ?_, fun hm => ?_⟩
  · exact ⟨(takeNotice_flashed n hm).broughtToFlash, (takeNotice_summary n hm).2⟩
  · have quiet : stagesRun s.part.rt.mode.mode = false := by rcases hm with h | h <;> rw [h] <;> rfl
    have taken := takeNotice_quiet s.part.env n s.part.rt quiet
    have report : postFault s.part.env n s.part.rt =
      { s.part.rt with report := (postFault s.part.env n s.part.rt).report } := rfl
    exact taken.trans (report.trans (by rw [← taken]))

end

end Sys2Proof.Machine

/-! SUPPORT. Proofs of the statements of the family 03_junction_modes_start_up_and_control_ownership: what a LAMP_STATUS reports of
its outputs, and the fault that it gives. -/

namespace Sys2Proof.Machine

/-! ### Folds whose steps act each on an element of its own -/

/-- What the step at `a` brings about holds at the end of a fold, when the other steps leave its occasion as it is and none
undoes it. -/
theorem foldl_done_of_occasion {β ι : Type} {f : β → ι → β} {occasion : β → ι → Prop} {done : β → Prop}
    (brings : ∀ r a, occasion r a → done (f r a)) (keeps : ∀ r a, done r → done (f r a))
    (other : ∀ r a b, a ≠ b → occasion r a → occasion (f r b) a) {a : ι} :
    ∀ (l : List ι) (r : β), a ∈ l → occasion r a → done (l.foldl f r)
  | b :: l, r, ha, ho => by
    have kept : ∀ (l : List ι) (r : β), done r → done (l.foldl f r) := fun l => by
      induction l with
      | nil => exact fun _ h => h
      | cons c l ih => exact fun r h => ih _ (keeps r c h)
    by_cases hb : a = b
    · exact kept l _ (brings r b (hb ▸ ho))
    · exact foldl_done_of_occasion brings keeps other l _ ((List.mem_cons.mp ha).resolve_left hb) (other r a b hb ho)

/-- Without an occasion a fold leaves what its steps leave. -/
theorem foldl_eq_of_no_occasion {β ι γ : Type} {f : β → ι → β} {occasion : β → ι → Prop} {get : β → γ}
    (leaves : ∀ r a, ¬ occasion r a → get (f r a) = get r) (other : ∀ r a b, a ≠ b → occasion (f r b) a → occasion r a) :
    ∀ (l : List ι) (r : β), l.Nodup → (∀ a ∈ l, ¬ occasion r a) → get (l.foldl f r) = get r
  | [], _, _, _ => rfl
  | b :: l, r, hn, ho => by
    obtain ⟨hb, hl⟩ := List.nodup_cons.mp hn
    obtain ⟨here, rest⟩ := List.forall_mem_cons.mp ho
    refine (foldl_eq_of_no_occasion leaves other l _ hl fun a ha => ?_).trans (leaves r b here)
    exact fun h => rest a ha (other r a b (fun hab => hb (hab ▸ ha)) h)

/-! ### One output's report (R172, R173) -/

/-- The red lamp of a vehicle or tram group. -/
abbrev redLamp (e : Env) (g : Group) (o : Fin 3) : Prop := o = 0 ∧ (e.tab.gtype g = .vehicle ∨ e.tab.gtype g = .tram)

/-- Whether an output stands in the failed-output set after a report of state `code`, by whether it stood there (R173). -/
def failedAfter (red : Prop) (settling : Option Time) (code : Byte) (stood : Prop) : Prop :=
  (code = 2#8 ∧ (red ∨ settling = none ∨ stood)) ∨ (2 < code.toNat ∧ stood)

/-- An output that is reported FAILED and does not stand in the set. -/
abbrev failsNow (addr : Byte) (pl : List Byte) (r : Rt) (s : Slot) (o : Fin 3) : Prop :=
  slotOutput pl s o = 2#8 ∧ (⟨addr, s, o⟩ : FailedOutput) ∉ r.lamp.failed

section
variable {e : Env} {addr : Byte} {pl : List Byte} {s k : Slot} {o : Fin 3} {g : Group} {states : Vector GroupRec 24} {r t : Rt}

theorem toNat_gt_two {code : Byte} (h : code ≠ 2#8) (hc : ¬ code.toNat < 2) : 2 < code.toNat := by bv_omega

/-- An output joins the failed-output set (R173). -/
def failedJoined (me : FailedOutput) (r : Rt) : Rt := r.withLamp fun x => { x with failed := x.failed ++ [me] }

/-- The notice of a red lamp that fails (R172). -/
def redOutNotice (e : Env) (addr : Byte) (g : Group) : FaultNotice := ⟨.redOut, some g, none, some addr, e.now⟩

/-- The six cases of an output's report. -/
theorem outputReport_cases (e : Env) (addr : Byte) (s : Slot) (o : Fin 3) (g : Group) (code : Byte) (r : Rt) :
    let t := outputReport e addr s o g code r
    let me : FailedOutput := ⟨addr, s, o⟩
    code = 2#8 ∧ me ∈ r.lamp.failed ∧ t = r ∨
    code = 2#8 ∧ me ∉ r.lamp.failed ∧ redLamp e g o ∧ t = handNotice (redOutNotice e addr g) (failedJoined me r) ∨
    code = 2#8 ∧ me ∉ r.lamp.failed ∧ ¬ redLamp e g o ∧ r.lamp.settlingDue ≠ none ∧ t = r ∨
    code = 2#8 ∧ me ∉ r.lamp.failed ∧ ¬ redLamp e g o ∧ r.lamp.settlingDue = none ∧
      t = postLampFail e addr s o g (failedJoined me r) ∨
    code ≠ 2#8 ∧ code.toNat < 2 ∧ t = r.withLamp (fun x => { x with failed := x.failed.filter (· != me) }) ∨
    code ≠ 2#8 ∧ 2 < code.toNat ∧ t = r := by
  intro t me
  have ht : t = outputReport e addr s o g code r := rfl
  unfold outputReport at ht
  by_cases failed : code = 2#8
  · rw [if_pos failed] at ht
    by_cases stood : me ∈ r.lamp.failed
    · exact .inl ⟨failed, stood, ht.trans (if_pos (by simpa using stood))⟩
    · replace ht := ht.trans (if_neg (by simpa using stood))
      by_cases red : redLamp e g o
      · exact .inr (.inl ⟨failed, stood, red, ht.trans (if_pos red)⟩)
      · replace ht := ht.trans (if_neg red)
        by_cases settling : r.lamp.settlingDue = none
        · exact .inr (.inr (.inr (.inl ⟨failed, stood, red, settling, ht.trans (if_neg (by simp [settling]))⟩)))
        · exact .inr (.inr (.inl ⟨failed, stood, red, settling, ht.trans (if_pos (by simpa [Option.isSome_iff_ne_none] using settling))⟩))
  · rw [if_neg failed] at ht
    by_cases sound : code.toNat < 2
    · exact .inr (.inr (.inr (.inr (.inl ⟨failed, sound, ht.trans (if_pos sound)⟩))))
    · exact .inr (.inr (.inr (.inr (.inr ⟨failed, toNat_gt_two failed sound, ht.trans (if_neg sound)⟩))))

theorem outputReport_failed_other {code : Byte} {x : FailedOutput} (h : x ≠ ⟨addr, s, o⟩) :
    x ∈ (outputReport e addr s o g code r).lamp.failed ↔ x ∈ r.lamp.failed := by
  rcases outputReport_cases e addr s o g code r with ⟨-, -, eq⟩ | ⟨-, -, -, eq⟩ | ⟨-, -, -, -, eq⟩ | ⟨-, -, -, -, eq⟩ | ⟨-, -, eq⟩ | ⟨-, -, eq⟩
  all_goals rw [eq]
  all_goals simp [failedJoined, postLampFail, h]

theorem outputReport_failed_self {code : Byte} :
    (⟨addr, s, o⟩ : FailedOutput) ∈ (outputReport e addr s o g code r).lamp.failed ↔
      failedAfter (redLamp e g o) r.lamp.settlingDue code ((⟨addr, s, o⟩ : FailedOutput) ∈ r.lamp.failed) := by
  unfold failedAfter
  rcases outputReport_cases e addr s o g code r with ⟨failed, stood, eq⟩ | ⟨failed, new, red, eq⟩ | ⟨failed, new, red, settling, eq⟩ |
    ⟨failed, new, red, settling, eq⟩ | ⟨other, sound, eq⟩ | ⟨other, unread, eq⟩
  all_goals rw [eq]
  · tauto
  · have joined : (⟨addr, s, o⟩ : FailedOutput) ∈ (handNotice (redOutNotice e addr g) (failedJoined ⟨addr, s, o⟩ r)).lamp.failed := by
      simp [failedJoined]
    tauto
  · have least : ¬ 2 < code.toNat := by simp [failed]
    tauto
  · simp [failedJoined, postLampFail, failed, settling]
  · have least : ¬ 2 < code.toNat := by omega
    simp [other, least]
  · tauto

theorem outputReport_notices (h : redLamp e g o ∧ failsNow addr pl r s o) :
    (outputReport e addr s o g (slotOutput pl s o) r).notices = r.notices ++ [redOutNotice e addr g] := by
  obtain ⟨red, code, new⟩ := h
  rcases outputReport_cases e addr s o g (slotOutput pl s o) r with ⟨-, stood, -⟩ | ⟨-, -, -, eq⟩ | ⟨-, -, other, -⟩ | ⟨-, -, other, -⟩ |
    ⟨other, -⟩ | ⟨other, -⟩
  · exact absurd stood new
  · rw [eq]
    rfl
  · exact absurd red other
  · exact absurd red other
  · exact absurd code other
  · exact absurd code other

theorem outputReport_notices_kept (h : ¬ (redLamp e g o ∧ failsNow addr pl r s o)) :
    (outputReport e addr s o g (slotOutput pl s o) r).notices = r.notices := by
  rcases outputReport_cases e addr s o g (slotOutput pl s o) r with ⟨-, -, eq⟩ | ⟨code, new, red, -⟩ | ⟨-, -, -, -, eq⟩ | ⟨-, -, -, -, eq⟩ |
    ⟨-, -, eq⟩ | ⟨-, -, eq⟩
  case inr.inl => exact absurd ⟨red, code, new⟩ h
  all_goals rw [eq]
  all_goals simp [failedJoined, postLampFail]

theorem outputReport_lampFail (h : failsNow addr pl r s o) (hr : ¬ redLamp e g o) (hs : r.lamp.settlingDue = none) :
    (outputReport e addr s o g (slotOutput pl s o) r).report.summary.getLsbD 13 = true := by
  obtain ⟨code, new⟩ := h
  rcases outputReport_cases e addr s o g (slotOutput pl s o) r with ⟨-, stood, -⟩ | ⟨-, -, red, -⟩ | ⟨-, -, -, settling, -⟩ | ⟨-, -, -, -, eq⟩ |
    ⟨other, -⟩ | ⟨other, -⟩
  · exact absurd stood new
  · exact absurd red hr
  · exact absurd hs settling
  · rw [eq]
    simp [postLampFail, post_summary, EventKind.code]
  · exact absurd code other
  · exact absurd code other

theorem postLampFail_postsOther : postsOther r (postLampFail e addr s o g r) :=
  (post_postsOther e .lampFail _ _ _ (by simp)).trans (fillRecord_postsOther ..)

theorem outputReport_postsOther {code : Byte} : postsOther r (outputReport e addr s o g code r) := by
  rcases outputReport_cases e addr s o g code r with ⟨-, -, eq⟩ | ⟨-, -, -, eq⟩ | ⟨-, -, -, -, eq⟩ | ⟨-, -, -, -, eq⟩ | ⟨-, -, eq⟩ | ⟨-, -, eq⟩
  case inr.inr.inr.inl =>
    rw [eq]
    exact .trans (postsOther_of_eq rfl) postLampFail_postsOther
  all_goals exact postsOther_of_eq ((congrArg Rt.report eq).trans rfl)

theorem outputReport_record {code : Byte} (h : r.report.record ≠ none) :
    (outputReport e addr s o g code r).report.record = r.report.record := by
  obtain ⟨x, hx⟩ := Option.ne_none_iff_exists'.mp h
  rcases outputReport_cases e addr s o g code r with ⟨-, -, eq⟩ | ⟨-, -, -, eq⟩ | ⟨-, -, -, -, eq⟩ | ⟨-, -, -, -, eq⟩ | ⟨-, -, eq⟩ | ⟨-, -, eq⟩
  all_goals rw [eq]
  all_goals simp [failedJoined, postLampFail, fillRecord, hx]

/-! ### The go lamp's report (R172) -/

/-- Whether the go lamp's UNEXPECTED is noted at a slot of a module with a record. -/
def Rt.notedOf (r : Rt) (addr : Byte) (s : Slot) : Option Bool := (r.moduleRec addr).map fun m => m.noted.get s

/-- The go lamp's indication is set at a slot. -/
def goLampNoted (addr : Byte) (s : Slot) (b : Bool) (r : Rt) : Rt :=
  updModule addr (fun m => { m with noted := upd m.noted s fun _ => b }) r

/-- A go lamp that is reported UNEXPECTED in a group neither GREEN nor STARTING, and not noted yet. -/
abbrev litUnexpectedly (state : GroupState) (code : Byte) (noted : Option Bool) : Prop :=
  code = 3#8 ∧ state ≠ .green ∧ state ≠ .starting ∧ noted ≠ some true

/-- What is noted of a go lamp after a report of state `code` (R172). -/
def notedAfter (state : GroupState) (code : Byte) (noted : Bool) : Bool :=
  if litUnexpectedly state code (some noted) then true else if code.toNat < 3 then false else noted

/-- The notice of a go lamp that is lit unexpectedly (R172). -/
def unexpectedNotice (e : Env) (addr : Byte) (g : Group) : FaultNotice := ⟨.unexpectedCurrent, some g, none, some addr, e.now⟩

theorem goLampReport_of_lit {state : GroupState} {code : Byte} (h : litUnexpectedly state code (r.notedOf addr s)) :
    goLampReport e addr s g state code r = handNotice (unexpectedNotice e addr g) (goLampNoted addr s true r) := by
  obtain ⟨rfl, green, starting, noted⟩ := h
  unfold Rt.notedOf at noted
  cases hm : r.moduleRec addr <;> simp_all [goLampReport, unexpectedNotice, goLampNoted]

theorem goLampReport_of_not_lit {state : GroupState} {code : Byte} (h : ¬ litUnexpectedly state code (r.notedOf addr s)) :
    goLampReport e addr s g state code r = if code.toNat < 3 then goLampNoted addr s false r else r := by
  unfold Rt.notedOf at h
  by_cases lit : code = 3#8
  · subst lit
    cases hm : r.moduleRec addr <;> simp_all [goLampReport]
  · simp [goLampReport, lit, goLampNoted]

@[simp] theorem goLampNoted_frame {b : Bool} : (goLampNoted addr s b r).notices = r.notices ∧
    (goLampNoted addr s b r).lamp.failed = r.lamp.failed ∧ (goLampNoted addr s b r).report = r.report := by
  simp [goLampNoted]

theorem goLampNoted_notedOf {b : Bool} : (goLampNoted addr s b r).notedOf addr k =
    if s = k then (r.notedOf addr k).map fun _ => b else r.notedOf addr k := by
  unfold Rt.notedOf goLampNoted
  rw [moduleRec_updModule addr addr (fun m => { m with noted := upd m.noted s fun _ => b }) (fun _ => rfl)]
  cases hm : r.moduleRec addr with
  | none => simp
  | some m =>
    have own : m.addr = addr := by simpa using List.find?_some hm
    by_cases hk : s = k <;> simp [own, upd_get, hk]

theorem notedOf_congr (h : t.lamp.modules = r.lamp.modules) : t.notedOf addr s = r.notedOf addr s := by
  simp [Rt.notedOf, Rt.moduleRec, h]

theorem handNotice_notedOf {n : FaultNotice} : (handNotice n r).notedOf addr s = r.notedOf addr s :=
  notedOf_congr (by simp)

theorem goLampReport_noted_other {state : GroupState} {code : Byte} (h : s ≠ k) :
    (goLampReport e addr s g state code r).notedOf addr k = r.notedOf addr k := by
  by_cases lit : litUnexpectedly state code (r.notedOf addr s)
  · rw [goLampReport_of_lit lit, handNotice_notedOf, goLampNoted_notedOf, if_neg h]
  · rw [goLampReport_of_not_lit lit]
    split
    · rw [goLampNoted_notedOf, if_neg h]
    · rfl

theorem goLampReport_noted_self {state : GroupState} {code : Byte} :
    (goLampReport e addr s g state code r).notedOf addr s = (r.notedOf addr s).map (notedAfter state code) := by
  by_cases lit : litUnexpectedly state code (r.notedOf addr s)
  · rw [goLampReport_of_lit lit, handNotice_notedOf, goLampNoted_notedOf, if_pos rfl]
    cases hn : r.notedOf addr s with
    | none => rfl
    | some b =>
      rw [hn] at lit
      simp [notedAfter, lit]
  · rw [goLampReport_of_not_lit lit]
    cases hn : r.notedOf addr s with
    | none => split <;> simp [goLampNoted_notedOf, hn]
    | some b =>
      rw [hn] at lit
      have after : notedAfter state code b = if code.toNat < 3 then false else b := if_neg lit
      rw [Option.map_some, after]
      split
      · rw [goLampNoted_notedOf, if_pos rfl, hn, Option.map_some]
      · exact hn

theorem goLampReport_postsOther {state : GroupState} {code : Byte} : postsOther r (goLampReport e addr s g state code r) :=
  postsOther_of_eq (by simp)

/-! ### One slot's report -/

/-- The outputs of a slot against the failed-output set. -/
def outputsRead (e : Env) (addr : Byte) (s : Slot) (g : Group) (pl : List Byte) (r : Rt) : Rt :=
  [0, 1, 2].foldl (fun r o => outputReport e addr s o g (slotOutput pl s o) r) r

theorem slotOutputs_held (hg : e.tab.holder addr s = some g) : slotOutputs e addr states pl s r =
    goLampReport e addr s g (states.get g).state (slotOutput pl s 2) (outputsRead e addr s g pl r) := by
  simp only [slotOutputs, hg, outputsRead]

theorem slotOutputs_free (hg : e.tab.holder addr s = none) : slotOutputs e addr states pl s r = r := by
  simp only [slotOutputs, hg]

theorem mem_outputs (o : Fin 3) : o ∈ ([0, 1, 2] : List (Fin 3)) := by revert o; decide

theorem outputsRead_failed_other {x : FailedOutput} (h : ∀ o, x ≠ ⟨addr, s, o⟩) :
    x ∈ (outputsRead e addr s g pl r).lamp.failed ↔ x ∈ r.lamp.failed :=
  foldl_inv (fun u => x ∈ u.lamp.failed ↔ x ∈ r.lamp.failed) _ (fun _ o hu => (outputReport_failed_other (h o)).trans hu) _ _ .rfl

/-- What an output's report reads and writes of the set, and the settling window. -/
def outputView (addr : Byte) (s : Slot) (r : Rt) (o : Fin 3) : Prop × Option Time :=
  ((⟨addr, s, o⟩ : FailedOutput) ∈ r.lamp.failed, r.lamp.settlingDue)

theorem outputsRead_failed_self : (⟨addr, s, o⟩ : FailedOutput) ∈ (outputsRead e addr s g pl r).lamp.failed ↔
    failedAfter (redLamp e g o) r.lamp.settlingDue (slotOutput pl s o) ((⟨addr, s, o⟩ : FailedOutput) ∈ r.lamp.failed) := by
  obtain ⟨read, -⟩ := foldl_get_of_local (outputView addr s) (fun r o => outputReport e addr s o g (slotOutput pl s o) r)
    (fun o v v' => v'.1 ↔ failedAfter (redLamp e g o) v.2 (slotOutput pl s o) v.1)
    (fun r o k hk => Prod.ext (propext (outputReport_failed_other (by simpa using Ne.symm hk))) (by simp [outputView]))
    (fun r o => outputReport_failed_self) [0, 1, 2] r (by decide)
  exact read o (mem_outputs o)

theorem outputsRead_modules : (outputsRead e addr s g pl r).lamp.modules = r.lamp.modules :=
  foldl_inv (fun u => u.lamp.modules = r.lamp.modules) _ (fun _ _ hu => by simpa using hu) _ _ rfl

/-- Of a slot's outputs the red lamp alone gives a notice. -/
theorem outputsRead_notices : (outputsRead e addr s g pl r).notices = (outputReport e addr s 0 g (slotOutput pl s 0) r).notices :=
  (outputReport_notices_kept (pl := pl) (by simp)).trans (outputReport_notices_kept (pl := pl) (by simp))

theorem outputsRead_lampFail (h : failsNow addr pl r s o) (hr : ¬ redLamp e g o) (hs : r.lamp.settlingDue = none) :
    (outputsRead e addr s g pl r).report.summary.getLsbD 13 = true := by
  refine foldl_done_of_occasion (f := fun r o => outputReport e addr s o g (slotOutput pl s o) r)
    (occasion := fun r o => failsNow addr pl r s o ∧ ¬ redLamp e g o ∧ r.lamp.settlingDue = none)
    (done := fun r => r.report.summary.getLsbD 13 = true) (fun r o h => outputReport_lampFail h.1 h.2.1 h.2.2)
    (fun r o h => outputReport_postsOther.1 13 h) (fun r a b hab h => ?_) [0, 1, 2] r (mem_outputs o) ⟨h, hr, hs⟩
  obtain ⟨⟨code, new⟩, red, settling⟩ := h
  exact ⟨⟨code, fun hf => new ((outputReport_failed_other (by simpa using hab)).mp hf)⟩, red, by simpa using settling⟩

theorem outputsRead_postsOther : postsOther r (outputsRead e addr s g pl r) :=
  postsOther_foldl _ (fun _ _ => outputReport_postsOther) _ _

theorem outputsRead_record (h : r.report.record ≠ none) : (outputsRead e addr s g pl r).report.record = r.report.record :=
  foldl_inv (fun u => u.report.record = r.report.record) _ (fun _ _ hu => (outputReport_record (by rwa [hu])).trans hu) _ _ rfl

theorem slotOutputs_postsOther : postsOther r (slotOutputs e addr states pl s r) := by
  cases hg : e.tab.holder addr s with
  | none => exact slotOutputs_free (e := e) hg ▸ postsOther_of_eq rfl
  | some g => exact slotOutputs_held (e := e) hg ▸ outputsRead_postsOther.trans goLampReport_postsOther

theorem slotOutputs_record (h : r.report.record ≠ none) : (slotOutputs e addr states pl s r).report.record = r.report.record := by
  cases hg : e.tab.holder addr s with
  | none => rw [slotOutputs_free hg]
  | some g =>
    rw [slotOutputs_held hg]
    simpa using outputsRead_record h

theorem slotOutputs_failed_other {x : FailedOutput} (h : ∀ o, e.tab.holder addr s ≠ none → x ≠ ⟨addr, s, o⟩) :
    x ∈ (slotOutputs e addr states pl s r).lamp.failed ↔ x ∈ r.lamp.failed := by
  cases hg : e.tab.holder addr s with
  | none => rw [slotOutputs_free hg]
  | some g =>
    rw [slotOutputs_held hg]
    simpa using outputsRead_failed_other fun o => h o (by simp [hg])

theorem slotOutputs_failed_self (hg : e.tab.holder addr s = some g) :
    (⟨addr, s, o⟩ : FailedOutput) ∈ (slotOutputs e addr states pl s r).lamp.failed ↔
      failedAfter (redLamp e g o) r.lamp.settlingDue (slotOutput pl s o) ((⟨addr, s, o⟩ : FailedOutput) ∈ r.lamp.failed) := by
  rw [slotOutputs_held hg]
  simpa using outputsRead_failed_self

theorem slotOutputs_noted_other (h : s ≠ k) : (slotOutputs e addr states pl s r).notedOf addr k = r.notedOf addr k := by
  cases hg : e.tab.holder addr s with
  | none => rw [slotOutputs_free hg]
  | some g => rw [slotOutputs_held hg, goLampReport_noted_other h, notedOf_congr outputsRead_modules]

theorem slotOutputs_noted_self (hg : e.tab.holder addr s = some g) : (slotOutputs e addr states pl s r).notedOf addr s =
    (r.notedOf addr s).map (notedAfter (states.get g).state (slotOutput pl s 2)) := by
  rw [slotOutputs_held hg, goLampReport_noted_self, notedOf_congr outputsRead_modules]

/-- A slot's report gives a fault: a red lamp that fails, or a go lamp that is lit unexpectedly (R172). -/
def slotFault (e : Env) (addr : Byte) (states : Vector GroupRec 24) (pl : List Byte) (r : Rt) (s : Slot) : Prop :=
  ∃ g, e.tab.holder addr s = some g ∧ ((∃ o, redLamp e g o ∧ failsNow addr pl r s o) ∨
    litUnexpectedly (states.get g).state (slotOutput pl s 2) (r.notedOf addr s))

theorem goLampReport_notices {state : GroupState} {code : Byte} : (goLampReport e addr s g state code r).notices =
    if litUnexpectedly state code (r.notedOf addr s) then r.notices ++ [unexpectedNotice e addr g] else r.notices := by
  by_cases lit : litUnexpectedly state code (r.notedOf addr s)
  · rw [goLampReport_of_lit lit, if_pos lit]
    simp [handNotice]
  · rw [goLampReport_of_not_lit lit, if_neg lit]
    split <;> simp

theorem slotOutputs_notices (h : slotFault e addr states pl r s) : (slotOutputs e addr states pl s r).notices ≠ [] := by
  obtain ⟨g, hg, ⟨o, red, fails⟩ | lit⟩ := h
  · obtain rfl : o = 0 := red.1
    rw [slotOutputs_held hg, goLampReport_notices, outputsRead_notices, outputReport_notices ⟨red, fails⟩]
    split <;> simp
  · rw [slotOutputs_held hg, goLampReport_notices, notedOf_congr outputsRead_modules, if_pos lit]
    simp

theorem slotOutputs_notices_kept (h : ¬ slotFault e addr states pl r s) :
    (slotOutputs e addr states pl s r).notices = r.notices := by
  cases hg : e.tab.holder addr s with
  | none => rw [slotOutputs_free hg]
  | some g =>
    have unlit : ¬ litUnexpectedly (states.get g).state (slotOutput pl s 2) (r.notedOf addr s) := fun lit => h ⟨g, hg, .inr lit⟩
    rw [slotOutputs_held hg, goLampReport_notices, notedOf_congr outputsRead_modules, if_neg unlit, outputsRead_notices]
    exact outputReport_notices_kept fun red => h ⟨g, hg, .inl ⟨0, red⟩⟩

theorem slotOutputs_notices_left (h : r.notices ≠ []) : (slotOutputs e addr states pl s r).notices ≠ [] := by
  by_cases fault : slotFault e addr states pl r s
  · exact slotOutputs_notices fault
  · rwa [slotOutputs_notices_kept fault]

/-- A slot's report leaves what another slot's report reads and writes. -/
theorem slotFault_other (h : s ≠ k) : slotFault e addr states pl (slotOutputs e addr states pl s r) k ↔
    slotFault e addr states pl r k := by
  have failed : ∀ o, (⟨addr, k, o⟩ : FailedOutput) ∈ (slotOutputs e addr states pl s r).lamp.failed ↔
      (⟨addr, k, o⟩ : FailedOutput) ∈ r.lamp.failed := fun o => slotOutputs_failed_other fun _ _ => by simp [Ne.symm h]
  simp only [slotFault, failsNow, failed, slotOutputs_noted_other h]

/-! ### The outputs of a status -/

/-- The outputs of a status, slot by slot. -/
def statusRead (e : Env) (addr : Byte) (states : Vector GroupRec 24) (pl : List Byte) (r : Rt) : Rt :=
  allSlots.foldl (fun r s => slotOutputs e addr states pl s r) r

theorem mem_allSlots (s : Slot) : s ∈ allSlots := List.mem_finRange s

theorem allSlots_nodup : allSlots.Nodup := List.nodup_finRange 4

/-- What a slot's report reads and writes of the lamps. -/
def slotView (addr : Byte) (r : Rt) (s : Slot) : (Fin 3 → Prop) × Option Time × Option Bool :=
  (fun o => (⟨addr, s, o⟩ : FailedOutput) ∈ r.lamp.failed, r.lamp.settlingDue, r.notedOf addr s)

theorem slotView_other (h : s ≠ k) : slotView addr (slotOutputs e addr states pl s r) k = slotView addr r k := by
  refine Prod.ext (funext fun o => propext (slotOutputs_failed_other fun _ _ => ?_)) (Prod.ext ?_ (slotOutputs_noted_other h))
  · simp [Ne.symm h]
  · simp [slotView]

theorem statusRead_held (hg : e.tab.holder addr s = some g) : let t := statusRead e addr states pl r
    (∀ o, (⟨addr, s, o⟩ : FailedOutput) ∈ t.lamp.failed ↔ failedAfter (redLamp e g o) r.lamp.settlingDue (slotOutput pl s o)
      ((⟨addr, s, o⟩ : FailedOutput) ∈ r.lamp.failed)) ∧
    t.notedOf addr s = (r.notedOf addr s).map (notedAfter (states.get g).state (slotOutput pl s 2)) := by
  obtain ⟨read, -⟩ := foldl_get_of_local (slotView addr) (fun r s => slotOutputs e addr states pl s r)
    (fun s v v' => ∀ g, e.tab.holder addr s = some g →
      (∀ o, v'.1 o ↔ failedAfter (redLamp e g o) v.2.1 (slotOutput pl s o) (v.1 o)) ∧
      v'.2.2 = v.2.2.map (notedAfter (states.get g).state (slotOutput pl s 2)))
    (fun r s k hk => slotView_other hk)
    (fun r s g hg => ⟨fun o => slotOutputs_failed_self hg, slotOutputs_noted_self hg⟩) allSlots r allSlots_nodup
  exact read s (mem_allSlots s) g hg

theorem statusRead_failed_other {x : FailedOutput} (h : x.addr ≠ addr ∨ e.tab.holder x.addr x.slot = none) :
    x ∈ (statusRead e addr states pl r).lamp.failed ↔ x ∈ r.lamp.failed := by
  refine foldl_inv (fun u => x ∈ u.lamp.failed ↔ x ∈ r.lamp.failed) _ (fun u s hu => .trans ?_ hu) _ _ .rfl
  refine slotOutputs_failed_other fun o held hx => ?_
  subst hx
  exact h.elim (fun other => other rfl) held

theorem statusRead_lampFail (hg : e.tab.holder addr s = some g) (h : failsNow addr pl r s o) (hr : ¬ redLamp e g o)
    (hs : r.lamp.settlingDue = none) : (statusRead e addr states pl r).report.summary.getLsbD 13 = true := by
  refine foldl_done_of_occasion (f := fun r s => slotOutputs e addr states pl s r)
    (occasion := fun r k => k = s ∧ failsNow addr pl r s o ∧ r.lamp.settlingDue = none)
    (done := fun r => r.report.summary.getLsbD 13 = true) (fun r k h => ?_) (fun r k h => slotOutputs_postsOther.1 13 h)
    (fun r a b hab h => ?_) allSlots r (mem_allSlots s) ⟨rfl, h, hs⟩
  · obtain ⟨rfl, fails, settling⟩ := h
    rw [slotOutputs_held hg]
    exact goLampReport_postsOther.1 13 (outputsRead_lampFail fails hr settling)
  · obtain ⟨rfl, ⟨code, new⟩, settling⟩ := h
    exact ⟨rfl, ⟨code, fun hf => new ((slotOutputs_failed_other fun _ _ => by simp [hab]).mp hf)⟩, by simpa using settling⟩

theorem statusRead_notices (h : slotFault e addr states pl r s) : (statusRead e addr states pl r).notices ≠ [] :=
  foldl_done_of_occasion (done := fun u : Rt => u.notices ≠ []) (fun _ _ h => slotOutputs_notices h)
    (fun _ _ h => slotOutputs_notices_left h) (fun _ _ _ hab h => (slotFault_other (Ne.symm hab)).mpr h) allSlots r (mem_allSlots s) h

theorem statusRead_notices_kept (h : ∀ s, ¬ slotFault e addr states pl r s) :
    (statusRead e addr states pl r).notices = r.notices :=
  foldl_eq_of_no_occasion (get := Rt.notices) (fun _ _ h => slotOutputs_notices_kept h)
    (fun _ _ _ hab h => (slotFault_other (Ne.symm hab)).mp h) allSlots r allSlots_nodup fun s _ => h s

theorem statusRead_record (h : r.report.record ≠ none) : (statusRead e addr states pl r).report.record = r.report.record :=
  foldl_inv (fun u => u.report.record = r.report.record) _ (fun _ _ hu => (slotOutputs_record (by rwa [hu])).trans hu) _ _ rfl

theorem statusRead_keeps : let t := statusRead e addr states pl r
    t.mode = r.mode ∧ t.groups = r.groups ∧ t.stage = r.stage ∧ t.trams = r.trams :=
  foldl_inv (fun t => t.mode = r.mode ∧ t.groups = r.groups ∧ t.stage = r.stage ∧ t.trams = r.trams) _
    (fun _ _ ht => by simpa using ht) _ _ ⟨rfl, rfl, rfl, rfl⟩

end

end Sys2Proof.Machine

/-! SUPPORT. Proofs of the statements of the family 03_junction_modes_start_up_and_control_ownership: a LAMP_STATUS outside an
interstage as a whole, and the fault that it brings. -/

namespace Sys2Proof.Machine

section
variable {e : Env} {addr : Byte} {pl : List Byte} {s : Slot} {states : Vector GroupRec 24} {r t u c : Rt} {m : ModuleRec}

/-! ### The confirmations before the outputs (R169) -/

/-- From `r` to `t` green ends have been confirmed, and nothing else. -/
def onlyGreenEnds (r t : Rt) : Prop := t = { r with
  lamp := { r.lamp with confirms := t.lamp.confirms }
  monitor := t.monitor
  stage := { r.stage with greenEnds := t.stage.greenEnds } }

theorem onlyGreenEnds.trans (h : onlyGreenEnds r t) (h' : onlyGreenEnds t u) : onlyGreenEnds r u := by
  unfold onlyGreenEnds at *
  rw [h] at h'
  exact h'

theorem onlyGreenEnds.inter (h : onlyGreenEnds r t) : t.stage.inter = r.stage.inter := by
  unfold onlyGreenEnds at h
  rw [h]

theorem slotConfirm_onlyGreenEnds (hi : r.stage.inter = none) : onlyGreenEnds r (slotConfirm e addr pl s r) := by
  by_cases hc : ∃ g, slotConfirms e addr pl r s g
  · obtain ⟨g, hg⟩ := hc
    rw [slotConfirm_of_confirms hg, confirmed_eq, hi]
    simp [onlyGreenEnds, confirmNoted, hi]
  · rw [slotConfirm_of_not_confirms (not_exists.mp hc)]
    rfl

theorem foldl_slotConfirm_onlyGreenEnds (l : List Slot) (hi : r.stage.inter = none) :
    onlyGreenEnds r (l.foldl (fun r s => slotConfirm e addr pl s r) r) :=
  foldl_inv (onlyGreenEnds r) _ (fun _ _ h => h.trans (slotConfirm_onlyGreenEnds (h.inter.trans hi))) _ _ rfl

/-- What the arrival of a status and its confirmations leave of what its outputs are read against. -/
structure StatusConfirmed (addr : Byte) (r c : Rt) : Prop where
  failed : c.lamp.failed = r.lamp.failed
  settling : c.lamp.settlingDue = r.lamp.settlingDue
  noted : ∀ s, c.notedOf addr s = r.notedOf addr s
  notices : c.notices = r.notices
  mode : c.mode = r.mode
  groups : c.groups = r.groups
  stage : c.stage.idled = r.stage.idled
  trams : c.trams = r.trams
  record : c.report.record = r.report.record

theorem updModule_notedOf {a : Byte} {f : ModuleRec → ModuleRec} (ha : ∀ m, (f m).addr = m.addr) (hf : ∀ m, (f m).noted = m.noted) :
    (updModule a f r).notedOf addr s = r.notedOf addr s := by
  unfold Rt.notedOf
  rw [moduleRec_updModule a addr f ha, Option.map_map]
  congr 1
  funext m
  by_cases h : m.addr = a <;> simp [h, hf]

theorem statusSeen_notedOf : (statusSeen e addr r).notedOf addr s = r.notedOf addr s :=
  updModule_notedOf (fun _ => rfl) (fun _ => rfl)

theorem onlyGreenEnds.statusConfirmed (h : onlyGreenEnds (statusSeen e addr r) c) : StatusConfirmed addr r c := by
  have noted : ∀ s, c.notedOf addr s = r.notedOf addr s := fun s => by
    refine (notedOf_congr (r := statusSeen e addr r) ?_).trans statusSeen_notedOf
    rw [onlyGreenEnds] at h
    rw [h]
  rw [onlyGreenEnds] at h
  refine ⟨?_, ?_, noted, ?_, ?_, ?_, ?_, ?_, ?_⟩
  all_goals rw [h]
  all_goals simp [StageUnit.idled]

/-- A status outside an interstage: its confirmations, and then its outputs. -/
theorem takeLampStatus_read (hm : r.moduleRec addr = some m) (hi : r.stage.inter = none) :
    ∃ c, StatusConfirmed addr r c ∧ takeLampStatus e addr pl r = statusRead e addr r.groups pl c :=
  ⟨_, (foldl_slotConfirm_onlyGreenEnds allSlots (by simpa using hi)).statusConfirmed, takeLampStatus_eq hm⟩

theorem StatusConfirmed.slotFault (h : StatusConfirmed addr r c) :
    slotFault e addr states pl c s ↔ slotFault e addr states pl r s := by
  simp only [Machine.slotFault, failsNow, h.failed, h.noted]

/-! ### What the fault notices leave -/

theorem frameModule_notedOf {a : Byte} : (frameModule e a r).notedOf addr s = r.notedOf addr s := by
  unfold frameModule handFrame
  split
  · exact handNotice_notedOf
  · rw [updModule_notedOf (f := ModuleRec.sent e.now _) (fun _ => rfl) (fun _ => rfl)]
    exact notedOf_congr (by simp)

theorem flashOrder_notedOf : (flashOrder e r).notedOf addr s = r.notedOf addr s := by
  rw [flashOrder, frameAll]
  refine (foldl_inv (fun u => u.notedOf addr s = (flashGroups e r).notedOf addr s) _
    (fun _ _ hu => frameModule_notedOf.trans hu) _ _ rfl).trans (notedOf_congr (by simp))

theorem takeNotice_notedOf {n : FaultNotice} : (takeNotice e n r).notedOf addr s = r.notedOf addr s := by
  cases hm : stagesRun r.mode.mode with
  | true => exact (notedOf_congr (congrArg _ (takeNotice_lamp hm))).trans (flashOrder_notedOf.trans (notedOf_congr (by simp [faultPosted])))
  | false => exact takeNotice_quiet e n r hm ▸ notedOf_congr (by simp)

theorem takeFaults_notedOf : (takeFaults e r).notedOf addr s = r.notedOf addr s :=
  foldl_inv (fun u => u.notedOf addr s = r.notedOf addr s) _ (fun _ _ hu => takeNotice_notedOf.trans hu) _ _ rfl

/-- An event kind that stands in the summary stays there while fault notices are taken (R193). -/
theorem takeNotice_summary_kept {n : FaultNotice} {i : Nat} (h : r.report.summary.getLsbD i = true) :
    (takeNotice e n r).report.summary.getLsbD i = true := by
  cases hm : stagesRun r.mode.mode with
  | true =>
    have posted := (postFault_postsOther e n (r.withMode fun m => { m with latch := true })).1 i h
    have ordered := (flashOrder_postsOther e (faultPosted e n r)).1 i posted
    have moded := (setMode_postsOther e .flash .none _ (faultPosted_lit (e := e) (n := n) hm) (by simp)).1 i
      (by simp [modeNoticed_summary, ordered])
    have sourced := (giveSource_postsOther e .none _).1 i moded
    rw [takeNotice_serving hm]
    simpa using sourced
  | false =>
    rw [takeNotice_quiet e n r hm]
    exact (postFault_postsOther e n r).1 i h

theorem takeFaults_summary_kept {i : Nat} (h : r.report.summary.getLsbD i = true) :
    (takeFaults e r).report.summary.getLsbD i = true :=
  foldl_inv (fun u => u.report.summary.getLsbD i = true) _ (fun _ _ hu => takeNotice_summary_kept hu) _ _ h

theorem forwardTo_postsOther (p : Port) (f : Frame) : postsOther r (forwardTo e p f r) := by
  simp only [forwardTo]
  split
  · exact postsOther_of_eq rfl
  · split
    · exact postsOther_of_eq rfl
    · exact .trans (postsOther_of_eq rfl) (post_postsOther e .forwardOverflow _ _ _ (by simp))

theorem Flashed.forwarded {p : Port} {f : Frame} (h : Flashed e r t) : Flashed e r (forwardTo e p f t) :=
  h.then (by simp) (by simp) (by simp) (by simp) (by simp) (by simp) (by simp)

/-! ### A status and its faults (R172, R173) -/

/-- A status outside an interstage once its fault notices are taken. -/
def statusTaken (e : Env) (addr : Byte) (pl : List Byte) (r : Rt) : Rt := takeFaults e (takeLampStatus e addr pl r)

theorem statusTaken_held {g : Group} (hm : r.moduleRec addr = some m) (hi : r.stage.inter = none)
    (hg : e.tab.holder addr s = some g) : let t := statusTaken e addr pl r
    (∀ o, (⟨addr, s, o⟩ : FailedOutput) ∈ t.lamp.failed ↔ failedAfter (redLamp e g o) r.lamp.settlingDue (slotOutput pl s o)
      ((⟨addr, s, o⟩ : FailedOutput) ∈ r.lamp.failed)) ∧
    (∀ o, failsNow addr pl r s o → ¬ redLamp e g o → r.lamp.settlingDue = none → t.report.summary.getLsbD 13 = true) ∧
    t.notedOf addr s = (r.notedOf addr s).map (notedAfter (r.groups.get g).state (slotOutput pl s 2)) := by
  obtain ⟨c, confirmed, taken⟩ := takeLampStatus_read (e := e) (pl := pl) hm hi
  obtain ⟨failed, noted⟩ := statusRead_held (states := r.groups) (pl := pl) (r := c) hg
  simp only [confirmed.failed, confirmed.settling, confirmed.noted] at failed noted
  refine ⟨fun o => ?_, fun o fails red settling => ?_, ?_⟩
  · simpa [statusTaken, taken] using failed o
  · refine takeFaults_summary_kept ?_
    rw [taken]
    refine statusRead_lampFail hg ?_ red (confirmed.settling.trans settling)
    simpa only [failsNow, confirmed.failed] using fails
  · rw [statusTaken, takeFaults_notedOf, taken, noted]

theorem statusTaken_failed_other {x : FailedOutput} (hm : r.moduleRec addr = some m) (hi : r.stage.inter = none)
    (hx : x.addr ≠ addr ∨ e.tab.holder x.addr x.slot = none) : x ∈ (statusTaken e addr pl r).lamp.failed ↔ x ∈ r.lamp.failed := by
  obtain ⟨c, confirmed, taken⟩ := takeLampStatus_read (e := e) (pl := pl) hm hi
  have other := statusRead_failed_other (states := r.groups) (pl := pl) (r := c) hx
  rw [confirmed.failed] at other
  simpa [statusTaken, taken] using other

theorem takeLampStatus_faulty (hm : r.moduleRec addr = some m) (hi : r.stage.inter = none) {k : Slot}
    (h : slotFault e addr r.groups pl r k) : (takeLampStatus e addr pl r).notices ≠ [] := by
  obtain ⟨c, confirmed, taken⟩ := takeLampStatus_read (e := e) (pl := pl) hm hi
  rw [taken]
  exact statusRead_notices (confirmed.slotFault.mpr h)

theorem statusTaken_fault (hm : r.moduleRec addr = some m) (hi : r.stage.inter = none) {k : Slot}
    (h : slotFault e addr r.groups pl r k) : (statusTaken e addr pl r).report.summary.getLsbD 14 = true :=
  takeFaults_fault (takeLampStatus_faulty hm hi h)

theorem statusTaken_flashed (hm : r.moduleRec addr = some m) (hi : r.stage.inter = none) {k : Slot}
    (h : slotFault e addr r.groups pl r k) (hr : stagesRun r.mode.mode = true) : Flashed e r (statusTaken e addr pl r) := by
  obtain ⟨n, l, notices⟩ := List.exists_cons_of_ne_nil (takeLampStatus_faulty hm hi h)
  obtain ⟨c, confirmed, taken⟩ := takeLampStatus_read (e := e) (pl := pl) hm hi
  obtain ⟨mode, groups, stage, trams⟩ := statusRead_keeps (e := e) (addr := addr) (states := r.groups) (pl := pl) (r := c)
  rw [← taken] at mode groups stage trams
  obtain ⟨flashed, -, -⟩ := takeFaults_serving (e := e) notices (by rwa [mode, confirmed.mode])
  refine flashed.of_start (mode.trans confirmed.mode) ((congrArg _ stage).trans confirmed.stage) (trams.trans confirmed.trams) fun hn => ?_
  rw [taken]
  exact (statusRead_record (by rwa [confirmed.record])).trans confirmed.record

theorem statusTaken_stays (hm : r.moduleRec addr = some m) (hi : r.stage.inter = none) (hn : r.notices = [])
    (h : (∀ k, ¬ slotFault e addr r.groups pl r k) ∨ stagesRun r.mode.mode = false) :
    (statusTaken e addr pl r).mode = r.mode ∧ (statusTaken e addr pl r).groups = r.groups := by
  obtain ⟨c, confirmed, taken⟩ := takeLampStatus_read (e := e) (pl := pl) hm hi
  obtain ⟨mode, groups, -, -⟩ := statusRead_keeps (e := e) (addr := addr) (states := r.groups) (pl := pl) (r := c)
  rw [← taken] at mode groups
  have stays : (statusTaken e addr pl r).mode = (takeLampStatus e addr pl r).mode ∧
      (statusTaken e addr pl r).groups = (takeLampStatus e addr pl r).groups := by
    rcases h with sound | quiet
    · have none_given : (takeLampStatus e addr pl r).notices = [] := by
        rw [taken, statusRead_notices_kept fun k hk => sound k (confirmed.slotFault.mp hk), confirmed.notices, hn]
      rw [statusTaken, takeFaults_nil _ _ none_given]
      exact ⟨rfl, rfl⟩
    · obtain ⟨mode', groups', -⟩ := takeFaults_of_quiet (e := e) (r := takeLampStatus e addr pl r) (by rwa [mode, confirmed.mode])
      exact ⟨mode', groups'⟩
  exact ⟨stays.1.trans (mode.trans confirmed.mode), stays.2.trans (groups.trans confirmed.groups)⟩

theorem slotFault_iff {a : Slot} (hm : r.moduleRec addr = some m) : slotFault e addr states pl r a ↔
    ∃ g, e.tab.holder addr a = some g ∧ ((∃ o, redLamp e g o ∧ failsNow addr pl r a o) ∨
      (slotOutput pl a 2 = 3#8 ∧ (states.get g).state ≠ .green ∧ (states.get g).state ≠ .starting ∧ m.noted.get a = false)) := by
  simp [slotFault, litUnexpectedly, Rt.notedOf, hm]

end

/-- Settles O60: the notices by `Flashed`, what the outputs leave slot by slot, and the notices that a status gives by `slotFault`. -/
theorem faultNoticesBringFlash : Obligations.FaultNoticesBringFlash := by
  refine ⟨silence_brings_flash, confirmTimeout_brings_flash, notice_brings_flash, ?_⟩
  intro s h pl m
  dsimp only
  intro hd hl hm hn hp hi
  have arrived : (s.part.arrived .field).lamp = s.part.rt.lamp ∧ (s.part.arrived .field).stage = s.part.rt.stage ∧
      (s.part.arrived .field).groups = s.part.rt.groups ∧ (s.part.arrived .field).mode = s.part.rt.mode ∧
      (s.part.arrived .field).notices = s.part.rt.notices ∧ (s.part.arrived .field).trams = s.part.rt.trams ∧
      (s.part.arrived .field).report.record = s.part.rt.report.record := by simp
  obtain ⟨lamp, stage, groups, mode, notices, trams, record⟩ := arrived
  have acts := exec_lampStatus s h pl hd hl
  simp only [hp, if_false] at acts
  generalize s.part.arrived .field = r at *
  replace hm : r.moduleRec h.src = some m := (moduleRec_congr lamp _).trans hm
  replace hi : r.stage.inter = none := stage ▸ hi
  replace hn : r.notices = [] := notices.trans hn
  rw [← lamp, ← groups, ← mode]
  have forwarded := forwardTo_frame s.part.env .head (h.frame kindLampStatus pl) (statusTaken s.part.env h.src pl r)
  obtain ⟨-, -, -, -, modeF, groupsF, -, lampF, -⟩ := forwarded
  have posts : postsOther (statusTaken s.part.env h.src pl r) (forwardTo s.part.env .head (h.frame kindLampStatus pl)
      (statusTaken s.part.env h.src pl r)) := forwardTo_postsOther _ _
  refine ⟨_, acts, rfl, rfl, fun a g o hg => ?_, fun x hx => ?_, fun a g hg => ?_, fun hf => ?_, fun hf hr => ?_, fun hf => ?_⟩
  · obtain ⟨failed, lampFail, -⟩ := statusTaken_held (pl := pl) hm hi hg
    exact ⟨lampF ▸ failed o, fun fails red settling => posts.1 13 (lampFail o fails red settling)⟩
  · exact lampF ▸ statusTaken_failed_other hm hi hx
  · obtain ⟨-, -, noted⟩ := statusTaken_held (pl := pl) hm hi hg
    have before : r.notedOf h.src a = some (m.noted.get a) := by rw [Rt.notedOf, hm, Option.map_some]
    rw [before, ← notedOf_congr (congrArg _ lampF)] at noted
    refine noted.trans (congrArg some ?_)
    simp only [notedAfter, litUnexpectedly, ne_eq, Option.some.injEq, Bool.not_eq_true]
  · obtain ⟨k, fault⟩ := exists_congr (fun _ => slotFault_iff hm) |>.mpr hf
    exact posts.1 14 (statusTaken_fault hm hi fault)
  · obtain ⟨k, fault⟩ := exists_congr (fun _ => slotFault_iff hm) |>.mpr hf
    refine ((statusTaken_flashed hm hi fault hr).forwarded.of_start mode ?_ trams fun _ => record).broughtToFlash
    rw [stage]
  · obtain ⟨mode', groups'⟩ := statusTaken_stays (e := s.part.env) (pl := pl) hm hi hn
      (hf.imp_left fun sound k fault => sound ⟨k, (slotFault_iff hm).mp fault⟩)
    exact ⟨modeF.trans mode', groupsF.trans groups'⟩

end Sys2Proof.Machine
